-- ==== Sys2Proof/Word.lean ====
section
/-! DEFINITION. The byte, the unit of every frame that crosses the part's boundary (R152, R170, R179), and the 16-bit
check word (R19, R152, R170). Quantities the manual counts in (positions, speeds, counts) are `Nat` or `Int`. -/

namespace Sys2Proof

/-- One byte of a consist line frame or of a radio frame. -/
abbrev Byte := BitVec 8

/-- A 16-bit check word: the CRC of R19, R152 and section 10.1. -/
abbrev Check := BitVec 16

/-- A byte from a number, taken modulo 256. -/
def Byte.ofNat (n : Nat) : Byte := BitVec.ofNat 8 n

end Sys2Proof
end

