-- ==== Sys2Proof/Syntax.lean ====
section
/-! DEFINITION. The commands of the KC2260: one constructor of `Instr` for each of the 73 rows of spec/opcode_table.json,
with the data that reaches the part with it (telegram fields, measured currents, frame bytes, contact readings). -/

namespace Sys2Proof

/-- The four loop channels (section 2.1), numbered 1 to 4 in this order. -/
inductive LoopChannel where
  | cogA | cogB | wheelA | wheelB
  deriving DecidableEq, Repr

/-- The two cog brake channels CB_A and CB_B (section 6.1), numbered 1 and 2. -/
inductive CogChannel where
  | cbA | cbB
  deriving DecidableEq, Repr

/-- The four door leaves (section 8.1), numbered 1 to 4 in this order; leaf n is served by DOU n. -/
inductive Leaf where
  | lh1 | lh2 | rh1 | rh2
  deriving DecidableEq, Repr

/-- The two sides of the car (section 8.1): LEFT 1, RIGHT 2. -/
inductive Side where
  | left | right
  deriving DecidableEq, Repr

/-- The two line ports (section 10.1): A 1, B 2. -/
inductive Port where
  | a | b
  deriving DecidableEq, Repr

/-- How a telegram's copy was addressed: to the car's number, to a group, or to the whole train (R171, R177). -/
inductive Addressing where
  | car | group | broadcast
  deriving DecidableEq, Repr

/-- What the header of a telegram tells telegram acceptance besides the kind: the addressing and the seq (R177). -/
structure Via where
  addressing : Addressing
  seq : Nat
  deriving DecidableEq, Repr

/-- How the symbols of a received frame closed (R170): an end symbol, an abort symbol, or neither. -/
inductive Closing where
  | endSymbol | abortSymbol | stopped
  deriving DecidableEq, Repr

/-- The link states of the VRL (R151), in the code order of R179. -/
inductive LinkState where
  | lost | linking | linked | shadow
  deriving DecidableEq, Repr, Inhabited

/-- The leaf position of a DOU's status reply (section 8.2). -/
inductive LeafPosition where
  | closedLocked | closedUnlocked | moving | opened
  deriving DecidableEq, Repr

/-- A DOU's status reply (section 8.2). -/
structure StatusReply where
  position : LeafPosition
  obstacle : Bool
  openRequest : Bool
  deriving DecidableEq, Repr

/-- What a DOU sends back on the door bus (section 8.2). -/
inductive DouReply where
  | ack
  | nak
  | status (r : StatusReply)
  deriving DecidableEq, Repr

/-- One marker of a segment as a SEGMENT LOAD or SEGMENT DELIVERY body carries it (section 9.5). -/
structure MarkerField where
  id : Nat
  offset : Nat
  deriving DecidableEq, Repr

/-- The body of a SEGMENT LOAD telegram or SEGMENT DELIVERY order, field by field (section 9.5, R162, R179). The kind byte
is kept whole, because R162 refuses its spare bits; the marker count byte is the length of the marker list. -/
structure SegmentBody where
  id : Nat
  low : Nat
  length : Nat
  kindByte : Nat
  gradient : Int
  upLimit : Nat
  downLimit : Nat
  platformLow : Nat
  platformHigh : Nat
  markers : List MarkerField
  deriving DecidableEq, Repr

/-- The telegrams of R178 that telegram acceptance hands to a block, with the payload fields of R179. ROLL CALL is not one:
it is judged by R175. Numeric fields are kept as carried, since judging their range is the owning block's. -/
inductive Telegram where
  | driverDemand (direction level release load : Nat)
  | positionSet (position : Nat)
  | emergency
  | emergencyRelease (mask : Nat)
  | doorRelease (side : Nat) (autoOpen noPlatform : Bool)
  | doorClose (side : Nat)
  | testOn
  | testOff
  | select (channel : Nat)
  | deselect
  | testRelease
  | testApply
  | segmentLoad (body : SegmentBody)
  | segmentRemove (id : Nat)
  | pinWindowSet (window : Nat) (valid : Bool) (value mask : Nat)
  | restrictionAdd (id low high speed appliesTo : Nat)
  | restrictionCancel (id : Nat)
  | parameterSet (id value : Nat)
  | parameterRead (id : Nat)
  | statusRead (page : Nat)
  | faultRead
  | faultRecordRead
  | groupSet (entry : Nat) (valid : Bool) (value mask : Nat)
  | restart
  | eventEnableSet (mask : Nat)
  | eventEnableClear (mask : Nat)
  | eventLevelSet (source level route : Nat)
  | eventClear (mask : Nat)
  | noticePoll
  | radioRelay (kind number : Nat) (body : List Byte)
  | radioStatus (link station : Nat)
  deriving DecidableEq, Repr

/-- The orders of the valley whose body fits their kind (section 9.5), carried by a radio frame or a RADIO RELAY. -/
inductive Order where
  | restrictionAdd (id low high speed appliesTo : Nat)
  | restrictionCancel (id : Nat)
  | remoteStop
  | stopRelease (number : Nat)
  | segmentDelivery (body : SegmentBody)
  | positionPoll
  deriving DecidableEq, Repr

/-- The commands of the part, one constructor per row of spec/opcode_table.json, in the table's order. A telegram command is
a well-formed copy of that telegram handed to telegram acceptance (R177); an event command is the event of that name. -/
inductive Instr where
  /-- Power is applied; `strap` is the level of RADIO_ROLE sampled as the reset ends (R151). -/
  | powerOnReset (strap : Bool)
  /-- RESETn is driven low (R107, R170). -/
  | resetnAssert
  /-- RESETn is released; `strap` is the level of RADIO_ROLE sampled as the reset ends (R151). -/
  | resetLineReset (strap : Bool)
  /-- A well-formed ROLL CALL received whole at `port` (R175), with its header fields. -/
  | rollCall (port : Port) (dest source hop seq : Nat)
  | driverDemand (via : Via) (direction level release load : Nat)
  | positionSet (via : Via) (position : Nat)
  | emergency (via : Via)
  | emergencyRelease (via : Via) (mask : Nat)
  | doorRelease (via : Via) (side : Nat) (autoOpen noPlatform : Bool)
  | doorClose (via : Via) (side : Nat)
  | testOn (via : Via)
  | testOff (via : Via)
  | select (via : Via) (channel : Nat)
  | deselect (via : Via)
  | testRelease (via : Via)
  | testApply (via : Via)
  | segmentLoad (via : Via) (body : SegmentBody)
  | segmentRemove (via : Via) (id : Nat)
  | pinWindowSet (via : Via) (window : Nat) (valid : Bool) (value mask : Nat)
  | restrictionAdd (via : Via) (id low high speed appliesTo : Nat)
  | restrictionCancel (via : Via) (id : Nat)
  | parameterSet (via : Via) (id value : Nat)
  | parameterRead (via : Via) (id : Nat)
  | statusRead (via : Via) (page : Nat)
  | faultRead (via : Via)
  | faultRecordRead (via : Via)
  | groupSet (via : Via) (entry : Nat) (valid : Bool) (value mask : Nat)
  | restart (via : Via)
  | eventEnableSet (via : Via) (mask : Nat)
  | eventEnableClear (via : Via) (mask : Nat)
  | eventLevelSet (via : Via) (source level route : Nat)
  | eventClear (via : Via) (mask : Nat)
  | noticePoll (via : Via)
  | radioRelay (via : Via) (kind number : Nat) (body : List Byte)
  | radioStatus (via : Via) (link station : Nat)
  /-- The dest, source and kind bytes of a frame have arrived at `port` (R171). -/
  | lineFrameHeader (port : Port) (dest source kind : Nat)
  /-- The frame being received at `port` ends; `rest` is what followed its kind byte: hop, seq, length, payload, CRC. -/
  | lineFrameEnd (port : Port) (closing : Closing) (rest : List Byte)
  | lineTransmitDone (port : Port)
  | lineLossTimerExpiry
  /-- Loop current rises above T2 (R32): `sincePulse` is the time in µs since the end of the last tooth pulse, `lowest` the
  lowest current (0.1 mA) measured since the end of the previous high-band level (R27). -/
  | highLevelRise (ch : LoopChannel) (sincePulse lowest : Nat)
  /-- A level above T2 ends (R25): its duration in µs and the highest current (0.1 mA) measured during it (R27). -/
  | highLevelEnd (ch : LoopChannel) (duration highest : Nat)
  /-- Slot 8 has been sampled (R31): the nine currents sampled (0.1 mA), slot 0 first. -/
  | dataWordComplete (ch : LoopChannel) (samples : List Nat)
  | shortDetected (ch : LoopChannel)
  | openDetected (ch : LoopChannel)
  /-- SETTLING has lasted 100 ms (R39): `lowest` is the settling rest level. -/
  | settlingEnd (ch : LoopChannel) (lowest : Nat)
  | odometryUpdate
  /-- A message on MARKER_IN (R55): the marker id and whether its check field passes. -/
  | markerRead (id : Nat) (checkOk : Bool)
  | evaluationStart
  /-- The evaluation ends (R75). `upset` is what lane B delivers when a failure of the part's integrity has changed it, and
  `none` when lane B delivers what R74 works out. -/
  | evaluationEnd (upset : Option Nat)
  /-- The contacts of a cog brake's feedback input as they now stand (R95). -/
  | cbFeedbackChange (ch : CogChannel) (applied released : Bool)
  | transitTimeout (ch : CogChannel)
  | departureTimeout (ch : CogChannel)
  /-- A release output now reads back energised (`true`) or de-energised (R100). -/
  | readbackChange (ch : CogChannel) (energised : Bool)
  | readbackTimeout (ch : CogChannel)
  | testTimerExpiry
  | timebaseWatchExpiry
  | faultStopBroadcastTimer
  | doorExchangeStart
  /-- A reply on the door bus (R133): the address it comes from, its content, whether its check is good, and whether it
  belongs to an attempt that has already failed. -/
  | doorBusReply (address : Nat) (reply : DouReply) (checkOk late : Bool)
  | doorReplyTimeout
  | pollTimerExpiry
  | isolationContactChange (leaf : Leaf) (closed : Bool)
  | motionTimeout (leaf : Leaf)
  | reopenPauseEnd (leaf : Leaf)
  | warningTimerEnd (side : Side)
  /-- A frame the modem delivers on RAD_RXD, whole (section 9.2). -/
  | radioFrameReceived (bytes : List Byte)
  /-- A send confirmation; `stale` when the frame it confirms was written before the last reset (R169). -/
  | sendConfirmation (stale : Bool)
  | modemTimeout
  | supervisionTimerExpiry
  | shadowTimerExpiry
  | followerTimerExpiry
  | statusTimerExpiry
  | reportTimerExpiry
  deriving DecidableEq, Repr

end Sys2Proof
end

