-- ==== Sys2Proof/Decode.lean ====
section
/-! DEFINITION. The command a word spells by the opcode table's bits. spec/opcode_table.json gives bits for none of its 73
rows: the commands reach the part as frames, messages, levels and contact readings, whose own forms stand in
Machine/Operands.lean. -/

namespace Sys2Proof

/-- No row of the table carries bits, so no word spells a command (notes/assumptions/2.md). -/
def decodeTableWord (_nbits _w : Nat) : Option Instr := none

end Sys2Proof
end

