-- ==== Sys2Proof/Config.lean ====
section
/-! DEFINITION. The free values: what the manual leaves open about a value although the part goes on. Each is a constant
without a body, so nothing can be proved of it and every statement holds whatever it is. -/

namespace Sys2Proof

/-- How a flag byte of a telegram payload reads when it is neither 0 nor 1. R179 gives "flags as 1 for set and 0 for clear"
and no meaning for another value, nor a result that refuses it (notes/assumptions/4.md). -/
opaque Config.oddFlag : Nat → Bool

/-- The link state that a RADIO STATUS carries when its code is none of the four codes of R179
(notes/assumptions/5.md). -/
opaque Config.oddLinkState : Nat → LinkState

/-- The detail of ROLLBACK for a rollback distance of more than 65,535 cm. R190 makes the detail the distance at the start and gives
it 16 bits, and says nothing of a distance that they do not hold (notes/assumptions/57.md). -/
opaque Config.longRollback : Nat → BitVec 16

end Sys2Proof
end

