-- ==== Sys2Proof/Machine/State.lean ====
section
/-! DEFINITION. The state of the KC2260: every block's state as plain data, the reasons a step can stop, and the state after
power-on reset. Each structure's docstring cites the rule that names its fields. Times are in 10 ms units of the time stamp
unless a docstring says otherwise. -/

namespace Sys2Proof.Machine

/-! ## Common shapes -/

/-- A time stamp: 10 ms since the last hardware reset, 32 bits, wrapping (00_scope, Units and ranges). -/
abbrev Stamp := Nat

/-- A timer: stopped, or running with its elapsed time in 10 ms units (rounded up to whole units at its limit). -/
abbrev Timer := Option Nat

/-- One value for each loop channel. -/
structure PerLoop (α : Type) where
  cogA : α
  cogB : α
  wheelA : α
  wheelB : α
  deriving DecidableEq, Repr

/-- One value for each cog brake channel. -/
structure PerCog (α : Type) where
  cbA : α
  cbB : α
  deriving DecidableEq, Repr

/-- One value for each door leaf. -/
structure PerLeaf (α : Type) where
  lh1 : α
  lh2 : α
  rh1 : α
  rh2 : α
  deriving DecidableEq, Repr

/-- One value for each side of the car. -/
structure PerSide (α : Type) where
  left : α
  right : α
  deriving DecidableEq, Repr

/-- One value for each line port. -/
structure PerPort (α : Type) where
  a : α
  b : α
  deriving DecidableEq, Repr

/-- One value for each load class (R71). -/
structure PerLoad (α : Type) where
  empty : α
  half : α
  full : α
  deriving DecidableEq, Repr

/-- The result codes of R180, in code order. -/
inductive Result where
  | accepted | acceptedClamped | notStandstill | brakes | doors | position | platform | range | overlap | dupMarker
  | storeFull | inUse | pinLimit | listFull | notFound | state | emergencyActive | faultStop | unknownKind
  deriving DecidableEq, Repr

/-- The commanded direction of the DRIVER DEMAND image (R181). -/
inductive Direction where
  | neutral | up | down
  deriving DecidableEq, Repr

/-- A direction of travel: UP toward increasing position, DOWN toward decreasing position. -/
inductive Sense where
  | up | down
  deriving DecidableEq, Repr

/-- The load classes (R71, R181). -/
inductive LoadClass where
  | empty | half | full
  deriving DecidableEq, Repr

/-! ## Consist line interface: the driver demand and the parameters -/

/-- The DRIVER DEMAND image (R181). -/
structure DriverDemand where
  direction : Direction
  level : Nat
  release : Bool
  load : LoadClass
  deriving DecidableEq, Repr

/-- The parameter set, by the index of R184. Named values are Booleans: `fixedMode` FIXED, `reversed` REVERSED. -/
structure Params where
  fixedMode : PerLoop Bool
  offsetF : PerLoop Nat
  offsetO : PerLoop Nat
  reversed : PerLoop Bool
  i0Min : Nat
  i0Span : Nat
  pitch : PerLoop Nat
  carLength : Nat
  drift : Nat
  uMax : Nat
  setUnc : Nat
  markerTol : Nat
  reactionTime : Nat
  horizon : Nat
  marginW : Nat
  marginI : Nat
  marginE : Nat
  radioCap : Nat
  meshCap : Nat
  degradedCap : Nat
  lostCap : Nat
  rack2 : PerLoad Nat
  rack1 : PerLoad Nat
  adhesion2 : PerLoad Nat
  adhesion1 : PerLoad Nat
  platformOverride : Bool
  tRs : Nat
  tShadowMax : Nat
  trainId : Nat
  deriving DecidableEq, Repr

/-! ## Tooth loop front end -/

/-- The channel states of R23. -/
inductive ChannelState where
  | off | settling | active | fault
  deriving DecidableEq, Repr

/-- The fault latches of R23: OPEN, SHORT and SENSOR. -/
structure Latches where
  openLoop : Bool
  shortLoop : Bool
  sensor : Bool
  deriving DecidableEq, Repr

/-- The fields of a data word below its parity bit (section 2.4). -/
structure DataWord where
  direction : Bool
  mesh : Nat
  airGap : Bool
  sensorFault : Bool
  rolling : Nat
  deriving DecidableEq, Repr

/-- The word receiver while it is receiving: the thresholds in force at the end of the tooth pulse that started it (R31), and
the number of slots sampled so far (R23), as far as a command has brought it (notes/assumptions/7.md). -/
structure WordReception where
  t1 : Nat
  t2 : Nat
  slots : Nat
  deriving DecidableEq, Repr

/-- A level above T2 in progress: the T2 it began under (R25) and the lowest current measured before it (R27). -/
structure HighLevel where
  t2 : Nat
  lowest : Nat
  deriving DecidableEq, Repr

/-- The five counts of R23, each held at 65,535. -/
structure LoopCounts where
  malformed : Nat
  truncated : Nat
  wordErrors : Nat
  airGap : Nat
  tooth : Nat
  deriving DecidableEq, Repr

/-- The channel record of the TLF (R23), with the level in progress (R25) and the settling period's timer (R39). -/
structure TlfChannel where
  state : ChannelState
  supply : Bool
  latches : Latches
  t1 : Nat
  t2 : Nat
  restList : List Nat
  dataList : List Nat
  toothList : List Nat
  i0 : Nat
  d1 : Nat
  d2 : Nat
  satI0 : Bool
  satD1 : Bool
  satD2 : Bool
  receiver : Option WordReception
  level : Option HighLevel
  latest : Option DataWord
  rollRef : Option Nat
  lastTooth : Option Stamp
  lastIdle : Option Stamp
  idleFlag : Bool
  counts : LoopCounts
  lastTruncated : Nat
  settle : Timer
  deriving DecidableEq, Repr

/-! ## Odometry unit -/

/-- The channel odometry record of R42: the accumulator in µm, the five sub-window counts oldest first, the mesh history
newest last. -/
structure OdoChannel where
  valid : Bool
  acc : Nat
  window : List Nat
  firstPulse : Bool
  speed : Nat
  lastPulse : Option Stamp
  mesh : List Nat
  shallow : Bool
  loss : Bool
  deriving DecidableEq, Repr

/-- The position states of R51. -/
inductive PositionState where
  | unknown | known | lost
  deriving DecidableEq, Repr

/-- The last fix of R51: its kind, time stamp and, for a marker, its id. -/
inductive Fix where
  | set (stamp : Stamp)
  | marker (stamp : Stamp) (id : Nat)
  deriving DecidableEq, Repr

/-- The position record of R51, in cm. -/
structure PositionRecord where
  state : PositionState
  pos : Nat
  unc : Nat
  fixUnc : Nat
  travel : Nat
  conflicts : Nat
  lastFix : Option Fix
  deriving DecidableEq, Repr

/-- The ODO (R42, R48 to R51, R55, R57 to R59). -/
structure Odo where
  channels : PerLoop OdoChannel
  fused : Nat
  measured : Option Sense
  standstill : Bool
  travelRef : Option Sense
  position : PositionRecord
  rollbackDist : Nat
  rollback : Bool
  meshShallow : Bool
  meshLoss : Bool
  degraded : Bool
  lost : Bool
  markerErrors : Nat
  updateTimer : Timer
  deriving DecidableEq, Repr

/-! ## Profile store -/

/-- The kinds of track (section 1.1), with codes 0, 1, 2 (R19). -/
inductive TrackKind where
  | rack | adhesion | rackEntry
  deriving DecidableEq, Repr

/-- The sides a platform serves (section 1.1), with codes 0, 1, 2 (R19). -/
inductive PlatformSide where
  | left | right | both
  deriving DecidableEq, Repr

/-- A platform with its absolute positions in cm, inclusive (section 1.1). -/
structure Platform where
  side : PlatformSide
  low : Nat
  high : Nat
  deriving DecidableEq, Repr

/-- The segment record of section 1.1, with its check word and check-failed flag (R1, R19, R20). -/
structure Segment where
  id : Nat
  low : Nat
  length : Nat
  kind : TrackKind
  gradient : Int
  upLimit : Nat
  downLimit : Nat
  shadow : Bool
  platform : Option Platform
  markers : List MarkerField
  pinned : Bool
  check : Check
  checkFailed : Bool
  deriving DecidableEq, Repr

/-- A pin window (R10), and equally a group filter entry (R176): a valid flag, a value and a mask. -/
structure Window where
  valid : Bool
  value : Nat
  mask : Nat
  deriving DecidableEq, Repr

/-- The PST: the segment table in increasing order of low (R1), the four pin windows (R10), and the coverage record, `none`
while the coverage is empty and otherwise its end (R13). The stored and pinned counts of R1 are derived from the table. -/
structure Pst where
  table : List Segment
  windows : List Window
  coverage : Option Nat
  deriving DecidableEq, Repr

/-! ## Speed supervisor -/

/-- The caps of R68, in the order of the cap table. -/
inductive CapName where
  | radioLoss | mesh | degradedOdometry | lostPosition | overflow
  deriving DecidableEq, Repr

/-- The limiting sources of R63. -/
inductive LimitingSource where
  | neutral
  | unknown
  | noChannel
  | uncovered
  | limitSegment (id : Nat)
  | limitRestriction (id : Nat)
  | cap (name : CapName)
  | targetSegment (id : Nat)
  | targetRestriction (id : Nat)
  | targetCoverageEnd
  | ceiling
  deriving DecidableEq, Repr

/-- The supervision record of R63. `hold` is the supervision hold; `intervention` says whether intervention is active, and the
request placed for it stands in the BRK's `intervention` (R77, R80). -/
structure Supervision where
  p : Nat
  w : Nat
  i : Nat
  e : Nat
  source : LimitingSource
  targets : Nat
  capabilityShort : Bool
  coverageShort : Bool
  warning : Bool
  intervention : Bool
  overspeed : Bool
  hold : Bool
  deriving DecidableEq, Repr

/-- The directions a restriction applies to (section 5.1), with codes 1, 2, 3 (R179). -/
inductive AppliesTo where
  | up | down | both
  deriving DecidableEq, Repr

/-- The origin of a restriction entry (section 5.1). -/
inductive Origin where
  | cab
  | radio (order : Nat)
  deriving DecidableEq, Repr

/-- A restriction entry (section 5.1). -/
structure Restriction where
  id : Nat
  low : Nat
  high : Nat
  speed : Nat
  appliesTo : AppliesTo
  origin : Origin
  deriving DecidableEq, Repr

/-- An overflow entry (section 5.1). -/
structure OverflowEntry where
  id : Nat
  speed : Nat
  deriving DecidableEq, Repr

/-- The fixed copy of its inputs an evaluation works on (R65), with the coverage record (R14) and whether the comparisons
follow it (`byUpdate`, R64). -/
structure EvalCopy where
  v : Nat
  direction : Direction
  load : LoadClass
  position : PositionRecord
  available : Nat
  radioLost : Bool
  meshShallow : Bool
  degraded : Bool
  restrictions : List Restriction
  overflow : List OverflowEntry
  saturated : Bool
  coverage : Option Nat
  params : Params
  byUpdate : Bool
  deriving DecidableEq, Repr

/-- The causes of evaluation that wait for the next one to begin (R64, R65): any cause, and an odometry update among
them. -/
structure Waiting where
  cause : Bool
  update : Bool
  deriving DecidableEq, Repr

/-- The SSV: the supervision record (R63), the restriction and overflow lists with the saturated flag (R83), the evaluation
that runs and the causes that wait (R65). -/
structure Ssv where
  record : Supervision
  restrictions : List Restriction
  overflow : List OverflowEntry
  saturated : Bool
  running : Option EvalCopy
  waiting : Waiting
  deriving DecidableEq, Repr

/-! ## Brake controller -/

/-- The states of a cog brake channel (R94). -/
inductive CogState where
  | applied | releasing | released | applying | fault
  deriving DecidableEq, Repr

/-- The command of a cog brake channel (R94). -/
inductive BrakeCommand where
  | apply | release
  deriving DecidableEq, Repr

/-- The holders of R94 and R102. -/
inductive Holder where
  | faultStop | emergency | test | hold | release | none
  deriving DecidableEq, Repr

/-- The feedback reading of R95. -/
inductive Reading where
  | applied | released | mid
  deriving DecidableEq, Repr

/-- The fault reasons of a cog brake channel, with codes 1, 2, 3 (R94, R99). -/
inductive CogReason where
  | releaseTimeout | applyTimeout | uncommanded
  deriving DecidableEq, Repr

/-- The channel record of the BRK (R94), with what its release output reads back, energised or not. The readback timer runs exactly
while that differs from the value driven (R100). -/
structure CogRecord where
  state : CogState
  command : BrakeCommand
  holder : Holder
  energised : Bool
  reading : Reading
  transit : Timer
  departure : Timer
  readsBack : Bool
  readback : Timer
  reported : Bool
  reason : Option CogReason
  deriving DecidableEq, Repr

/-- The nine emergency causes of section 6.4, in code order. -/
inductive Cause where
  | reset | cabEmergency | overspeed | rollback | odometryLost | meshLoss | door | radioStop | lineLoss
  deriving DecidableEq, Repr

/-- One value for each emergency cause. -/
structure PerCause (α : Type) where
  reset : α
  cabEmergency : α
  overspeed : α
  rollback : α
  odometryLost : α
  meshLoss : α
  door : α
  radioStop : α
  lineLoss : α
  deriving DecidableEq, Repr

/-- A cause record (R109): when it was added, and its condition-present flag. -/
structure CauseRecord where
  stamp : Stamp
  present : Bool
  deriving DecidableEq, Repr

/-- A recorded time of a test result record (R118). -/
inductive TestTime where
  | absent
  | ticks (n : Nat)
  | exceeded
  | incomplete
  deriving DecidableEq, Repr

/-- A timing of the test result record (R118): the last time recorded, the clean flag (set as a timing starts, R122), and the
place of the recorded time in the order of the present selection's timings (0 while absent). -/
structure TimingRecord where
  time : TestTime
  clean : Bool
  order : Nat
  deriving DecidableEq, Repr

/-- The results of a brake test (R118). -/
inductive TestResult where
  | none | pass | fail | aborted
  deriving DecidableEq, Repr

/-- The test result record of a channel (R118). -/
structure TestRecord where
  release : TimingRecord
  apply : TimingRecord
  result : TestResult
  deriving DecidableEq, Repr

/-- A timing that runs (R121, R122): the test timer's elapsed time, the command it times (whose target reading is RELEASED
for RELEASE and APPLIED for APPLY), the reading when the command was taken, and whether the reading has left it. The clean
flag of the timing stands in the test result record. -/
structure Timing where
  elapsed : Nat
  command : BrakeCommand
  start : Reading
  left : Bool
  deriving DecidableEq, Repr

/-- The selection of ON_SELECTED (R118): the channel, the test command, the deselect-pending flag, the timing that runs, the
timing whose reading is still watched after it reached its target (R122), and how many timings this selection has
started. -/
structure Selection where
  channel : CogChannel
  command : BrakeCommand
  deselectPending : Bool
  timing : Option Timing
  watched : Option BrakeCommand
  taken : Nat
  deriving DecidableEq, Repr

/-- The test state of R118: OFF, ON_IDLE, or ON_SELECTED with its selection. -/
inductive BrakeTest where
  | off
  | onIdle
  | onSelected (sel : Selection)
  deriving DecidableEq, Repr

/-- The causes that report to fault stop, with codes 1 to 4 (R125). -/
inductive FaultCause where
  | profileCheck | crosscheck | outputReadback | timebase
  deriving DecidableEq, Repr

/-- The states of a door leaf (R132). -/
inductive LeafState where
  | unread | locked | unlocked | opening | opened | closing | reopening | fault | isolated
  deriving DecidableEq, Repr

/-- The fault record of R127. The emergency cause set stands in it as every report shows it: each cause with its record, and
the mask (R109). -/
structure FaultRecord where
  cause : FaultCause
  stamp : Stamp
  carNumber : Nat
  pos : Nat
  positionState : PositionState
  unc : Nat
  fused : Nat
  p : Nat
  causes : PerCause (Option CauseRecord)
  causeMask : Nat
  channels : PerCog (CogState × Option CogReason)
  leaves : PerLeaf LeafState
  segment : Option Nat
  laterCount : Nat
  laterMask : Nat
  deriving DecidableEq, Repr

/-- The BRK's driver demand copy (R101): the service level and the release request, counted as 0 and absent while LINE_LOSS is
present. DESIGN CHOICE: LINE_LOSS itself is no part of the copy; R101's bullet lists it under the copy, and R117, R181 and R182
speak of the level and the release request alone. Page 7 of STATUS READ reports the copy so (R115; notes/assumptions/69.md). -/
structure DemandCopy where
  level : Nat
  release : Bool
  deriving DecidableEq, Repr

/-- The BRK: channel records (R94), the emergency cause set and the condition states beside it (R109), the standstill time
stamp (R109), the arbitration inputs it keeps (R101), the intervention request as placed (R77, R106), the brake outputs
(R105 to R108), the brake test (R118) and fault stop (R125 to R129). -/
structure Brk where
  channels : PerCog CogRecord
  causes : PerCause (Option CauseRecord)
  conditions : PerCause Bool
  standstillSince : Option Stamp
  copy : DemandCopy
  doorsProven : Bool
  doorHold : Bool
  intervention : Bool
  holdPending : Bool
  available : Nat
  svcValid : Bool
  svcLevel : Nat
  tractionOk : Bool
  test : BrakeTest
  results : PerCog TestRecord
  faultStop : Bool
  faultRecord : Option FaultRecord
  watch : Timer
  broadcastTimer : Timer
  deriving DecidableEq, Repr

/-! ## Door controller -/

/-- The fault reasons of a leaf, with codes 1, 2, 3 (R132). -/
inductive LeafReason where
  | bus | motionTimeout | statusMismatch
  deriving DecidableEq, Repr

/-- The leaf record of R132. `halfWidth` says that the leaf has reported open since its last REOPEN was acknowledged, so that
further open reports change nothing (R142). -/
structure LeafRecord where
  state : LeafState
  reason : Option LeafReason
  lastStatus : Option StatusReply
  closeDue : Bool
  obstacles : Nat
  obstructed : Bool
  motion : Timer
  pause : Timer
  halfWidth : Bool
  contactClosed : Bool
  unreadFailure : Bool
  deriving DecidableEq, Repr

/-- The close steps of a side (R132). -/
inductive CloseStep where
  | none | chiming | warning
  deriving DecidableEq, Repr

/-- The side record of R132. -/
structure SideRecord where
  release : Option Stamp
  autoOpen : Bool
  overrideUsed : Bool
  step : CloseStep
  warning : Timer
  deriving DecidableEq, Repr

/-- The commands the DOR sends to a DOU (section 8.2). `open` is marked when a third obstacle asked for it, since its
acknowledgement then has another effect (R139, R142). -/
inductive DoorCommand where
  | unlock
  | lock
  | openLeaf (afterObstacle : Bool)
  | close
  | reopen
  | chime
  deriving DecidableEq, Repr

/-- A message on the door bus: the STATUS of a poll, or a command (section 8.2). -/
inductive DoorMessage where
  | status
  | command (c : DoorCommand)
  deriving DecidableEq, Repr

/-- The exchange that runs (R133): the leaf whose DOU is addressed, the message, the attempt 1 to 3, the reply timer, and
`void` when the leaf was isolated while it ran, so that its outcome changes nothing (R137). -/
structure Exchange where
  leaf : Leaf
  message : DoorMessage
  attempt : Nat
  timer : Timer
  void : Bool
  deriving DecidableEq, Repr

/-- What waits for an exchange with a leaf's DOU to end (R139, R140): the effect of a release or of a close on the leaf. A
close is marked when the DOOR CLOSE found its side's close step already CHIMING or WARNING, since it then leaves a due leaf as
it is (R140). -/
inductive DeferredAct where
  | release
  | close (again : Bool)
  deriving DecidableEq, Repr

/-- A close block (R141): its side and the leaves that have not left it. -/
structure CloseBlock where
  side : Side
  leaves : List Leaf
  deriving DecidableEq, Repr

/-- The DOR: leaf and side records (R132), the command slots as the waiting commands in the order of their turn (R134), the
exchange (R133), the open close block first and one that waits behind it (R141), the polls (R135), the acts deferred to the
end of an exchange (R139), and what was last handed (R147, R148). -/
structure Dor where
  leaves : PerLeaf LeafRecord
  sides : PerSide SideRecord
  slots : List (Leaf × DoorCommand)
  exchange : Option Exchange
  blocks : List CloseBlock
  deferred : List (Leaf × DeferredAct)
  turn : Leaf
  due : Option Leaf
  pollTimer : Timer
  proven : Bool
  hold : Bool
  condition : Bool
  deriving DecidableEq, Repr

/-! ## Valley radio link -/

/-- The role of R151. -/
inductive Role where
  | radio | follower
  deriving DecidableEq, Repr

/-- The relay states of R163, with codes 0, 1, 2 (R154). -/
inductive RelayState where
  | none | placed | dropped
  deriving DecidableEq, Repr

/-- An entry of the recent orders list (R163; in a follower R165, where body and relay state stay empty). -/
structure OrderEntry where
  number : Nat
  kind : Nat
  body : List Byte
  result : Result
  relay : RelayState
  deriving DecidableEq, Repr

/-- The contents of a POSITION_REPORT as it stood when it was queued (R154, R166), with the last fix, which R51 says the VRL's
position reports carry. DESIGN CHOICE: R154's body of 22 bytes has no place for the last fix, so the report carries it and the
frame does not (notes/assumptions/43.md). -/
structure PositionReport where
  number : Nat
  carNumber : Nat
  stamp : Stamp
  pos : Nat
  positionState : PositionState
  unc : Nat
  lastFix : Option Fix
  fused : Nat
  measured : Option Sense
  commanded : Direction
  segment : Option Nat
  causeMask : Nat
  link : LinkState
  faultStop : Bool
  deriving DecidableEq, Repr

/-- The reports to the valley (R166). -/
inductive Report where
  | ack (number : Nat) (result : Result) (success duplicate : Bool) (relay : RelayState)
  | position (r : PositionReport)
  | alarm (source level stamp detail carNumber : Nat)
  deriving DecidableEq, Repr

/-- A timer that keeps the limit it started with, in seconds (R157). -/
structure LimitedTimer where
  elapsed : Nat
  limit : Nat
  deriving DecidableEq, Repr

/-- The transmit state BUSY: the frame on RAD_TXD and the time since it was written (R153). FREE is its absence. -/
structure Transmit where
  frame : List Byte
  elapsed : Nat
  deriving DecidableEq, Repr

/-- The link record of R151. `shadowStands` is the last result of the shadow test (R155, R156). -/
structure Vrl where
  role : Role
  link : LinkState
  supervision : Option LimitedTimer
  shadow : Option LimitedTimer
  shadowStands : Bool
  follower : Timer
  station : Nat
  stopNumber : Option Nat
  recent : List OrderEntry
  reports : List Report
  transmit : Option Transmit
  reportTimer : Timer
  statusTimer : Timer
  invalidFrames : Nat
  lostReports : Nat
  modemTimeouts : Nat
  deriving DecidableEq, Repr

/-! ## Event router -/

/-- The 32 event sources of R190, in number order. -/
inductive Source where
  | faultStop | emergencySet | overspeedWarning | intervention | capabilityShort | coverageShort | markerConflict
  | markerUnknown | positionLost | sensorFault | sensorSaturation | meshShallow | odometryDegraded | rollback
  | brakeChannelFault | brakeTestResult | doorFault | doorObstructed | doorsProven | doorReleaseRefused | radioLost
  | radioLinked | shadowExceeded | orderExecuted | restrictionOverflow | storeFull | pinFull | lineCheckError
  | relayOverrun | lineLoss | originateFull | parameterClamped
  deriving DecidableEq, Repr

/-- The routes of R190, with codes 1, 2, 3 (R179). -/
inductive Route where
  | notice | radio | both
  deriving DecidableEq, Repr

/-- The source record of R190; the kind is fixed by the source. -/
structure SourceRecord where
  level : Nat
  enable : Bool
  route : Route
  pending : Bool
  deriving DecidableEq, Repr

/-- A notice (R192). -/
structure Notice where
  source : Nat
  level : Nat
  stamp : Stamp
  detail : Nat
  deriving DecidableEq, Repr

/-- The EVR: the 32 source records in number order (R190), the notice queue and the lost notice count (R193). -/
structure Evr where
  sources : List SourceRecord
  notices : List Notice
  lost : Nat
  deriving DecidableEq, Repr

/-! ## Consist line interface: frames, ports and the originate queue -/

/-- The places of the originate queue that are filled or reserved, the non-reply frames among them, and each port's held
frames (R173, R186). -/
structure Occupancy where
  filled : Nat
  reserved : Nat
  nonReply : Nat
  held : PerPort Nat
  deriving DecidableEq, Repr

/-- The pages of STATUS READ (R186), each with the fields its chapter names. -/
inductive StatusPage where
  | line (carNumber : Option Nat) (cabSide : Option Port) (demand : DriverDemand) (lineLoss : Bool)
      (occupancy : Occupancy) (groups : List Window)
  | profile (stored pinned : Nat) (coverage : Option Nat)
  | loops (states : PerLoop ChannelState)
  | odometry (fused : Nat) (measured : Option Sense) (standstill : Bool) (position : PositionRecord)
      (rollbackDist : Nat) (rollback meshShallow meshLoss degraded lost : Bool) (markerErrors : Nat)
  | supervision (record : Supervision)
  | restrictions (count : Nat) (overflow : List OverflowEntry) (saturated : Bool) (cap : Option Nat)
  | brakes (channels : PerCog CogRecord) (available : Nat) (causes : PerCause (Option CauseRecord)) (mask : Nat)
      (standstillSince : Option Stamp) (supervisionHold doorHold intervention : Bool) (copy : DemandCopy)
      (holdPending : Bool) (svcLevel : Nat) (tractionOk : Bool)
  | brakeTest (test : BrakeTest) (holdPending : Bool) (results : PerCog TestRecord) (faultStop : Bool)
  | doors (leaves : PerLeaf LeafRecord) (sides : PerSide SideRecord) (proven hold condition : Bool)
  | radio (role : Role) (link : LinkState) (supervision shadow : Option LimitedTimer) (follower : Timer) (station : Nat)
      (stopNumber : Option Nat) (recent : List (Nat × Nat × Result × RelayState)) (reports : Nat) (busy : Bool)
      (reportTimer statusTimer : Timer) (invalidFrames lostReports modemTimeouts : Nat)
  | events (sources : List SourceRecord) (queued lost : Nat)
  deriving DecidableEq, Repr

/-- The record of a loop channel as FAULT READ reports it (R38). -/
structure LoopReport where
  state : ChannelState
  latches : Latches
  fixedMode : Bool
  i0 : Nat
  d1 : Nat
  d2 : Nat
  t1 : Nat
  t2 : Nat
  satI0 : Bool
  satD1 : Bool
  satD2 : Bool
  counts : LoopCounts
  lastTruncated : Nat
  latest : Option DataWord
  lastTooth : Option Stamp
  lastIdle : Option Stamp
  deriving DecidableEq, Repr

/-- The data a REPLY carries beside its result code (R180), as fields; `replyBytes` gives a part's bytes of them. A cause set
is reported as its causes in code order, each with its record, and the mask (R109). -/
inductive ReplyData where
  | none
  | causes (records : List (Cause × CauseRecord)) (mask : Nat)
  | brakeTest (test : BrakeTest) (holdPending : Bool) (results : PerCog TestRecord)
  | parameter (id value low high default : Nat)
  | loop (report : LoopReport)
  | faultRecord (inForce held : Bool) (record : Option FaultRecord)
  | status (page : StatusPage)
  deriving DecidableEq, Repr

/-- The frames a car originates (R173, R178). -/
inductive Frame where
  | reply (kind seq : Nat) (result : Result) (part parts : Nat) (data : ReplyData)
  | noticeBatch (seq : Nat) (notices : List Notice) (pending : List Bool)
  | faultStop (carNumber : Nat) (cause : FaultCause) (stamp : Stamp) (laterCount laterMask pos : Nat)
      (positionState : PositionState)
  | radioStatus (station : Nat)
  | radioRelay (kind number : Nat) (body : List Byte)
  deriving DecidableEq, Repr

/-- How far a queued frame has come on one port (R174). -/
inductive SendState where
  | waiting | sending | sent
  deriving DecidableEq, Repr

/-- A frame of the originate queue with its progress on each port (R174). `source` is the car number it was placed under; a
REPLY takes its source when its sending starts (R175). -/
structure Queued where
  frame : Frame
  source : Nat
  progress : PerPort SendState
  deriving DecidableEq, Repr

/-- What becomes of a frame that is being received and is to be relayed (R171, R172): nothing to relay, relayed as it
arrives, received into a hold buffer, or discarded because both were full. -/
inductive RelayRoute where
  | none | direct | held | overrun
  deriving DecidableEq, Repr

/-- A receiver that is RECEIVING, once the header has arrived (R170, R171). -/
structure Reception where
  dest : Nat
  source : Nat
  kind : Nat
  route : RelayRoute
  copy : Option Addressing
  deriving DecidableEq, Repr

/-- A frame a transmitter is sending from the originate queue: its source and, for a RADIO STATUS, the link state, both taken
as its sending started (R174, R175), and the bytes it sends, from dest to CRC (section 10.1, R180). -/
structure Outgoing where
  frame : Frame
  source : Nat
  link : Option LinkState
  bytes : List Byte
  deriving DecidableEq, Repr

/-- A transmitter (R170). -/
inductive Transmitter where
  | idle
  | relaying
  | sendingHeld (bytes : List Byte)
  | sendingOriginated (out : Outgoing)
  deriving DecidableEq, Repr

/-- A line port (R170, R172): its receiver (`none` is IDLE), its transmitter, the frames held to leave by it, oldest first,
and how its transmitter ended the last frame it sent (R171, R172; `none` before any): with a symbol, or `stopped` when a hardware
reset cut it (R170). -/
structure PortState where
  rx : Option Reception
  tx : Transmitter
  held : List (List Byte)
  lastClosing : Option Closing
  deriving DecidableEq, Repr

/-- The LIF: line state, car number and cab side (R175; the line state is UNNUMBERED exactly while `carNumber` is `none`),
ports (R170), originate queue with the reserved places (R173, R177), group filter (R176), parameters (R183), driver demand
image (R181) and line loss (R182). -/
structure Lif where
  carNumber : Option Nat
  cabSide : Option Port
  ports : PerPort PortState
  queue : List Queued
  reservedReplies : Nat
  reservedBatch : Nat
  groups : List Window
  params : Params
  demand : DriverDemand
  lineLossTimer : Timer
  lineLoss : Bool
  deriving DecidableEq, Repr

/-! ## The part -/

/-- The part: RESETn held low or not (R107), the time stamp, and the nine blocks. -/
structure Car where
  inReset : Bool
  now : Stamp
  lif : Lif
  tlf : PerLoop TlfChannel
  odo : Odo
  pst : Pst
  ssv : Ssv
  brk : Brk
  dor : Dor
  vrl : Vrl
  evr : Evr
  deriving DecidableEq, Repr

/-- The whole state: the part, and the queue of the commands that wait, first in, first out. -/
structure State where
  car : Car
  pending : List Instr
  deriving DecidableEq, Repr

/-- The reasons the machine stops with a fault: there are none. Every failure the manual describes, fault stop included, is
state of the part, and the part goes on. Safe: nothing is cut short. -/
inductive Fault where
  deriving DecidableEq, Repr

/-- The reasons a command is refused. -/
inductive Refusal where
  /-- Raised by `exec` for a command that has no meaning yet, by its mnemonic; no arm uses it. Safe: it stops. -/
  | notModelled (mnemonic : String)
  deriving DecidableEq, Repr

/-! ## The state after power-on reset -/

/-- The same value for every loop channel. -/
def PerLoop.all {α : Type} (x : α) : PerLoop α := ⟨x, x, x, x⟩
/-- The same value for both cog brake channels. -/
def PerCog.all {α : Type} (x : α) : PerCog α := ⟨x, x⟩
/-- The same value for every leaf. -/
def PerLeaf.all {α : Type} (x : α) : PerLeaf α := ⟨x, x, x, x⟩
/-- The same value for both sides. -/
def PerSide.all {α : Type} (x : α) : PerSide α := ⟨x, x⟩
/-- The same value for both ports. -/
def PerPort.all {α : Type} (x : α) : PerPort α := ⟨x, x⟩
/-- The same value for every cause. -/
def PerCause.all {α : Type} (x : α) : PerCause α := ⟨x, x, x, x, x, x, x, x, x⟩

/-- Every parameter at its default (R184). -/
def Params.reset : Params where
  fixedMode := .all false
  offsetF := .all 50
  offsetO := .all 50
  reversed := .all false
  i0Min := 40
  i0Span := 40
  pitch := .all 5000
  carLength := 1800
  drift := 20
  uMax := 5000
  setUnc := 200
  markerTol := 100
  reactionTime := 15
  horizon := 150000
  marginW := 14
  marginI := 28
  marginE := 56
  radioCap := 10
  meshCap := 6
  degradedCap := 10
  lostCap := 6
  rack2 := ⟨3200, 3000, 2900⟩
  rack1 := ⟨1700, 1600, 1500⟩
  adhesion2 := ⟨1200, 1100, 1000⟩
  adhesion1 := ⟨700, 650, 600⟩
  platformOverride := false
  tRs := 6
  tShadowMax := 120
  trainId := 0

/-- The driver demand image after a hardware reset (R189). -/
def DriverDemand.reset : DriverDemand := ⟨.neutral, 0, false, .full⟩

/-- A window or filter entry after a hardware reset: invalid, value and mask 0 (R22, R176). -/
def Window.reset : Window := ⟨false, 0, 0⟩

/-- A port after a hardware reset (R189). -/
def PortState.reset : PortState := ⟨none, .idle, [], none⟩

/-- The LIF after a hardware reset, by how each transmitter ended its last frame, which no reset undoes (R170, R189). -/
def Lif.reset (closings : PerPort (Option Closing)) : Lif where
  carNumber := none
  cabSide := none
  ports := ⟨{ PortState.reset with lastClosing := closings.a }, { PortState.reset with lastClosing := closings.b }⟩
  queue := []
  reservedReplies := 0
  reservedBatch := 0
  groups := List.replicate 8 .reset
  params := .reset
  demand := .reset
  lineLossTimer := some 0
  lineLoss := false

/-- A loop channel after a hardware reset: SETTLING with the initial thresholds (R39, R41). -/
def TlfChannel.reset : TlfChannel where
  state := .settling
  supply := true
  latches := ⟨false, false, false⟩
  t1 := 55
  t2 := 100
  restList := []
  dataList := []
  toothList := []
  i0 := 40
  d1 := 30
  d2 := 60
  satI0 := false
  satD1 := false
  satD2 := false
  receiver := none
  level := none
  latest := none
  rollRef := none
  lastTooth := none
  lastIdle := none
  idleFlag := true
  counts := ⟨0, 0, 0, 0, 0⟩
  lastTruncated := 0
  settle := some 0

/-- A channel odometry record after a hardware reset (R42). -/
def OdoChannel.reset : OdoChannel where
  valid := false
  acc := 0
  window := [0, 0, 0, 0, 0]
  firstPulse := true
  speed := 0
  lastPulse := none
  mesh := []
  shallow := false
  loss := false

/-- The position record after every reset (R62). -/
def PositionRecord.reset : PositionRecord := ⟨.unknown, 0, 0, 0, 0, 0, none⟩

/-- The ODO after a hardware reset (R62). -/
def Odo.reset : Odo where
  channels := .all .reset
  fused := 0
  measured := none
  standstill := false
  travelRef := none
  position := .reset
  rollbackDist := 0
  rollback := false
  meshShallow := false
  meshLoss := false
  degraded := false
  lost := false
  markerErrors := 0
  updateTimer := some 0

/-- The PST after a hardware reset (R22). -/
def Pst.reset : Pst := ⟨[], List.replicate 4 .reset, none⟩

/-- The supervision record after every reset, with the margins in force (R81). -/
def Supervision.reset (w i e : Nat) : Supervision where
  p := 0
  w := w
  i := i
  e := e
  source := .unknown
  targets := 0
  capabilityShort := false
  coverageShort := false
  warning := false
  intervention := false
  overspeed := false
  hold := false

/-- The SSV after a hardware reset (R81, R93). The evaluation that every reset causes waits (R93). -/
def Ssv.reset : Ssv := ⟨.reset 14 28 56, [], [], false, none, ⟨true, false⟩⟩

/-- A cog brake channel after a hardware reset, by its feedback reading and what its output reads back (R117). DEDUCED: the reset
stops the readback timer, and an output that reads back energised, which the reset does not drive, starts it again from 0 at once
(R100; notes/assumptions/56.md). -/
def CogRecord.reset (reading : Reading) (readsBack : Bool) : CogRecord where
  state := if reading = .applied then .applied else .applying
  command := .apply
  holder := .emergency
  energised := false
  reading := reading
  transit := if reading = .applied then none else some 0
  departure := none
  readsBack := readsBack
  readback := if readsBack then some 0 else none
  reported := false
  reason := none

/-- The emergency cause set that holds RESET alone (R117). -/
def Brk.resetCauses (stamp : Stamp) : PerCause (Option CauseRecord) :=
  { PerCause.all none with reset := some ⟨stamp, false⟩ }

/-- A test result record that holds nothing: as SELECT resets it, with both times absent, both clean flags clear and the result
NONE (R120), and as a hardware reset leaves it. DESIGN CHOICE: R131 gives the times and the result after a hardware reset and no
value of the clean flags or of the timings' order, which the model clears as R120 clears the flags (notes/assumptions/60.md). -/
def TestRecord.reset : TestRecord := ⟨⟨.absent, false, 0⟩, ⟨.absent, false, 0⟩, .none⟩

/-- The BRK after a hardware reset, by the feedback readings, what the outputs read back, whether the doors are proven, and the fault record that the
kind of reset keeps (R117, R131, R150). -/
def Brk.reset (readings : PerCog Reading) (readbacks : PerCog Bool) (proven : Bool) (record : Option FaultRecord) : Brk where
  channels := ⟨.reset readings.cbA readbacks.cbA, .reset readings.cbB readbacks.cbB⟩
  causes := Brk.resetCauses 0
  conditions := .all false
  standstillSince := none
  copy := ⟨0, false⟩
  doorsProven := proven
  doorHold := !proven
  intervention := false
  holdPending := false
  available := 2
  svcValid := true
  svcLevel := 7
  tractionOk := false
  test := .off
  results := .all .reset
  faultStop := false
  faultRecord := record
  watch := some 0
  broadcastTimer := none

/-- A leaf after every reset, by its isolation contact (R150). -/
def LeafRecord.reset (contactClosed : Bool) : LeafRecord where
  state := if contactClosed then .isolated else .unread
  reason := none
  lastStatus := none
  closeDue := false
  obstacles := 0
  obstructed := false
  motion := none
  pause := none
  halfWidth := false
  contactClosed := contactClosed
  unreadFailure := false

/-- A side after every reset (R150). -/
def SideRecord.reset : SideRecord := ⟨none, false, false, .none, none⟩

/-- Whether the doors are proven right after a reset: every leaf is ISOLATED (R147, R150). -/
def provenAtReset (contacts : PerLeaf Bool) : Bool := contacts.lh1 && contacts.lh2 && contacts.rh1 && contacts.rh2

/-- The DOR after a hardware reset, by the isolation contacts, with the proven state and the door hold judged from them
(R147, R148, R150). -/
def Dor.reset (contacts : PerLeaf Bool) : Dor where
  leaves := ⟨.reset contacts.lh1, .reset contacts.lh2, .reset contacts.rh1, .reset contacts.rh2⟩
  sides := .all .reset
  slots := []
  exchange := none
  blocks := []
  deferred := []
  turn := .lh1
  due := none
  pollTimer := some 0
  proven := provenAtReset contacts
  hold := !provenAtReset contacts
  condition := false

/-- The VRL after a hardware reset, by the strap sampled (R169). -/
def Vrl.reset (strap : Bool) : Vrl where
  role := if strap then .radio else .follower
  link := .lost
  supervision := none
  shadow := none
  shadowStands := false
  follower := none
  station := 0
  stopNumber := none
  recent := []
  reports := []
  transmit := none
  reportTimer := if strap then some 0 else none
  statusTimer := if strap then some 0 else none
  invalidFrames := 0
  lostReports := 0
  modemTimeouts := 0

/-- A source record after a hardware reset, by its default level and route (R190). -/
def SourceRecord.reset (level : Nat) (route : Route) : SourceRecord := ⟨level, true, route, false⟩

/-- The default levels and routes of sources 0 to 31 (R190). -/
def Evr.defaults : List (Nat × Route) :=
  [(15, .both), (14, .both), (8, .notice), (11, .both), (9, .notice), (6, .notice), (7, .notice), (4, .notice)] ++
  [(12, .both), (10, .both), (3, .notice), (10, .both), (10, .both), (13, .both), (13, .both), (5, .notice)] ++
  [(9, .notice), (8, .notice), (2, .notice), (7, .notice), (11, .notice), (3, .notice), (9, .both), (2, .notice)] ++
  [(11, .both), (6, .notice), (4, .notice), (3, .notice), (3, .notice), (12, .both), (5, .notice), (1, .notice)]

/-- The EVR after a hardware reset (R190, R195). -/
def Evr.reset : Evr := ⟨Evr.defaults.map fun d => .reset d.1 d.2, [], 0⟩

/-- The part as a hardware reset leaves it, by what its pins read (the cog brake feedback, the readback of the release outputs, the
isolation contacts, the RADIO_ROLE strap), how its transmitters ended their last frames, and the fault record that the kind of reset
keeps. -/
def Car.reset (readings : PerCog Reading) (readbacks : PerCog Bool) (contacts : PerLeaf Bool) (closings : PerPort (Option Closing))
    (strap : Bool) (record : Option FaultRecord) : Car where
  inReset := false
  now := 0
  lif := .reset closings
  tlf := .all .reset
  odo := .reset
  pst := .reset
  ssv := .reset
  brk := .reset readings readbacks (provenAtReset contacts) record
  dor := .reset contacts
  vrl := .reset strap
  evr := .reset

/-- The machine right after power-on reset, with no command waiting. The manual leaves the pins to the car: the readings,
readbacks, contacts and strap are those of a car on its springs with de-energised outputs and no leaf isolated that is no radio car,
and no frame has been sent (notes/assumptions/1.md). -/
def State.reset : State := ⟨Car.reset (.all .applied) (.all false) (.all false) (.all none) false none, []⟩

end Sys2Proof.Machine
end

