-- ==== Sys2Proof/Machine/Ops.lean ====
section
/-! DEFINITION. The small operations every block shares: reading and writing one of several like things, the numbers and
codes the manual gives its names, held counts, time stamps, speed conversion and the car extent. -/

namespace Sys2Proof

/-! ## Timers -/

namespace Machine

/-! The limits of the timers in ticks of 10 ms, those of R125 and R135 rounded up (notes/assumptions/12.md). -/

abbrev Limit.lineLoss : Nat := 100    -- 1.0 s, R182
abbrev Limit.settling : Nat := 10     -- 100 ms, R39
abbrev Limit.update : Nat := 5        -- 50 ms, R44
abbrev Limit.transit : Nat := 150     -- 1.5 s, R97
abbrev Limit.departure : Nat := 20    -- 200 ms, R98
abbrev Limit.readback : Nat := 5      -- 50 ms, R100
abbrev Limit.testTiming : Nat := 150  -- 1.5 s, R121
abbrev Limit.watch : Nat := 8         -- 75 ms, R125
abbrev Limit.broadcast : Nat := 50    -- 500 ms, R129
abbrev Limit.doorReply : Nat := 2     -- 20 ms, R133
abbrev Limit.poll : Nat := 3          -- 25 ms, R135
abbrev Limit.warning : Nat := 200     -- 2 s, R141
abbrev Limit.pause : Nat := 200       -- 2 s, R142
abbrev Limit.motion : Nat := 800      -- 8 s, R143
abbrev Limit.modem : Nat := 200       -- 2 s, R153
abbrev Limit.status : Nat := 100      -- 1 s, R158
abbrev Limit.follower : Nat := 300    -- 3 s, R159
abbrev Limit.report : Nat := 1000     -- 10 s, R166

/-- A running timer one tick on, held at its limit. -/
def Timer.tick (limit : Nat) (t : Timer) : Timer := t.map fun n => min limit (n + 1)

/-- Whether a timer runs and has reached its limit. DESIGN CHOICE: the command that is its expiry has its effect then alone; one that
finds the timer stopped, or started again by what was taken first, changes nothing (notes/assumptions/6.md). -/
def Timer.reached (limit : Nat) (t : Timer) : Bool :=
  match t with
  | some n => decide (limit ≤ n)
  | none => false

/-- The same for a timer that keeps its limit in seconds (R155 to R157). -/
def LimitedTimer.tick (t : LimitedTimer) : LimitedTimer := { t with elapsed := min (t.limit * 100) (t.elapsed + 1) }

def LimitedTimer.reached (t : LimitedTimer) : Bool := decide (t.limit * 100 ≤ t.elapsed)

end Machine

/-! ## Numbers and codes of the names that commands carry -/

def LoopChannel.list : List LoopChannel := [.cogA, .cogB, .wheelA, .wheelB]

def CogChannel.list : List CogChannel := [.cbA, .cbB]

def Leaf.list : List Leaf := [.lh1, .lh2, .rh1, .rh2]

/-- The channel number of section 2.1. -/
def LoopChannel.number : LoopChannel → Nat
  | .cogA => 1
  | .cogB => 2
  | .wheelA => 3
  | .wheelB => 4

/-- The channel number of section 6.1. -/
def CogChannel.number : CogChannel → Nat
  | .cbA => 1
  | .cbB => 2

/-- The channel a SELECT names (R120). -/
def CogChannel.ofNumber : Nat → Option CogChannel
  | 1 => some .cbA
  | 2 => some .cbB
  | _ => none

/-- The leaf number of section 8.1, which is also its DOU's address. -/
def Leaf.number : Leaf → Nat
  | .lh1 => 1
  | .lh2 => 2
  | .rh1 => 3
  | .rh2 => 4

/-- The leaf whose DOU takes the next poll turn (R135). -/
def Leaf.next : Leaf → Leaf
  | .lh1 => .lh2
  | .lh2 => .rh1
  | .rh1 => .rh2
  | .rh2 => .lh1

/-- The side that holds a leaf (section 8.1). -/
def Leaf.side : Leaf → Side
  | .lh1 => .left
  | .lh2 => .left
  | .rh1 => .right
  | .rh2 => .right

/-- The side number of section 8.1. -/
def Side.number : Side → Nat
  | .left => 1
  | .right => 2

/-- The leaves of a side, in leaf order. -/
def Side.leaves : Side → List Leaf
  | .left => [.lh1, .lh2]
  | .right => [.rh1, .rh2]

/-- The port number of R171. -/
def Port.number : Port → Nat
  | .a => 1
  | .b => 2

/-- The other port, by which a relayed frame leaves (R171). -/
def Port.other : Port → Port
  | .a => .b
  | .b => .a

/-- The link state codes of R154 and R179. -/
def LinkState.code : LinkState → Nat
  | .lost => 0
  | .linking => 1
  | .linked => 2
  | .shadow => 3

/-- The link state a RADIO STATUS carries; a code that names none carries a free value (notes/assumptions/5.md). -/
def LinkState.ofCode : Nat → LinkState
  | 0 => .lost
  | 1 => .linking
  | 2 => .linked
  | 3 => .shadow
  | n => Config.oddLinkState n

/-- The side a DOOR RELEASE's byte names (R138, R179). -/
def Side.ofCode : Nat → Option Side
  | 1 => some .left
  | 2 => some .right
  | _ => none

end Sys2Proof

namespace Sys2Proof.Machine

/-! ## One of several like things -/

def PerLoop.get {α : Type} (q : PerLoop α) : LoopChannel → α
  | .cogA => q.cogA
  | .cogB => q.cogB
  | .wheelA => q.wheelA
  | .wheelB => q.wheelB

def PerLoop.set {α : Type} (q : PerLoop α) (ch : LoopChannel) (x : α) : PerLoop α :=
  match ch with
  | .cogA => { q with cogA := x }
  | .cogB => { q with cogB := x }
  | .wheelA => { q with wheelA := x }
  | .wheelB => { q with wheelB := x }

def PerLoop.map {α β : Type} (f : α → β) (q : PerLoop α) : PerLoop β := ⟨f q.cogA, f q.cogB, f q.wheelA, f q.wheelB⟩

def PerCog.get {α : Type} (q : PerCog α) : CogChannel → α
  | .cbA => q.cbA
  | .cbB => q.cbB

def PerCog.set {α : Type} (q : PerCog α) (ch : CogChannel) (x : α) : PerCog α :=
  match ch with
  | .cbA => { q with cbA := x }
  | .cbB => { q with cbB := x }

def PerCog.map {α β : Type} (f : α → β) (q : PerCog α) : PerCog β := ⟨f q.cbA, f q.cbB⟩

def PerLeaf.get {α : Type} (q : PerLeaf α) : Leaf → α
  | .lh1 => q.lh1
  | .lh2 => q.lh2
  | .rh1 => q.rh1
  | .rh2 => q.rh2

def PerLeaf.set {α : Type} (q : PerLeaf α) (leaf : Leaf) (x : α) : PerLeaf α :=
  match leaf with
  | .lh1 => { q with lh1 := x }
  | .lh2 => { q with lh2 := x }
  | .rh1 => { q with rh1 := x }
  | .rh2 => { q with rh2 := x }

def PerLeaf.map {α β : Type} (f : α → β) (q : PerLeaf α) : PerLeaf β := ⟨f q.lh1, f q.lh2, f q.rh1, f q.rh2⟩

def PerSide.get {α : Type} (q : PerSide α) : Side → α
  | .left => q.left
  | .right => q.right

def PerSide.set {α : Type} (q : PerSide α) (side : Side) (x : α) : PerSide α :=
  match side with
  | .left => { q with left := x }
  | .right => { q with right := x }

def PerSide.map {α β : Type} (f : α → β) (q : PerSide α) : PerSide β := ⟨f q.left, f q.right⟩

def PerPort.get {α : Type} (q : PerPort α) : Port → α
  | .a => q.a
  | .b => q.b

def PerPort.set {α : Type} (q : PerPort α) (port : Port) (x : α) : PerPort α :=
  match port with
  | .a => { q with a := x }
  | .b => { q with b := x }

def PerPort.map {α β : Type} (f : α → β) (q : PerPort α) : PerPort β := ⟨f q.a, f q.b⟩

def PerLoad.get {α : Type} (q : PerLoad α) : LoadClass → α
  | .empty => q.empty
  | .half => q.half
  | .full => q.full

def PerLoad.set {α : Type} (q : PerLoad α) (load : LoadClass) (x : α) : PerLoad α :=
  match load with
  | .empty => { q with empty := x }
  | .half => { q with half := x }
  | .full => { q with full := x }

def PerCause.get {α : Type} (q : PerCause α) : Cause → α
  | .reset => q.reset
  | .cabEmergency => q.cabEmergency
  | .overspeed => q.overspeed
  | .rollback => q.rollback
  | .odometryLost => q.odometryLost
  | .meshLoss => q.meshLoss
  | .door => q.door
  | .radioStop => q.radioStop
  | .lineLoss => q.lineLoss

def PerCause.set {α : Type} (q : PerCause α) (cause : Cause) (x : α) : PerCause α :=
  match cause with
  | .reset => { q with reset := x }
  | .cabEmergency => { q with cabEmergency := x }
  | .overspeed => { q with overspeed := x }
  | .rollback => { q with rollback := x }
  | .odometryLost => { q with odometryLost := x }
  | .meshLoss => { q with meshLoss := x }
  | .door => { q with door := x }
  | .radioStop => { q with radioStop := x }
  | .lineLoss => { q with lineLoss := x }

/-! ## Lists of the names, in the manual's order -/

def Cause.list : List Cause :=
  [.reset, .cabEmergency, .overspeed, .rollback, .odometryLost, .meshLoss, .door, .radioStop, .lineLoss]

/-! ## Numbers and codes -/

/-- The code of a cause (section 6.4). -/
def Cause.code : Cause → Nat
  | .reset => 0
  | .cabEmergency => 1
  | .overspeed => 2
  | .rollback => 3
  | .odometryLost => 4
  | .meshLoss => 5
  | .door => 6
  | .radioStop => 7
  | .lineLoss => 8

/-- The reason code of R99. -/
def CogReason.code : CogReason → Nat
  | .releaseTimeout => 1
  | .applyTimeout => 2
  | .uncommanded => 3

/-- The code of a cause of fault stop (R125). -/
def FaultCause.code : FaultCause → Nat
  | .profileCheck => 1
  | .crosscheck => 2
  | .outputReadback => 3
  | .timebase => 4

/-- The reason code of R132. -/
def LeafReason.code : LeafReason → Nat
  | .bus => 1
  | .motionTimeout => 2
  | .statusMismatch => 3

/-- The result code of R180. -/
def Result.code : Result → Nat
  | .accepted => 0
  | .acceptedClamped => 1
  | .notStandstill => 2
  | .brakes => 3
  | .doors => 4
  | .position => 5
  | .platform => 6
  | .range => 7
  | .overlap => 8
  | .dupMarker => 9
  | .storeFull => 10
  | .inUse => 11
  | .pinLimit => 12
  | .listFull => 13
  | .notFound => 14
  | .state => 15
  | .emergencyActive => 16
  | .faultStop => 17
  | .unknownKind => 18

/-- The number of an event source (R190). -/
def Source.number : Source → Nat
  | .faultStop => 0
  | .emergencySet => 1
  | .overspeedWarning => 2
  | .intervention => 3
  | .capabilityShort => 4
  | .coverageShort => 5
  | .markerConflict => 6
  | .markerUnknown => 7
  | .positionLost => 8
  | .sensorFault => 9
  | .sensorSaturation => 10
  | .meshShallow => 11
  | .odometryDegraded => 12
  | .rollback => 13
  | .brakeChannelFault => 14
  | .brakeTestResult => 15
  | .doorFault => 16
  | .doorObstructed => 17
  | .doorsProven => 18
  | .doorReleaseRefused => 19
  | .radioLost => 20
  | .radioLinked => 21
  | .shadowExceeded => 22
  | .orderExecuted => 23
  | .restrictionOverflow => 24
  | .storeFull => 25
  | .pinFull => 26
  | .lineCheckError => 27
  | .relayOverrun => 28
  | .lineLoss => 29
  | .originateFull => 30
  | .parameterClamped => 31

/-- Whether the source of a number is a level source (the kind column of R190). -/
def levelSource (n : Nat) : Bool := n ∈ [2, 3, 4, 5, 11, 12, 13, 18, 24, 29]

/-- The direction a DRIVER DEMAND's byte names (R181). -/
def Direction.ofCode : Nat → Option Direction
  | 0 => some .neutral
  | 1 => some .up
  | 2 => some .down
  | _ => none

def Direction.code : Direction → Nat
  | .neutral => 0
  | .up => 1
  | .down => 2

/-- The direction of travel a commanded direction names, none for NEUTRAL. -/
def Direction.sense : Direction → Option Sense
  | .neutral => none
  | .up => some .up
  | .down => some .down

/-- The load class a DRIVER DEMAND's byte names (R181). -/
def LoadClass.ofCode : Nat → Option LoadClass
  | 0 => some .empty
  | 1 => some .half
  | 2 => some .full
  | _ => none

/-- The directions a restriction's applies-to byte names (R179). -/
def AppliesTo.ofCode : Nat → Option AppliesTo
  | 1 => some .up
  | 2 => some .down
  | 3 => some .both
  | _ => none

/-- Whether a restriction applies in a direction of travel (R67, R69). -/
def AppliesTo.holds : AppliesTo → Sense → Bool
  | .both, _ => true
  | .up, d => d == .up
  | .down, d => d == .down

/-- The route an EVENT LEVEL SET's byte names (R179). -/
def Route.ofCode : Nat → Option Route
  | 1 => some .notice
  | 2 => some .radio
  | 3 => some .both
  | _ => none

/-- The sides a DOOR CLOSE's byte names (R140, R179). -/
def closeSides : Nat → Option (List Side)
  | 1 => some [.left]
  | 2 => some [.right]
  | 3 => some [.left, .right]
  | _ => none

/-- Whether a platform's side serves a side of the car (R138, R18). -/
def PlatformSide.serves : PlatformSide → Side → Bool
  | .both, _ => true
  | .left, s => s == .left
  | .right, s => s == .right

def RelayState.code : RelayState → Nat
  | .none => 0
  | .placed => 1
  | .dropped => 2

def PositionState.code : PositionState → Nat
  | .unknown => 0
  | .known => 1
  | .lost => 2

/-- The code of a measured direction in a POSITION_REPORT (R154): none seen 0, UP 1, DOWN 2. -/
def senseCode : Option Sense → Nat
  | none => 0
  | some .up => 1
  | some .down => 2

/-! ## Counts, times and speeds -/

/-- One more on a count that is held at 65,535 (R23, R55, R151, R193). -/
def bump (n : Nat) : Nat := min 65535 (n + 1)

/-- The last position of the line (R3, R51). -/
def lineEnd : Nat := 1999999

/-- The time from one time stamp to a later one, in 10 ms units, across the wrap of the 32 bits. -/
def since (now earlier : Stamp) : Nat := (now + 4294967296 - earlier) % 4294967296

/-- Whole km/h to cm/s, floor(kmh × 250 / 9) (00_scope, Units and ranges). -/
def cms (kmh : Nat) : Nat := kmh * 250 / 9

/-- Quotient rounded up. -/
def ceilDiv (n d : Nat) : Nat := (n + d - 1) / d

/-- Insert behind every element whose key is not above the new one's. -/
def insertBy {α : Type} (le : α → α → Bool) (x : α) : List α → List α
  | [] => [x]
  | y :: ys => if le y x then y :: insertBy le x ys else x :: y :: ys

/-- Sort by repeated insertion; equal elements keep their order. -/
def sortBy {α : Type} (le : α → α → Bool) : List α → List α
  | [] => []
  | x :: xs => insertBy (fun a b => le a b && !le b a) x (sortBy le xs)

/-! ## Positions and the car extent -/

/-- The low end of the car extent, pos − unc − L_c/2 (00_scope, The car and its extent). -/
def extentLow (p : PositionRecord) (carLength : Nat) : Int := (p.pos : Int) - p.unc - (carLength / 2 : Nat)

/-- The high end of the car extent, pos + unc + L_c/2. -/
def extentHigh (p : PositionRecord) (carLength : Nat) : Int := (p.pos : Int) + p.unc + (carLength / 2 : Nat)

/-- The end of the extent furthest ahead in a direction of travel. -/
def frontMax (p : PositionRecord) (carLength : Nat) : Sense → Int
  | .up => extentHigh p carLength
  | .down => extentLow p carLength

/-- The other end of the extent. -/
def rearMin (p : PositionRecord) (carLength : Nat) : Sense → Int
  | .up => extentLow p carLength
  | .down => extentHigh p carLength

/-- The last position a segment covers, low + length − 1. -/
def Segment.high (s : Segment) : Int := (s.low : Int) + s.length - 1

/-- Whether a segment overlaps the interval of positions from `lo` to `hi`, both inclusive (section 1.1). -/
def Segment.overlaps (s : Segment) (lo hi : Int) : Bool := decide ((s.low : Int) ≤ hi ∧ lo ≤ s.high)

/-! ## The emergency cause set -/

/-- Whether the emergency cause set holds no cause (R109). -/
def causesEmpty (q : PerCause (Option CauseRecord)) : Bool := Cause.list.all fun c => (q.get c).isNone

/-- The set as a mask, the sum of the mask values of the causes held (R109). -/
def causeMask (q : PerCause (Option CauseRecord)) : Nat :=
  (Cause.list.map fun c => if (q.get c).isSome then 2 ^ c.code else 0).sum

/-- The causes held with their records, in code order, as every report of the set shows them (R109). -/
def causeRecords (q : PerCause (Option CauseRecord)) : List (Cause × CauseRecord) :=
  Cause.list.filterMap fun c => (q.get c).map fun r => (c, r)

end Sys2Proof.Machine
end

