-- ==== Sys2Proof/Machine/Operands.lean ====
section
/-! DEFINITION. Bytes on the part's boundary: byte order, the CRC (R19, R152, section 10.1), the consist line frame (R170),
telegram payloads (R179), orders and their bodies (R154, section 9.5) and the radio frame (R152). -/

namespace Sys2Proof.Machine

/-! ## Byte order and CRC -/

/-- A multi-byte field's value, most significant byte first (R19, R179, section 9.2). -/
def be (l : List Byte) : Nat := l.foldl (fun n b => n * 256 + b.toNat) 0

/-- A value in `k` bytes, most significant byte first. -/
def beBytes : Nat → Nat → List Byte
  | 0, _ => []
  | k + 1, n => Byte.ofNat (n / 256 ^ k) :: beBytes k n

/-- A two-byte field in two's complement (R162, R179). -/
def signed16 (n : Nat) : Int := if n < 32768 then n else (n : Int) - 65536

/-- The two bytes of a value in two's complement. -/
def signedBytes (i : Int) : List Byte := beBytes 2 (i % 65536).toNat

/-- One bit of the CRC with generator x^16 + x^12 + x^5 + 1: shift out the top bit and reduce. -/
def crcShift (c : Check) : Check := if c.msb then (c <<< 1) ^^^ 0x1021#16 else c <<< 1

/-- One byte of the CRC, most significant bit first. -/
def crcByte (c : Check) (b : Byte) : Check :=
  crcShift (crcShift (crcShift (crcShift (crcShift (crcShift (crcShift (crcShift (c ^^^ (b.setWidth 16 <<< 8)))))))))

/-- The CRC of a string of bytes, the register starting at all ones, without final inversion. -/
def crc (l : List Byte) : Check := l.foldl crcByte 0xFFFF#16

/-- A flag byte: 1 for set, 0 for clear (R179); any other byte reads as a free value (notes/assumptions/4.md). -/
def flagOf (b : Byte) : Bool := if b.toNat = 0 then false else if b.toNat = 1 then true else Config.oddFlag b.toNat

def flagByte (b : Bool) : Byte := if b then 1 else 0

/-! ## The consist line frame -/

/-- How a received frame ended (R170). -/
inductive Verdict where
  | wellFormed | bad | aborted
  deriving DecidableEq, Repr

/-- The length and CRC conditions of a well-formed frame, over its bytes from dest to CRC (R170). -/
def frameFits (bytes : List Byte) : Bool :=
  let n := bytes.length
  let len := (bytes.getD 5 0).toNat
  decide (n = 8 + len) && decide (len ≤ 48) && decide (crc (bytes.take (n - 2)) = BitVec.ofNat 16 (be (bytes.drop (n - 2))))

/-- The judgement of R170 on a frame's bytes and the symbol that closed it. -/
def verdict (closing : Closing) (bytes : List Byte) : Verdict :=
  if closing ≠ .endSymbol ∨ bytes.length ≥ 57 then .aborted
  else if frameFits bytes then .wellFormed
  else .bad

/-- The payload of a well-formed frame. -/
def framePayload (bytes : List Byte) : List Byte := (bytes.drop 6).take (bytes.length - 8)

/-- A frame's bytes from dest to CRC, from its fields. -/
def frameBytes (dest source kind hop seq : Nat) (payload : List Byte) : List Byte :=
  let head := [Byte.ofNat dest, Byte.ofNat source, Byte.ofNat kind, Byte.ofNat hop, Byte.ofNat seq,
    Byte.ofNat payload.length] ++ payload
  head ++ beBytes 2 (crc head).toNat

/-! ## Segment bodies -/

/-- Five bytes a marker: its id in two and its offset in three (section 9.5). -/
def parseMarkers : Nat → List Byte → Option (List MarkerField)
  | 0, [] => some []
  | n + 1, a :: b :: c :: d :: e :: rest => (parseMarkers n rest).map (⟨be [a, b], be [c, d, e]⟩ :: ·)
  | _, _ => none

/-- The body of a SEGMENT DELIVERY or SEGMENT LOAD, 20 bytes and 5 for each marker its count byte names (section 9.5). -/
def parseSegment : List Byte → Option SegmentBody
  | i1 :: i0 :: l2 :: l1 :: l0 :: n2 :: n1 :: n0 :: k :: g1 :: g0 :: u :: d :: p2 :: p1 :: p0 :: q2 :: q1 :: q0 :: m :: rest =>
    (parseMarkers m.toNat rest).map fun ms =>
      { id := be [i1, i0], low := be [l2, l1, l0], length := be [n2, n1, n0], kindByte := k.toNat,
        gradient := signed16 (be [g1, g0]), upLimit := u.toNat, downLimit := d.toNat,
        platformLow := be [p2, p1, p0], platformHigh := be [q2, q1, q0], markers := ms }
  | _ => none

/-- The bytes of a segment body. -/
def segmentBytes (b : SegmentBody) : List Byte :=
  beBytes 2 b.id ++ beBytes 3 b.low ++ beBytes 3 b.length ++ [Byte.ofNat b.kindByte] ++ signedBytes b.gradient ++
  [Byte.ofNat b.upLimit, Byte.ofNat b.downLimit] ++ beBytes 3 b.platformLow ++ beBytes 3 b.platformHigh ++
  [Byte.ofNat b.markers.length] ++ b.markers.flatMap fun m => beBytes 2 m.id ++ beBytes 3 m.offset

/-! ## Telegram payloads -/

/-- The kind code of a telegram (R178). -/
def telegramKind : Telegram → Nat
  | .driverDemand .. => 2
  | .positionSet .. => 3
  | .emergency => 4
  | .emergencyRelease .. => 5
  | .doorRelease .. => 8
  | .doorClose .. => 9
  | .testOn => 12
  | .testOff => 13
  | .select .. => 14
  | .deselect => 15
  | .testRelease => 16
  | .testApply => 17
  | .segmentLoad .. => 20
  | .segmentRemove .. => 21
  | .pinWindowSet .. => 22
  | .restrictionAdd .. => 24
  | .restrictionCancel .. => 25
  | .parameterSet .. => 28
  | .parameterRead .. => 29
  | .statusRead .. => 30
  | .faultRead => 31
  | .faultRecordRead => 32
  | .groupSet .. => 33
  | .restart => 34
  | .eventEnableSet .. => 36
  | .eventEnableClear .. => 37
  | .eventLevelSet .. => 38
  | .eventClear .. => 39
  | .noticePoll => 40
  | .radioRelay .. => 44
  | .radioStatus .. => 45

/-- The kinds of the telegram index that telegram acceptance hands to a block (R178, without ROLL CALL). -/
def knownKind (k : Nat) : Bool :=
  k ∈ [2, 3, 4, 5, 8, 9, 12, 13, 14, 15, 16, 17, 20, 21, 22, 24, 25, 28, 29, 30, 31, 32, 33, 34, 36, 37, 38, 39, 40, 44, 45]

/-- Whether the index takes a kind addressed to the car's number (R178). -/
def takenByCar (k : Nat) : Bool := !(k ∈ [44, 45])

/-- Whether the index takes a kind sent to a group (R178). -/
def takenByGroup (k : Nat) : Bool :=
  k ∈ [2, 3, 4, 5, 8, 9, 20, 21, 22, 24, 25, 28, 34, 36, 37, 38, 39]

/-- Whether the index takes a kind under an addressing (R178); RADIO RELAY and RADIO STATUS come by broadcast alone. -/
def takenUnder (k : Nat) : Addressing → Bool
  | .car => takenByCar k
  | .group => takenByGroup k
  | .broadcast => takenByGroup k || k ∈ [44, 45]

/-- A payload as the telegram of a kind, or none when its length does not fit the kind (R179). -/
def parseTelegram (kind : Nat) (p : List Byte) : Option Telegram :=
  match kind with
  | 2 => match p with | [d, l, r, c] => some (.driverDemand d.toNat l.toNat r.toNat c.toNat) | _ => none
  | 3 => match p with | [a, b, c] => some (.positionSet (be [a, b, c])) | _ => none
  | 4 => match p with | [] => some .emergency | _ => none
  | 5 => match p with | [a, b] => some (.emergencyRelease (be [a, b])) | _ => none
  | 8 => match p with | [s, o, n] => some (.doorRelease s.toNat (flagOf o) (flagOf n)) | _ => none
  | 9 => match p with | [s] => some (.doorClose s.toNat) | _ => none
  | 12 => match p with | [] => some .testOn | _ => none
  | 13 => match p with | [] => some .testOff | _ => none
  | 14 => match p with | [n] => some (.select n.toNat) | _ => none
  | 15 => match p with | [] => some .deselect | _ => none
  | 16 => match p with | [] => some .testRelease | _ => none
  | 17 => match p with | [] => some .testApply | _ => none
  | 20 => (parseSegment p).map .segmentLoad
  | 21 => match p with | [a, b] => some (.segmentRemove (be [a, b])) | _ => none
  | 22 => match p with
    | [w, f, v1, v0, m1, m0] => some (.pinWindowSet w.toNat (flagOf f) (be [v1, v0]) (be [m1, m0])) | _ => none
  | 24 => match p with
    | [i, l2, l1, l0, h2, h1, h0, s, a] =>
      some (.restrictionAdd i.toNat (be [l2, l1, l0]) (be [h2, h1, h0]) s.toNat a.toNat) | _ => none
  | 25 => match p with | [i] => some (.restrictionCancel i.toNat) | _ => none
  | 28 => match p with | [i, a, b, c, d] => some (.parameterSet i.toNat (be [a, b, c, d])) | _ => none
  | 29 => match p with | [i] => some (.parameterRead i.toNat) | _ => none
  | 30 => match p with | [g] => some (.statusRead g.toNat) | _ => none
  | 31 => match p with | [] => some .faultRead | _ => none
  | 32 => match p with | [] => some .faultRecordRead | _ => none
  | 33 => match p with | [e, f, v, m] => some (.groupSet e.toNat (flagOf f) v.toNat m.toNat) | _ => none
  | 34 => match p with | [] => some .restart | _ => none
  | 36 => match p with | [a, b, c, d] => some (.eventEnableSet (be [a, b, c, d])) | _ => none
  | 37 => match p with | [a, b, c, d] => some (.eventEnableClear (be [a, b, c, d])) | _ => none
  | 38 => match p with | [s, l, r] => some (.eventLevelSet s.toNat l.toNat r.toNat) | _ => none
  | 39 => match p with | [a, b, c, d] => some (.eventClear (be [a, b, c, d])) | _ => none
  | 40 => match p with | [] => some .noticePoll | _ => none
  | 44 => match p with
    | k :: a :: b :: body => if body.length ≤ 40 then some (.radioRelay k.toNat (be [a, b]) body) else none | _ => none
  | 45 => match p with | [l, s] => some (.radioStatus l.toNat s.toNat) | _ => none
  | _ => none

/-- The payload that carries a telegram (R179). -/
def telegramBytes : Telegram → List Byte
  | .driverDemand d l r c => [Byte.ofNat d, Byte.ofNat l, Byte.ofNat r, Byte.ofNat c]
  | .positionSet p => beBytes 3 p
  | .emergencyRelease m => beBytes 2 m
  | .doorRelease s o n => [Byte.ofNat s, flagByte o, flagByte n]
  | .doorClose s => [Byte.ofNat s]
  | .select n => [Byte.ofNat n]
  | .segmentLoad b => segmentBytes b
  | .segmentRemove i => beBytes 2 i
  | .pinWindowSet w f v m => [Byte.ofNat w, flagByte f] ++ beBytes 2 v ++ beBytes 2 m
  | .restrictionAdd i l h s a => [Byte.ofNat i] ++ beBytes 3 l ++ beBytes 3 h ++ [Byte.ofNat s, Byte.ofNat a]
  | .restrictionCancel i => [Byte.ofNat i]
  | .parameterSet i v => Byte.ofNat i :: beBytes 4 v
  | .parameterRead i => [Byte.ofNat i]
  | .statusRead g => [Byte.ofNat g]
  | .groupSet e f v m => [Byte.ofNat e, flagByte f, Byte.ofNat v, Byte.ofNat m]
  | .eventEnableSet m => beBytes 4 m
  | .eventEnableClear m => beBytes 4 m
  | .eventLevelSet s l r => [Byte.ofNat s, Byte.ofNat l, Byte.ofNat r]
  | .eventClear m => beBytes 4 m
  | .radioRelay k n body => Byte.ofNat k :: beBytes 2 n ++ body
  | .radioStatus l s => [Byte.ofNat l, Byte.ofNat s]
  | .emergency | .testOn | .testOff | .deselect | .testRelease | .testApply | .faultRead | .faultRecordRead | .restart
  | .noticePoll => []

/-! ## Orders and the radio frame -/

/-- The order kinds of R154, codes 1 to 6. -/
def orderKind (k : Nat) : Bool := decide (1 ≤ k ∧ k ≤ 6)

/-- The kinds of R154 that are no order: LINK CHECK, ORDER_ACK, POSITION_REPORT, ALARM_REPORT. -/
def plainKind (k : Nat) : Bool := k ∈ [16, 32, 33, 34]

/-- A body as the order of a kind, or none when its length does not fit the kind (section 9.5). -/
def parseOrder (kind : Nat) (body : List Byte) : Option Order :=
  match kind with
  | 1 => match body with
    | [i, l2, l1, l0, h2, h1, h0, s, a] =>
      some (.restrictionAdd i.toNat (be [l2, l1, l0]) (be [h2, h1, h0]) s.toNat a.toNat) | _ => none
  | 2 => match body with | [i] => some (.restrictionCancel i.toNat) | _ => none
  | 3 => match body with | [] => some .remoteStop | _ => none
  | 4 => match body with | [a, b] => some (.stopRelease (be [a, b])) | _ => none
  | 5 => (parseSegment body).map .segmentDelivery
  | 6 => match body with | [] => some .positionPoll | _ => none
  | _ => none

/-- The kind code of an order (R154). -/
def orderCode : Order → Nat
  | .restrictionAdd .. => 1
  | .restrictionCancel .. => 2
  | .remoteStop => 3
  | .stopRelease .. => 4
  | .segmentDelivery .. => 5
  | .positionPoll => 6

/-- The body that carries an order (section 9.5). -/
def orderBytes : Order → List Byte
  | .restrictionAdd i l h s a => [Byte.ofNat i] ++ beBytes 3 l ++ beBytes 3 h ++ [Byte.ofNat s, Byte.ofNat a]
  | .restrictionCancel i => [Byte.ofNat i]
  | .stopRelease n => beBytes 2 n
  | .segmentDelivery b => segmentBytes b
  | .remoteStop | .positionPoll => []

/-- A radio frame's fields (section 9.2). -/
structure RadioFrame where
  station : Nat
  train : Nat
  kind : Nat
  number : Nat
  body : List Byte
  deriving DecidableEq, Repr

/-- A delivered frame's fields when its byte count, length and check are right (R152). -/
def parseRadio (bytes : List Byte) : Option RadioFrame :=
  match bytes with
  | s :: t1 :: t0 :: k :: n1 :: n0 :: len :: rest =>
    if bytes.length = 9 + len.toNat ∧ len.toNat ≤ 40 ∧
        crc (bytes.take (7 + len.toNat)) = BitVec.ofNat 16 (be (bytes.drop (7 + len.toNat))) then
      some ⟨s.toNat, be [t1, t0], k.toNat, be [n1, n0], rest.take len.toNat⟩
    else none
  | _ => none

/-- A frame as the modem takes it (section 9.2, R153). -/
def radioBytes (f : RadioFrame) : List Byte :=
  let head := [Byte.ofNat f.station] ++ beBytes 2 f.train ++ [Byte.ofNat f.kind] ++ beBytes 2 f.number ++
    [Byte.ofNat f.body.length] ++ f.body
  head ++ beBytes 2 (crc head).toNat

/-- A report to the valley as a frame: its kind, number and body (R154). -/
def reportFrame (station train : Nat) : Report → RadioFrame
  | .ack number result success duplicate relay =>
    ⟨station, train, 32, number, [Byte.ofNat result.code, Byte.ofNat (if success then 0 else 1), flagByte duplicate,
      Byte.ofNat relay.code]⟩
  | .position r =>
    ⟨station, train, 33, r.number,
      [Byte.ofNat r.carNumber] ++ beBytes 4 r.stamp ++ beBytes 3 r.pos ++ [Byte.ofNat r.positionState.code] ++
      beBytes 3 r.unc ++ beBytes 2 r.fused ++ [Byte.ofNat (senseCode r.measured), Byte.ofNat r.commanded.code] ++
      beBytes 2 (r.segment.getD 65535) ++ beBytes 2 r.causeMask ++ [Byte.ofNat r.link.code, flagByte r.faultStop]⟩
  | .alarm source level stamp detail carNumber =>
    ⟨station, train, 34, 0,
      [Byte.ofNat source, Byte.ofNat level] ++ beBytes 4 stamp ++ beBytes 2 detail ++ [Byte.ofNat carNumber]⟩

end Sys2Proof.Machine
end

