-- ==== Sys2Proof/Machine/Flags.lean ====
section
/-! DEFINITION. The event router's flags and notices (R190 to R193) and the report queue of the radio car that its alarms
enter (R153, R166, R167). Every operation that can make an event occur ends in `occur` or `conditionEnd`. -/

namespace Sys2Proof.Machine

/-! ## Source records and the notice queue -/

/-- The record of a source; all 32 are present in every state the part reaches (R190). -/
def Evr.source (e : Evr) (n : Nat) : SourceRecord := e.sources.getD n ⟨0, false, .notice, false⟩

/-- The source records with one of them changed. -/
def Evr.modify (e : Evr) (n : Nat) (f : SourceRecord → SourceRecord) : Evr := { e with sources := e.sources.modify n f }

/-- The notice queue with a notice behind every queued notice of its level or a higher one (R193). -/
def insertNotice (n : Notice) (q : List Notice) : List Notice := insertBy (fun y x => decide (x.level ≤ y.level)) n q

/-- A notice offered to the queue (R193): merged into its source's notice, entered, entered in place of the newest notice of
the lowest level, or discarded. -/
def Evr.offer (e : Evr) (n : Notice) : Evr :=
  if e.notices.any fun q => q.source == n.source then
    { e with notices := e.notices.map fun q => if q.source = n.source then { q with stamp := n.stamp, detail := n.detail } else q }
  else if e.notices.length < 16 then { e with notices := insertNotice n e.notices }
  else
    match e.notices.getLast? with
    | some low =>
      if low.level < n.level then { e with notices := insertNotice n e.notices.dropLast, lost := bump e.lost }
      else { e with lost := bump e.lost }
    | none => { e with lost := bump e.lost }

/-- Whether a source reports an occurrence by a route (R192): enabled, level above 0. -/
def SourceRecord.reports (r : SourceRecord) : Bool := r.enable && decide (0 < r.level)

def Route.toNotice (r : Route) : Bool := r == .notice || r == .both
def Route.toRadio (r : Route) : Bool := r == .radio || r == .both

/-- An occurrence, or the start of a level source's condition, as the EVR takes it (R192, items 1 and 2). -/
def Evr.take (e : Evr) (now : Stamp) (src : Source) (detail : Nat) : Evr :=
  let r := e.source src.number
  let e := e.modify src.number fun r => { r with pending := true }
  if r.reports && r.route.toNotice then e.offer ⟨src.number, r.level, now, detail⟩ else e

/-! ## The report queue and the modem -/

def Report.isAck : Report → Bool
  | .ack .. => true
  | _ => false

def Report.isPosition : Report → Bool
  | .position .. => true
  | _ => false

/-- The queue without the first element that qualifies, or none when there is no such element. -/
def removeFirst {α : Type} (f : α → Bool) : List α → Option (List α)
  | [] => none
  | x :: xs => if f x then some xs else (removeFirst f xs).map (x :: ·)

/-- A report joins the queue, or takes or loses its place when the queue holds 8 (R166, R167). -/
def Vrl.join (v : Vrl) (r : Report) : Vrl :=
  if v.reports.length < 8 then { v with reports := v.reports ++ [r] }
  else
    match r with
    | .position .. =>
      match removeFirst Report.isPosition v.reports with
      | some q => { v with reports := q ++ [r], lostReports := bump v.lostReports }
      | none => { v with lostReports := bump v.lostReports }
    | .alarm .. => { v with lostReports := bump v.lostReports }
    | .ack .. =>
      match removeFirst (fun q => !q.isAck) v.reports with
      | some q => { v with reports := q ++ [r], lostReports := bump v.lostReports }
      | none => { v with reports := v.reports.drop 1 ++ [r], lostReports := bump v.lostReports }

/-- While the transmit state is FREE, the report at the head leaves the queue and is written to RAD_TXD (R153). -/
def Vrl.pump (v : Vrl) (train : Nat) : Vrl :=
  match v.transmit, v.reports with
  | none, r :: rest => { v with reports := rest, transmit := some ⟨radioBytes (reportFrame v.station train r), 0⟩ }
  | _, _ => v

/-- A report is queued and, when the transmit is FREE, written at once (R153, R166). Followers keep an empty queue (R151). -/
def Vrl.queueReport (v : Vrl) (train : Nat) (r : Report) : Vrl :=
  if v.role = .radio then (v.join r).pump train else v

/-! ## Occurrences -/

/-- The alarm the EVR hands the VRL of the radio car for an occurrence (R192, item 3). -/
def alarmed (c : Car) (src : Source) (detail : Nat) : Vrl :=
  let r := c.evr.source src.number
  if r.reports && r.route.toRadio then
    c.vrl.queueReport c.lif.params.trainId (.alarm src.number r.level c.now detail (c.lif.carNumber.getD 0))
  else c.vrl

/-- An occurrence of an edge source, or the start of a level source's condition, with its detail (R192). -/
def occur (src : Source) (detail : Nat) (c : Car) : Car :=
  { c with evr := c.evr.take c.now src detail, vrl := alarmed c src detail }

/-- The end of a level source's condition (R192): its pending flag is cleared. -/
def conditionEnd (src : Source) (c : Car) : Car :=
  { c with evr := c.evr.modify src.number fun r => { r with pending := false } }

/-- A level source's condition handed as it becomes present or ends (R190, R192); nothing when it stands as it stood. -/
def levelChange (src : Source) (before after : Bool) (detail : Nat) (c : Car) : Car :=
  if before = after then c else if after then occur src detail c else conditionEnd src c

end Sys2Proof.Machine
end

