-- ==== Sys2Proof/Machine/Line.lean ====
section
/-! DEFINITION. The consist line interface below telegram acceptance: relaying and hold buffers (R170 to R172), the originate
queue, its places and the bytes of its frames (R173, R174, R180), roll call (R175) and group addressing (R176). -/

namespace Sys2Proof

/-- The bytes that lay out a REPLY's data in one of its parts, a free value: the manual names the fields each answer carries
and gives no layout of them, nor which field goes into which part (R180; notes/assumptions/9.md). -/
opaque Config.replyLayout (data : Machine.ReplyData) (part : Nat) : List Byte

/-- The bytes that lay out a NOTICE BATCH, a free value: R194 names its fields and gives no layout
(notes/assumptions/9.md). -/
opaque Config.batchLayout (notices : List Machine.Notice) (pending : List Bool) : List Byte

/-- The bytes that lay out a FAULT STOP, a free value: R129 names its fields and gives no layout (notes/assumptions/9.md). -/
opaque Config.faultStopLayout (carNumber : Nat) (cause : Machine.FaultCause) (stamp laterCount laterMask pos : Nat)
    (positionState : Machine.PositionState) : List Byte

end Sys2Proof

namespace Sys2Proof.Machine

/-! ## Frames of the originate queue -/

/-- The kind code of an originated frame (R178). -/
def Frame.kind : Frame → Nat
  | .reply .. => 48
  | .noticeBatch .. => 49
  | .faultStop .. => 50
  | .radioStatus .. => 45
  | .radioRelay .. => 44

def Frame.isReply : Frame → Bool
  | .reply .. => true
  | _ => false

/-- The frames addressed to the cab; the others are broadcasts (R174, R178). -/
def Frame.toCab : Frame → Bool
  | .reply .. => true
  | .noticeBatch .. => true
  | _ => false

def Frame.isNoticeBatch (f : Frame) : Bool := f.kind == 49
def Frame.isFaultStop (f : Frame) : Bool := f.kind == 50
def Frame.isRadioStatus (f : Frame) : Bool := f.kind == 45

/-- The seq of an originated frame: the poll's or the telegram's in an answer to the cab, 0 in the others (section 10.1). -/
def Frame.seq : Frame → Nat
  | .reply _ seq .. => seq
  | .noticeBatch seq .. => seq
  | .faultStop .. | .radioStatus _ | .radioRelay .. => 0

/-- The data bytes of a REPLY's part, at most 45 (R180); none for a reply that carries a result alone. -/
def replyBytes (part : Nat) : ReplyData → List Byte
  | .none => []
  | data => (Config.replyLayout data part).take 45

/-- The payload of an originated frame (R129, R179, R180, R194). `link` is the link state a RADIO STATUS takes as its sending
starts (R174). -/
def Frame.payload (link : LinkState) : Frame → List Byte
  | .reply kind _ result part parts data =>
    [Byte.ofNat kind, Byte.ofNat result.code, Byte.ofNat (part * 16 + parts)] ++ replyBytes part data
  | .noticeBatch _ notices pending => (Config.batchLayout notices pending).take 48
  | .faultStop carNumber cause stamp laterCount laterMask pos positionState =>
    (Config.faultStopLayout carNumber cause stamp laterCount laterMask pos positionState).take 48
  | .radioStatus station => telegramBytes (.radioStatus link.code station)
  | .radioRelay kind number body => telegramBytes (.radioRelay kind number body)

/-- An originated frame's bytes from dest to CRC: to the cab (0) or to every node (255), with hop 0 (section 10.1, R180). -/
def Frame.bytes (source : Nat) (link : LinkState) (f : Frame) : List Byte :=
  frameBytes (if f.toCab then 0 else 255) source f.kind 0 f.seq (f.payload link)

/-- A frame as it joins the queue, with the car number as it stands as its source. DESIGN CHOICE: a frame that is no reply keeps that
number if a roll call renumbers the car while it waits; R175 changes the source of waiting replies alone, and R174 takes nothing but a
RADIO STATUS's link state at the start of sending (notes/assumptions/66.md). -/
def Queued.fresh (f : Frame) (source : Nat) : Queued := ⟨f, source, ⟨.waiting, .waiting⟩⟩

/-- Whether the sending of a queued frame has begun on some port (R173). -/
def Queued.begun (q : Queued) : Bool := !(q.progress == ⟨.waiting, .waiting⟩)

/-- Whether a queued frame has been sent on each port it goes to, and leaves the queue (R174). -/
def Queued.complete (q : Queued) : Bool :=
  if q.frame.toCab then q.progress.a == .sent || q.progress.b == .sent
  else q.progress.a == .sent && q.progress.b == .sent

/-! ## Places -/

/-- The places neither filled nor reserved (R173). -/
def Lif.freePlaces (l : Lif) : Nat := 8 - (l.queue.length + l.reservedReplies + l.reservedBatch)

/-- The non-reply frames, queued or with a place reserved (R173, R177). -/
def Lif.nonReplies (l : Lif) : Nat := (l.queue.filter fun q => !q.frame.isReply).length + l.reservedBatch

/-- Whether the limits let a non-reply frame be placed (R173). -/
def Lif.nonReplyRoom (l : Lif) : Bool := decide (l.nonReplies < 6) && decide (0 < l.freePlaces)

/-- The car number that frames carry as their source, 0 while the car is unnumbered (section 10.1, R129, R158, R164). -/
def Lif.sourceNumber (l : Lif) : Nat := l.carNumber.getD 0

/-! ## Transmitters -/

/-- Whether a port may start a queued frame: one addressed to the cab on the cab-side port alone (R174). -/
def Lif.eligible (l : Lif) (p : Port) (q : Queued) : Bool :=
  if q.frame.toCab then decide (l.cabSide = some p) && !q.begun else q.progress.get p == .waiting

/-- The first queued frame that qualifies, and the queue with its sending begun on a port. -/
def beginFirst (f : Queued → Bool) (p : Port) : List Queued → Option (Queued × List Queued)
  | [] => none
  | q :: rest =>
    if f q then some (q, { q with progress := q.progress.set p .sending } :: rest)
    else (beginFirst f p rest).map fun r => (r.1, q :: r.2)

/-- A queued frame as its sending starts, with the source and the link state it takes then (R174, R175) and its bytes. DESIGN CHOICE:
the source of a frame that is no reply is the one of its placing (notes/assumptions/66.md). -/
def Lif.outgoing (l : Lif) (link : LinkState) (q : Queued) : Outgoing :=
  let source := if q.frame.isReply then l.sourceNumber else q.source
  ⟨q.frame, source, if q.frame.isRadioStatus then some link else none, q.frame.bytes source link⟩

/-- A port whose transmitter is IDLE starts its oldest held frame, or else the next originated frame for it (R172, R174). -/
def Lif.startPort (l : Lif) (link : LinkState) (p : Port) : Lif :=
  let ps := l.ports.get p
  match ps.tx, ps.held with
  | .idle, h :: rest => { l with ports := l.ports.set p { ps with tx := .sendingHeld h, held := rest } }
  | .idle, [] =>
    match beginFirst (l.eligible p) p l.queue with
    | some (q, queue) =>
      { l with queue := queue, ports := l.ports.set p { ps with tx := .sendingOriginated (l.outgoing link q) } }
    | none => l
  | _, _ => l

/-- Both ports start what they can. -/
def Lif.start (l : Lif) (link : LinkState) : Lif := (l.startPort link .a).startPort link .b

/-- A transmitter becomes IDLE after closing its frame with a symbol (R171, R172). -/
def Lif.release (l : Lif) (p : Port) (closing : Closing) : Lif :=
  { l with ports := l.ports.set p { l.ports.get p with tx := .idle, lastClosing := some closing } }

/-- A queued frame that a port has finished sending (R174). -/
def finishOn (p : Port) (q : Queued) : Queued :=
  if q.progress.get p = .sending then { q with progress := q.progress.set p .sent } else q

/-- The end of the frame a port sends from a hold buffer or from the originate queue (R172, R174). -/
def Lif.transmitDone (l : Lif) (link : LinkState) (p : Port) : Lif :=
  match (l.ports.get p).tx with
  | .sendingHeld _ => (l.release p .endSymbol).start link
  | .sendingOriginated _ =>
    ({ l with queue := (l.queue.map (finishOn p)).filter fun q => !q.complete }.release p .endSymbol).start link
  | _ => l

/-! ## Placing frames -/

/-- Frames placed at the end of the queue; the ports start what they can. -/
def Lif.append (l : Lif) (link : LinkState) (frames : List Frame) : Lif :=
  { l with queue := l.queue ++ frames.map (Queued.fresh · l.sourceNumber) }.start link

/-- A non-reply frame other than FAULT STOP placed, or dropped with ORIGINATE_FULL (R173). -/
def placeNonReply (f : Frame) (c : Car) : Car :=
  if c.lif.nonReplyRoom then { c with lif := c.lif.append c.vrl.link [f] } else occur .originateFull (512 + f.kind) c

/-- The queue without the frame a FAULT STOP displaces: the oldest NOTICE BATCH whose sending has not begun, or else the
oldest such RADIO STATUS or RADIO RELAY (R173). -/
def displace (q : List Queued) : Option (List Queued) :=
  match removeFirst (fun x => x.frame.isNoticeBatch && !x.begun) q with
  | some rest => some rest
  | none => removeFirst (fun x => (x.frame.kind == 45 || x.frame.kind == 44) && !x.begun) q

/-- A FAULT STOP placed, displacing another frame when the limits ask for it, or dropped with ORIGINATE_FULL (R173). -/
def placeFaultStop (f : Frame) (c : Car) : Car :=
  if c.lif.nonReplyRoom then { c with lif := c.lif.append c.vrl.link [f] }
  else
    match displace c.lif.queue with
    | some rest => { c with lif := { c.lif with queue := rest }.append c.vrl.link [f] }
    | none => occur .originateFull (512 + f.kind) c

/-- The parts of an answer as REPLY frames, numbered from 1 (R180). -/
def replyFrames (kind seq : Nat) (result : Result) (parts : List ReplyData) : List Frame :=
  parts.zipIdx.map fun d => .reply kind seq result (d.2 + 1) parts.length d.1

/-- The answer of a telegram addressed to the car fills its reserved places; the places it does not fill become free (R177,
R180), and so does the place of the batch that a NOTICE POLL answered by a REPLY does not send. A telegram taken by group or
broadcast gets none. -/
def answer (via : Via) (kind : Nat) (result : Result) (parts : List ReplyData) (c : Car) : Car :=
  if via.addressing = .car then
    { c with lif :=
      { c.lif with reservedReplies := 0, reservedBatch := 0 }.append c.vrl.link (replyFrames kind via.seq result parts) }
  else c

/-! ## Receiving -/

/-- Whether a dest matches a window or filter entry (R10, R176). -/
def Window.hits (w : Window) (n : Nat) : Bool := w.valid && decide (Nat.land n w.mask = Nat.land w.value w.mask)

/-- How a frame is addressed to this car, and whether it is relayed (R171, R176). -/
def Lif.address (l : Lif) (dest : Nat) : Bool × Option Addressing :=
  match l.carNumber with
  | none => (true, none)
  | some n =>
    if dest = n then (false, some .car)
    else if dest = 255 then (true, some .broadcast)
    else if 16 ≤ dest ∧ dest ≤ 239 ∧ l.groups.any (·.hits dest) then (true, some .group)
    else (true, none)

/-- Where a frame to be relayed goes: straight on, into a hold buffer of the outgoing port, or nowhere (R171, R172). -/
def Lif.relayRoute (l : Lif) (out : Port) : RelayRoute :=
  let ps := l.ports.get out
  if ps.tx = .idle then .direct else if ps.held.length < 2 then .held else .overrun

/-- The relay side of a frame's end (R171, R172): a frame relayed as it arrived is closed by an end or an abort symbol, and
one received into a hold buffer stays there if it is well-formed. -/
def Lif.closeRelay (l : Lif) (link : LinkState) (p : Port) (r : Reception) (v : Verdict) (bytes : List Byte) : Lif :=
  let l := { l with ports := l.ports.set p { l.ports.get p with rx := none } }
  match r.route with
  | .direct => (l.release p.other (if v = .wellFormed then .endSymbol else .abortSymbol)).start link
  | .held =>
    if v = .wellFormed then
      let ps := l.ports.get p.other
      { l with ports := l.ports.set p.other { ps with held := ps.held ++ [bytes] } }.start link
    else l
  | _ => l

/-- A frame that stopped without an end or abort symbol before a new one began at the port (R170). -/
def abandonReception (p : Port) (c : Car) : Car :=
  match (c.lif.ports.get p).rx with
  | some r => { c with lif := c.lif.closeRelay c.vrl.link p r .aborted [] }
  | none => c

/-- The receiver's decision once dest and kind have arrived (R171, R172). -/
def frameHeader (p : Port) (dest source kind : Nat) (c : Car) : Car :=
  let c := abandonReception p c
  let l := c.lif
  let (relay, copy) := if kind = 1 then (false, none) else l.address dest
  let route := if relay then l.relayRoute p.other else .none
  let l := { l with ports := l.ports.set p { l.ports.get p with rx := some ⟨dest, source, kind, route, copy⟩ } }
  let l := if route = .direct then { l with ports := l.ports.set p.other { l.ports.get p.other with tx := .relaying } } else l
  let c := { c with lif := l }
  if route = .overrun then occur .relayOverrun p.other.number c else c

/-! ## Roll call and group filter -/

/-- A relayed ROLL CALL goes into a hold buffer of the other port, or is discarded with RELAY_OVERRUN (R172, R175). -/
def relayRollCall (p : Port) (bytes : List Byte) (c : Car) : Car :=
  let ps := c.lif.ports.get p.other
  if ps.held.length < 2 then
    { c with lif := { c.lif with ports := c.lif.ports.set p.other { ps with held := ps.held ++ [bytes] } }.start c.vrl.link }
  else occur .relayOverrun p.other.number c

/-- A well-formed ROLL CALL judged by the line state and its hop (R175). DEDUCED: its payload is not judged, and the frame relayed
carries it as it was received (notes/assumptions/35.md). DESIGN CHOICE: its LINE_CHECK_ERROR occurs before the RELAY_OVERRUN of a
full port (notes/assumptions/62.md). -/
def rollCall (p : Port) (dest source hop seq : Nat) (payload : List Byte) (c : Car) : Car :=
  let free := c.odo.standstill && !c.brk.faultStop
  let c :=
    if hop ≤ 7 then
      if c.lif.carNumber = none ∨ free then { c with lif := { c.lif with carNumber := some (hop + 1), cabSide := some p } }
      else occur .lineCheckError (256 * p.number + 3) c
    else
      let c := if free then { c with lif := { c.lif with carNumber := none } } else c
      occur .lineCheckError (256 * p.number + 4) c
  let c := relayRollCall p (frameBytes dest source 1 (if hop ≤ 7 then hop + 1 else hop) seq payload) c
  { c with lif := c.lif.start c.vrl.link }

/-- GROUP SET (R176): the result and the filter that follows. -/
def groupSet (entry : Nat) (valid : Bool) (value mask : Nat) (c : Car) : Result × Car :=
  if entry < 1 ∨ 8 < entry ∨ 255 < value ∨ 255 < mask then (.range, c)
  else (.accepted, { c with lif := { c.lif with groups := c.lif.groups.set (entry - 1) ⟨valid, value, mask⟩ } })

/-! ## Occupancy -/

/-- The occupancy that the line page of STATUS READ reports (R173, R186). -/
def Lif.occupancy (l : Lif) : Occupancy :=
  ⟨l.queue.length, l.reservedReplies + l.reservedBatch, l.nonReplies, l.ports.map fun ps => ps.held.length⟩

end Sys2Proof.Machine
end

