-- ==== Sys2Proof/Machine/Brake.lean ====
section
/-! DEFINITION. The brake controller: the channel state rules (R96 to R100), holders and arbitration (R101 to R104), the brake
outputs (R105 to R108), the emergency cause set (R109 to R114) and the brake test's timings and endings (R121 to R124). -/

namespace Sys2Proof.Machine

/-! ## Causes of evaluation -/

/-- A cause of evaluation (R64), met by the next evaluation to begin (R65). -/
def Ssv.cause (s : Ssv) : Ssv := { s with waiting := { s.waiting with cause := true } }

/-- A cause of evaluation handed to the SSV (R64). -/
def ssvCause (c : Car) : Car := { c with ssv := c.ssv.cause }

/-! ## Channel states -/

/-- The reading that settles a transit, and the target reading of a test timing (R96, R121). -/
def BrakeCommand.target : BrakeCommand → Reading
  | .apply => .applied
  | .release => .released

/-- A transit whose reading equals its target passes to the settled state (R96). -/
def CogRecord.settleReading (r : CogRecord) : CogRecord :=
  match r.state, r.reading with
  | .releasing, .released => { r with state := .released, transit := none }
  | .applying, .applied => { r with state := .applied, transit := none }
  | _, _ => r

/-- A command taken by the channel (R96): one that leaves the state it finds starts a transit, ended at once when the reading
equals its target. In FAULT it changes the record and not the state (R99). -/
def CogRecord.takeCommand (r : CogRecord) (holder : Holder) (cmd : BrakeCommand) : CogRecord :=
  let q := { r with holder := holder, command := cmd }
  if cmd = .release ∧ (r.state = .applied ∨ r.state = .applying) then
    { q with state := .releasing, transit := some 0, departure := none }.settleReading
  else if cmd = .apply ∧ (r.state = .released ∨ r.state = .releasing) then
    { q with state := .applying, transit := some 0, departure := none }.settleReading
  else q

/-- The departure timer in a settled state whose own reading is `own` (R98). -/
def departureTimer (timer : Timer) (reading own : Reading) : Timer :=
  if reading = own then none else some (timer.getD 0)

/-- A feedback reading taken by the channel (R95, R96, R98). -/
def CogRecord.takeReading (r : CogRecord) (reading : Reading) : CogRecord :=
  let r := { r with reading := reading }
  match r.state with
  | .applied => { r with departure := departureTimer r.departure reading .applied }
  | .released => { r with departure := departureTimer r.departure reading .released }
  | .fault => r
  | _ => r.settleReading

/-- The reading of the two contacts (R95). -/
def readingOf (applied released : Bool) : Reading :=
  match applied, released with
  | true, false => .applied
  | false, true => .released
  | _, _ => .mid

/-! ## Arbitration -/

/-- The test command of a channel selected for test, none for a channel that is not (R101). -/
def BrakeTest.commandFor (t : BrakeTest) (ch : CogChannel) : Option BrakeCommand :=
  match t with
  | .onSelected s => if s.channel = ch then some s.command else none
  | _ => none

def BrakeTest.isSelected : BrakeTest → Bool
  | .onSelected _ => true
  | _ => false

/-- Whether the supervision hold or the door hold is placed (R101). -/
def holdPlaced (c : Car) : Bool := c.ssv.record.hold || c.brk.doorHold

/-- Whether the release holder is present for a channel (R104). -/
def releasePresent (b : Brk) (ch : CogChannel) : Bool :=
  b.copy.release && b.test == .off && !((b.channels.get ch).state == .fault)

/-- The highest holder present for a channel, and its command (R102, R103). -/
def arbitrate (c : Car) (ch : CogChannel) : Holder × BrakeCommand :=
  if c.brk.faultStop then (.faultStop, .apply)
  else if !causesEmpty c.brk.causes then (.emergency, .apply)
  else
    match c.brk.test.commandFor ch with
    | some cmd => (.test, cmd)
    | none =>
      if holdPlaced c then (.hold, .apply)
      else if releasePresent c.brk ch then (.release, .release)
      else (.none, .apply)

/-- Whether a release output is driven energised (R100). -/
def CogRecord.drives (r : CogRecord) (test : Option BrakeCommand) : Bool :=
  if r.state = .fault then test == some .release else r.command == .release

/-- A channel whose output drives a value, with its readback compared with that value (R100): the readback timer starts or goes on
while the two differ, and stops, with the reported flag cleared, when they agree. -/
def CogRecord.drive (r : CogRecord) (value : Bool) : CogRecord :=
  if r.readsBack = value then { r with energised := value, readback := none, reported := false }
  else { r with energised := value, readback := some (r.readback.getD 0) }

/-- A channel after arbitration: the command taken, the output driven and its readback compared (R96, R100, R102). -/
def judgeChannel (c : Car) (ch : CogChannel) : CogRecord :=
  let h := arbitrate c ch
  let r := (c.brk.channels.get ch).takeCommand h.1 h.2
  r.drive (r.drives (c.brk.test.commandFor ch))

/-- The available cog channel count (R105). -/
def availableCount (q : PerCog CogRecord) : Nat :=
  (if q.cbA.state = .fault then 0 else 1) + (if q.cbB.state = .fault then 0 else 1)

/-- The service demand level (R106). -/
def serviceLevel (c : Car) : Nat :=
  max c.brk.copy.level
    (max (if c.brk.intervention || !causesEmpty c.brk.causes || c.brk.faultStop then 7 else 0)
      (if c.brk.doorHold then 3 else 0))

/-- Whether traction is permitted, with the channels as arbitration leaves them (R108). -/
def tractionPermitted (c : Car) (channels : PerCog CogRecord) : Bool :=
  !c.brk.faultStop && causesEmpty c.brk.causes && c.brk.doorsProven &&
  channels.cbA.state == .released && channels.cbB.state == .released && !c.brk.intervention

/-- Arbitration and the brake outputs decided afresh from their inputs (R101 to R108). -/
def brkJudge (c : Car) : Car :=
  let channels : PerCog CogRecord := ⟨judgeChannel c .cbA, judgeChannel c .cbB⟩
  { c with
    brk := { c.brk with
      channels := channels
      holdPending := c.brk.test.isSelected && holdPlaced c
      available := availableCount channels
      svcValid := true
      svcLevel := serviceLevel c
      tractionOk := tractionPermitted c channels }
    ssv := if availableCount channels = c.brk.available then c.ssv else c.ssv.cause }

/-! ## Test result records -/

/-- The timing of a test result record that a test command is timed by (R118). -/
def TestRecord.timing (r : TestRecord) : BrakeCommand → TimingRecord
  | .apply => r.apply
  | .release => r.release

def TestRecord.setTiming (r : TestRecord) (cmd : BrakeCommand) (t : TimingRecord) : TestRecord :=
  match cmd with
  | .apply => { r with apply := t }
  | .release => { r with release := t }

/-- The clean flag of a timing cleared (R122). -/
def TestRecord.soil (r : TestRecord) (cmd : BrakeCommand) : TestRecord :=
  r.setTiming cmd { r.timing cmd with clean := false }

/-- The result of a completed selection (R123). -/
def TestRecord.passes (r : TestRecord) : Bool :=
  match r.release.time, r.apply.time with
  | .ticks _, .ticks _ => r.release.clean && r.apply.clean && decide (r.release.order < r.apply.order)
  | _, _ => false

/-- A timing that runs ends with a time that is no number: EXCEEDED or INCOMPLETE, its clean flag clear (R121, R122). -/
def Selection.endTiming (s : Selection) (b : Brk) (time : TestTime) : Brk :=
  match s.timing with
  | some t =>
    { b with
      test := .onSelected { s with timing := none, watched := none }
      results := b.results.set s.channel ((b.results.get s.channel).setTiming t.command ⟨time, false, s.taken⟩) }
  | none => b

/-! ## Ending a selection and the test -/

/-- The test ended by a cause added to the emergency cause set or by entry to fault stop (R124). -/
def abortTest (c : Car) : Car :=
  match c.brk.test with
  | .off => c
  | .onIdle => occur .brakeTestResult 3 { c with brk := { c.brk with test := .off } }
  | .onSelected s =>
    let b := s.endTiming c.brk .incomplete
    let b := { b with test := .off, results := b.results.set s.channel { b.results.get s.channel with result := .aborted } }
    occur .brakeTestResult (s.channel.number * 256 + 3) { c with brk := b }

/-- The completion of a selection: PASS or FAIL, ON_IDLE, and a FAULT that a PASS clears (R123). -/
def completeSelection (s : Selection) (c : Car) : Car :=
  let r := c.brk.results.get s.channel
  let pass := r.passes
  let ch := c.brk.channels.get s.channel
  let ch := if pass ∧ ch.state = .fault then { ch with state := .applied, command := .apply, reason := none } else ch
  let b := { c.brk with
    test := .onIdle
    results := c.brk.results.set s.channel { r with result := if pass then .pass else .fail }
    channels := c.brk.channels.set s.channel ch }
  occur .brakeTestResult (s.channel.number * 256 + if pass then 1 else 2) { c with brk := b }

/-- A pending deselect completes when no apply timing runs any more and the reading allows it or the timing has ended
(R123). -/
def completeIfPending (done : Bool) (c : Car) : Car :=
  match c.brk.test with
  | .onSelected s => if s.deselectPending && done then completeSelection s c else c
  | _ => c

/-- A timing starts, or is recorded as 0 at once when the reading already equals the target (R121, R122). -/
def startTiming (s : Selection) (cmd : BrakeCommand) (b : Brk) : Brk :=
  let reading := (b.channels.get s.channel).reading
  let r := b.results.get s.channel
  if reading = cmd.target then
    { b with
      test := .onSelected { s with command := cmd, timing := none, watched := some cmd, taken := s.taken + 1 }
      results := b.results.set s.channel (r.setTiming cmd ⟨.ticks 0, true, s.taken + 1⟩) }
  else
    { b with
      test := .onSelected { s with command := cmd, timing := some ⟨0, cmd, reading, false⟩, watched := none, taken := s.taken + 1 }
      results := b.results.set s.channel (r.setTiming cmd { r.timing cmd with clean := true }) }

/-- The selected channel's test command becomes another one: a running timing ends as INCOMPLETE and a new one starts
(R121). -/
def changeTestCommand (s : Selection) (cmd : BrakeCommand) (b : Brk) : Brk :=
  let b := s.endTiming b .incomplete
  startTiming { s with timing := none } cmd b

/-- A reading of the selected channel taken by its timing (R121, R122). -/
def Selection.takeReading (s : Selection) (reading : Reading) (b : Brk) : Brk :=
  let r := b.results.get s.channel
  match s.timing with
  | some t =>
    if reading = t.command.target then
      { b with
        test := .onSelected { s with timing := none, watched := some t.command }
        results := b.results.set s.channel
          (r.setTiming t.command ⟨.ticks (min 150 t.elapsed), (r.timing t.command).clean, s.taken⟩) }
    else
      { b with
        test := .onSelected { s with timing := some { t with left := t.left || reading != t.start } }
        results := if t.left ∧ reading = t.start then b.results.set s.channel (r.soil t.command) else b.results }
  | none =>
    match s.watched with
    | some cmd =>
      if reading = cmd.target then b
      else { b with test := .onSelected { s with watched := none }, results := b.results.set s.channel (r.soil cmd) }
    | none => b

/-! ## The emergency cause set -/

/-- A cause enters the set with the time stamp, or has its flag set when it is there already (R110, R111). A cause added
ends a brake test (R114, R124), and every cause but RESET makes EMERGENCY_SET occur. DESIGN CHOICE: EMERGENCY_SET occurs before the
BRAKE_TEST_RESULT of the test it ends (notes/assumptions/54.md). -/
def addCause (cause : Cause) (present : Bool) (c : Car) : Car :=
  match c.brk.causes.get cause with
  | some r =>
    { c with brk := { c.brk with causes := c.brk.causes.set cause (some { r with present := r.present || present }) } }
  | none =>
    let c := { c with brk := { c.brk with causes := c.brk.causes.set cause (some ⟨c.now, present⟩) } }
    abortTest (if cause = .reset then c else occur .emergencySet cause.code c)

/-- The start of a condition that has a cause (R110). -/
def causeStart (cause : Cause) (c : Car) : Car :=
  addCause cause true { c with brk := { c.brk with conditions := c.brk.conditions.set cause true } }

/-- The end of a condition that has a cause: the record stays with its flag clear (R110). -/
def causeEnd (cause : Cause) (c : Car) : Car :=
  { c with brk := { c.brk with
      conditions := c.brk.conditions.set cause false
      causes := c.brk.causes.set cause ((c.brk.causes.get cause).map fun r => { r with present := false }) } }

/-- A condition handed as it starts or ends (R110); nothing when it stands as it stood. -/
def causeChange (cause : Cause) (before after : Bool) (c : Car) : Car :=
  if before = after then c else if after then causeStart cause c else causeEnd cause c

/-- The causes a mask names, each removed when its condition-present flag is clear (R113). -/
def releaseCauses (mask : Nat) (q : PerCause (Option CauseRecord)) : PerCause (Option CauseRecord) :=
  Cause.list.foldl (fun q cause =>
    match q.get cause with
    | some r => if mask.testBit cause.code && !r.present then q.set cause none else q
    | none => q) q

/-- EMERGENCY RELEASE (R113): the result, and the set that follows. -/
def emergencyRelease (mask : Nat) (c : Car) : Result × Car :=
  if 511 < mask then (.range, c)
  else
    match c.odo.standstill, c.brk.standstillSince with
    | true, some t =>
      if since c.now t < 300 then (.notStandstill, c)
      else (.accepted, { c with brk := { c.brk with causes := releaseCauses mask c.brk.causes } })
    | _, _ => (.notStandstill, c)

/-! ## Channel FAULT -/

/-- A channel enters FAULT (R99), and a selection of it takes the test command APPLY (R122). DEDUCED: a pending deselect with no
apply timing running is completed by a transit timeout, as one with an apply timing is (notes/assumptions/19.md). DESIGN CHOICE:
BRAKE_CHANNEL_FAULT occurs before the BRAKE_TEST_RESULT of that completion (notes/assumptions/54.md). -/
def channelFault (ch : CogChannel) (reason : CogReason) (c : Car) : Car :=
  let r := { c.brk.channels.get ch with
    state := .fault, transit := none, departure := none, energised := false, reason := some reason }
  let b := { c.brk with channels := c.brk.channels.set ch r }
  let transit := reason != .uncommanded
  let b :=
    match b.test with
    | .onSelected s =>
      if s.channel = ch then
        if transit then
          let s' := { s with command := .apply }
          s'.endTiming { b with test := .onSelected s' } .exceeded
        else
          { b with
            test := .onSelected { s with command := .apply }
            results := match s.timing with
              | some t => b.results.set ch ((b.results.get ch).soil t.command)
              | none => b.results }
      else b
    | _ => b
  let c := occur .brakeChannelFault (ch.number * 256 + reason.code) { c with brk := b }
  match c.brk.test with
  | .onSelected s => completeIfPending (decide (s.channel = ch) && transit && s.timing.isNone) c
  | _ => c

/-- The transit timer of a channel reaches 1.5 s (R97). -/
def transitExpiry (ch : CogChannel) (c : Car) : Car :=
  let r := c.brk.channels.get ch
  if Timer.reached Limit.transit r.transit then
    match r.state with
    | .releasing => channelFault ch .releaseTimeout c
    | .applying => channelFault ch .applyTimeout c
    | _ => c
  else c

/-- The departure timer of a channel reaches 200 ms (R98). -/
def departureExpiry (ch : CogChannel) (c : Car) : Car :=
  let r := c.brk.channels.get ch
  if Timer.reached Limit.departure r.departure then
    match r.state with
    | .applied => channelFault ch .uncommanded c
    | .released => channelFault ch .uncommanded c
    | _ => c
  else c

/-- The test timer reaches 1.5 s: the timing that runs is recorded as EXCEEDED, and a pending deselect completes with its
apply timing (R121, R123). -/
def testTimerExpiry (c : Car) : Car :=
  match c.brk.test with
  | .onSelected s =>
    match s.timing with
    | some t =>
      if Limit.testTiming ≤ t.elapsed then
        completeIfPending (t.command == .apply) { c with brk := s.endTiming c.brk .exceeded }
      else c
    | none => c
  | _ => c

/-- The driver demand copy as the LIF hands it; under LINE_LOSS level 0 and no release request (R101), which the copy then holds
(notes/assumptions/69.md). -/
def takeCopy (c : Car) : Car :=
  { c with brk := { c.brk with
      copy := if c.lif.lineLoss then ⟨0, false⟩ else ⟨c.lif.demand.level, c.lif.demand.release⟩ } }

/-! ## The brake test telegrams -/

/-- TEST ON (R119). -/
def testOn (c : Car) : Result × Car :=
  match c.brk.test with
  | .off =>
    if !c.odo.standstill then (.notStandstill, c)
    else if !c.brk.doorsProven then (.doors, c)
    else if !causesEmpty c.brk.causes then (.emergencyActive, c)
    else (.accepted, { c with brk := { c.brk with test := .onIdle } })
  | _ => (.state, c)

/-- TEST OFF (R119). -/
def testOff (c : Car) : Result × Car :=
  match c.brk.test with
  | .onIdle => (.accepted, { c with brk := { c.brk with test := .off } })
  | _ => (.state, c)

/-- SELECT (R120). DESIGN CHOICE: a channel number other than 1 or 2 is answered RANGE in every test state, OFF and ON_SELECTED
among them, where R120 refuses the telegram with STATE as well and names no order (notes/assumptions/58.md). -/
def selectChannel (n : Nat) (c : Car) : Result × Car :=
  match CogChannel.ofNumber n with
  | none => (.range, c)
  | some ch =>
    match c.brk.test with
    | .onIdle =>
      (.accepted, { c with brk := { c.brk with
        test := .onSelected ⟨ch, .apply, false, none, none, 0⟩
        results := c.brk.results.set ch .reset } })
    | _ => (.state, c)

/-- TEST RELEASE and TEST APPLY (R121). -/
def testCommand (cmd : BrakeCommand) (c : Car) : Result × Car :=
  match c.brk.test with
  | .onSelected s =>
    if s.deselectPending then (.state, c)
    else if s.command = cmd then (.accepted, c)
    else (.accepted, { c with brk := changeTestCommand s cmd c.brk })
  | _ => (.state, c)

/-- DESELECT (R123). -/
def deselect (c : Car) : Result × Car :=
  match c.brk.test with
  | .onSelected s =>
    if s.deselectPending then (.state, c)
    else
      let applyRuns := match s.timing with
        | some t => t.command == .apply
        | none => false
      if (c.brk.channels.get s.channel).reading = .applied ∧ applyRuns = false then
        let b := s.endTiming c.brk .incomplete
        (.accepted, completeSelection { s with command := .apply, timing := none } { c with brk := b })
      else
        let s' := { s with deselectPending := true }
        if s.command = .release then (.accepted, { c with brk := changeTestCommand s' .apply c.brk })
        else (.accepted, { c with brk := { c.brk with test := .onSelected s' } })
  | _ => (.state, c)

end Sys2Proof.Machine
end

