-- ==== Sys2Proof/Machine/Doors.lean ====
section
/-! DEFINITION. The door controller: command slots and exchanges (R133, R134), polls (R135), status replies (R136), isolation
(R137), the effects of a release and of a close (R139 to R142), faults (R145), the proven state, the door hold and the DOOR
condition (R147, R148), and `settle`, the judgement of the door and brake outputs that ends every command. -/

namespace Sys2Proof.Machine

/-! ## Leaf records and command slots -/

def Dor.modify (d : Dor) (leaf : Leaf) (f : LeafRecord → LeafRecord) : Dor :=
  { d with leaves := d.leaves.set leaf (f (d.leaves.get leaf)) }

/-- Whether a leaf is neither LOCKED nor ISOLATED (R147, R148). -/
def LeafRecord.unsafeLeaf (r : LeafRecord) : Bool := !(r.state == .locked || r.state == .isolated)

/-- Whether the DOR commands a leaf in this state (R134). -/
def LeafState.commanded (s : LeafState) : Bool := !(s == .fault || s == .isolated)

/-- The command waiting in a leaf's slot (R134). -/
def Dor.slot (d : Dor) (leaf : Leaf) : Option DoorCommand := (d.slots.find? fun s => s.1 == leaf).map (·.2)

/-- A command placed in a leaf's slot: it takes the place in turn of the one that waits there, or waits behind the others
(R134). -/
def Dor.place (d : Dor) (leaf : Leaf) (cmd : DoorCommand) : Dor :=
  if !(d.leaves.get leaf).state.commanded then d
  else if d.slots.any fun s => s.1 == leaf then
    { d with slots := d.slots.map fun s => if s.1 = leaf then (leaf, cmd) else s }
  else { d with slots := d.slots ++ [(leaf, cmd)] }

/-- The waiting commands of some leaves that qualify are removed. -/
def Dor.unplace (d : Dor) (f : Leaf → DoorCommand → Bool) : Dor := { d with slots := d.slots.filter fun s => !f s.1 s.2 }

def DoorCommand.opens : DoorCommand → Bool
  | .unlock => true
  | .openLeaf _ => true
  | _ => false

def DoorCommand.closes : DoorCommand → Bool
  | .chime => true
  | .close => true
  | _ => false

/-- Whether an exchange with a leaf's DOU carries a command that qualifies. -/
def Dor.running (d : Dor) (leaf : Leaf) (f : DoorCommand → Bool) : Bool :=
  match d.exchange with
  | some x => x.leaf == leaf && match x.message with
    | .command c => f c
    | .status => false
  | none => false

/-- Whether a command that qualifies is waiting or running for a leaf (R142). -/
def Dor.waitingOrRunning (d : Dor) (leaf : Leaf) (f : DoorCommand → Bool) : Bool :=
  (d.slot leaf).any f || d.running leaf f

/-! ## Effects of a release and of a close on one leaf -/

/-- A granted release acts on a leaf by its state (R139). -/
def Dor.releaseLeaf (d : Dor) (leaf : Leaf) : Dor :=
  let r := d.leaves.get leaf
  match r.state with
  | .locked => d.place leaf .unlock
  | .unlocked => if (d.sides.get leaf.side).autoOpen then d.place leaf (.openLeaf false) else d
  | .closing | .reopening =>
    (d.modify leaf fun r => { r with motion := none, pause := none, obstacles := 0 }).place leaf (.openLeaf false)
  | .opened | .opening =>
    if r.closeDue then
      (d.modify leaf fun r => { r with closeDue := false }).unplace fun l c => l == leaf && c.closes
    else d
  | _ => d

/-- A side's close step becomes CHIMING, and its warning timer stops (R140). -/
def Dor.chiming (d : Dor) (side : Side) : Dor :=
  { d with sides := d.sides.set side { d.sides.get side with step := .chiming, warning := none } }

/-- A DOOR CLOSE acts on a leaf by its state; `again` when it found its side's close step already CHIMING or WARNING (R140).
DESIGN CHOICE: a leaf found in another state than OPEN or OPENING keeps its obstructed flag, and a REOPENING leaf whose timers
a release has stopped is restarted by nothing here (notes/assumptions/47.md). -/
def Dor.closeLeaf (again : Bool) (d : Dor) (leaf : Leaf) : Dor :=
  let r := d.leaves.get leaf
  match r.state with
  | .unlocked => d.place leaf .lock
  | .opened | .opening =>
    if again && r.closeDue then d
    else
      ((d.modify leaf fun r => { r with obstructed := false, obstacles := 0, closeDue := true }).place leaf .chime).chiming
        leaf.side
  | .closing | .reopening => d.modify leaf fun r => { r with obstacles := 0 }
  | _ => d

def Dor.act (d : Dor) (leaf : Leaf) : DeferredAct → Dor
  | .release => d.releaseLeaf leaf
  | .close again => d.closeLeaf again leaf

/-- A leaf is acted on at once, or after the exchange with its DOU that runs has ended (R139, R140). -/
def Dor.actOrDefer (d : Dor) (what : DeferredAct) (leaf : Leaf) : Dor :=
  if d.exchange.any fun x => x.leaf == leaf then { d with deferred := d.deferred ++ [(leaf, what)] } else d.act leaf what

/-- The release of a side withdrawn: its flags stay readable, and what would still unlock or open its leaves is removed
(R140, R144). DESIGN CHOICE: a CLOSING or REOPENING leaf whose motion and pause timers that release stopped (R139) goes on with its
timers stopped, since no rule starts them again (notes/assumptions/47.md). -/
def Dor.withdraw (d : Dor) (side : Side) : Dor :=
  let d := { d with
    sides := d.sides.set side { d.sides.get side with release := none }
    deferred := d.deferred.filter fun x => !(x.1.side == side && x.2 == DeferredAct.release) }
  d.unplace fun l c => l.side == side && c.opens

/-- Every granted release withdrawn (R144). -/
def Dor.withdrawGranted (d : Dor) : Dor :=
  [Side.left, Side.right].foldl (fun d side => if (d.sides.get side).release.isSome then d.withdraw side else d) d

/-- Entry to fault stop: every granted release is withdrawn, and no UNLOCK or OPEN waits any more (R149). -/
def Dor.enterFaultStop (d : Dor) : Dor := d.withdrawGranted.unplace fun _ c => c.opens

/-! ## Close blocks and close steps -/

/-- Whether a leaf is still in a close block: its CLOSE waits with the close-due flag set, or its exchange runs (R141). -/
def Dor.inBlock (d : Dor) (leaf : Leaf) : Bool :=
  let r := d.leaves.get leaf
  r.state.commanded &&
  ((d.slot leaf == some .close && r.closeDue) || d.running leaf (· == .close))

/-- The close blocks without the leaves that have left them; a block with no leaf is closed (R141). -/
def Dor.openBlocks (d : Dor) : List CloseBlock :=
  (d.blocks.map fun b => { b with leaves := b.leaves.filter d.inBlock }).filter fun b => !b.leaves.isEmpty

/-- Whether every CHIME placed for a side's due leaves has ended (R141). -/
def Dor.chimed (d : Dor) (side : Side) : Bool :=
  side.leaves.all fun l => !((d.leaves.get l).closeDue && d.waitingOrRunning l (· == .chime))

/-- A side's record, passed from CHIMING to WARNING when its chimes have ended (R141). -/
def Dor.passed (d : Dor) (side : Side) : SideRecord :=
  let s := d.sides.get side
  if s.step = .chiming ∧ d.chimed side = true then { s with step := .warning, warning := some 0 } else s

/-! ## Faults -/

/-- A leaf enters FAULT (R145). -/
def leafFault (leaf : Leaf) (reason : LeafReason) (c : Car) : Car :=
  let d := c.dor.modify leaf fun r =>
    { r with state := .fault, reason := some reason, motion := none, pause := none, closeDue := false }
  occur .doorFault (leaf.number * 256 + reason.code) { c with dor := d.unplace fun l _ => l == leaf }

/-! ## The end of an exchange -/

/-- The exchange ends, and what was deferred to its end acts on the leaf (R139, R140). -/
def Dor.endExchange (d : Dor) (leaf : Leaf) : Dor :=
  let acts := d.deferred.filter fun x => x.1 == leaf
  let d := { d with exchange := none, deferred := d.deferred.filter fun x => !(x.1 == leaf) }
  acts.foldl (fun d x => d.act x.1 x.2) d

/-- The effect of an acknowledged command on its leaf (R139 to R142). -/
def acknowledged (leaf : Leaf) (cmd : DoorCommand) (c : Car) : Car :=
  let d := c.dor
  match cmd with
  | .unlock =>
    let d := d.modify leaf fun r => { r with state := .unlocked }
    let side := d.sides.get leaf.side
    { c with dor := if side.release.isSome && side.autoOpen && !c.brk.faultStop then d.place leaf (.openLeaf false) else d }
  | .lock => { c with dor := d.modify leaf fun r => { r with state := .closing, motion := some 0 } }
  | .openLeaf false => { c with dor := d.modify leaf fun r => { r with state := .opening, motion := some 0, pause := none } }
  | .openLeaf true => { c with dor := d.modify leaf fun r => { r with state := .opened, obstructed := true, motion := none } }
  | .close => { c with dor := d.modify leaf fun r => { r with state := .closing, closeDue := false, motion := some 0 } }
  | .reopen => { c with dor := d.modify leaf fun r => { r with state := .reopening, motion := some 0, halfWidth := false } }
  | .chime => c

/-! ## Status replies -/

/-- A leaf found LOCKED (R136). -/
def LeafRecord.lockedNow (r : LeafRecord) : LeafRecord :=
  { r with state := .locked, motion := none, pause := none, closeDue := false, obstacles := 0, unreadFailure := false }

/-- The leaf position of a status reply taken by the leaf state (the table of R136). -/
def takePosition (leaf : Leaf) (p : LeafPosition) (c : Car) : Car :=
  let r := c.dor.leaves.get leaf
  let upd (f : LeafRecord → LeafRecord) : Car := { c with dor := c.dor.modify leaf f }
  match r.state, p with
  | .fault, _ | .isolated, _ => c
  | _, .closedLocked => upd LeafRecord.lockedNow
  | .unread, .closedUnlocked => upd fun r => { r with state := .unlocked, unreadFailure := false }
  | .unread, .moving => c
  | .unread, .opened => upd fun r => { r with state := .opened, unreadFailure := false }
  | .locked, _ => leafFault leaf .statusMismatch c
  | .unlocked, .closedUnlocked => c
  | .unlocked, _ => leafFault leaf .statusMismatch c
  | .opening, .opened => upd fun r => { r with state := .opened, motion := none }
  | .opening, _ => c
  | .opened, .closedUnlocked =>
    if r.closeDue then
      let d := c.dor.modify leaf fun r => { r with state := .unlocked, closeDue := false }
      { c with dor := (d.unplace fun l cmd => l == leaf && cmd.closes).place leaf .lock }
    else upd fun r => { r with state := .unlocked }
  | .opened, _ => c
  | .closing, _ => c
  | .reopening, .opened => if r.halfWidth then c else upd fun r => { r with motion := none, pause := some 0, halfWidth := true }
  | .reopening, _ => c

/-- An obstacle seen in CLOSING (R142, R149). DESIGN CHOICE: outside fault stop, an obstacle that finds the count at 3 already is
taken as a third one again: the count is held at 3, OPEN is placed and DOOR_OBSTRUCTED occurs (notes/assumptions/64.md). -/
def takeObstacle (leaf : Leaf) (c : Car) : Car :=
  let r := c.dor.leaves.get leaf
  if r.state = .closing ∧
      !c.dor.waitingOrRunning leaf (fun x => x == .reopen || x == .openLeaf false || x == .openLeaf true) then
    let n := min 3 (r.obstacles + 1)
    let d := c.dor.modify leaf fun r => { r with obstacles := n }
    if c.brk.faultStop ∨ n < 3 then { c with dor := d.place leaf .reopen }
    else occur .doorObstructed leaf.number { c with dor := d.place leaf (.openLeaf true) }
  else c

/-- An open request pressed at an UNLOCKED leaf of a granted side (R139, R149). -/
def takeOpenRequest (leaf : Leaf) (c : Car) : Car :=
  let waits := c.dor.slot leaf == some (.openLeaf false) || c.dor.slot leaf == some (.openLeaf true)
  if (c.dor.leaves.get leaf).state = .unlocked ∧ (c.dor.sides.get leaf.side).release.isSome ∧ !c.brk.faultStop ∧ !waits then
    { c with dor := c.dor.place leaf (.openLeaf false) }
  else c

/-- An answered status reply: recorded, taken by the leaf state, then its flags taken (R136). -/
def statusTaken (leaf : Leaf) (s : StatusReply) (c : Car) : Car :=
  let c := { c with dor := c.dor.modify leaf fun r => { r with lastStatus := some s } }
  let c := takePosition leaf s.position c
  let c := if s.obstacle then takeObstacle leaf c else c
  if s.openRequest then takeOpenRequest leaf c else c

/-! ## Exchanges -/

/-- An exchange ends as answered (R133). -/
def exchangeAnswered (x : Exchange) (reply : DouReply) (c : Car) : Car :=
  let c := { c with dor := { c.dor with exchange := none } }
  let c :=
    if x.void ∨ (c.dor.leaves.get x.leaf).state = .isolated then c
    else
      match x.message, reply with
      | .status, .status s => statusTaken x.leaf s c
      | .command cmd, .ack =>
        if (c.dor.leaves.get x.leaf).state = .fault ∨ (c.dor.leaves.get x.leaf).state = .unread then c
        else acknowledged x.leaf cmd c
      | _, _ => c
  { c with dor := c.dor.endExchange x.leaf }

/-- An exchange ends as failed (R133). -/
def exchangeFailed (x : Exchange) (c : Car) : Car :=
  let c := { c with dor := { c.dor with exchange := none } }
  let r := c.dor.leaves.get x.leaf
  let c :=
    if x.void then c
    else
      match r.state with
      | .unread =>
        if r.unreadFailure then c
        else occur .doorFault (x.leaf.number * 256 + 1)
          { c with dor := c.dor.modify x.leaf fun r => { r with unreadFailure := true } }
      | .fault => c
      | .isolated => c
      | _ => leafFault x.leaf .bus c
  { c with dor := c.dor.endExchange x.leaf }

/-- A failed attempt: the message is sent again, or after the third the exchange fails (R133). DESIGN CHOICE: so too when the leaf
has entered FAULT by MOTION_TIMEOUT while its command's exchange runs, although a FAULT leaf receives no command from then on
(R145): the exchange goes on as R133 has it (notes/assumptions/72.md). -/
def attemptFailed (x : Exchange) (c : Car) : Car :=
  if x.attempt < 3 then { c with dor := { c.dor with exchange := some { x with attempt := x.attempt + 1, timer := some 0 } } }
  else exchangeFailed x c

/-- No reply within 20 ms (R133). -/
def replyTimeout (c : Car) : Car :=
  match c.dor.exchange with
  | some x => if Timer.reached Limit.doorReply x.timer then attemptFailed x c else c
  | none => c

/-- Whether a reply is of the kind its message expects (R133). -/
def DoorMessage.expects : DoorMessage → DouReply → Bool
  | .status, .status _ => true
  | .command _, .ack => true
  | _, _ => false

/-- A reply on the door bus (R133); one that belongs to an attempt that has failed is discarded. -/
def busReply (address : Nat) (answered : DouReply) (checkOk late : Bool) (c : Car) : Car :=
  match c.dor.exchange with
  | none => c
  | some x =>
    if late then c
    else if address = x.leaf.number ∧ checkOk = true ∧ x.message.expects answered = true then exchangeAnswered x answered c
    else attemptFailed x c

/-- The next exchange in the order of R134, none while the bus stays idle. -/
def Dor.choose (d : Dor) : Option (Leaf × DoorMessage) :=
  match d.blocks with
  | b :: _ => (b.leaves.find? fun l => d.slot l == some .close).map fun l => (l, .command .close)
  | [] =>
    match d.slots with
    | s :: _ => some (s.1, .command s.2)
    | [] => d.due.map fun l => (l, .status)

/-- The next exchange starts: its message is sent as attempt 1 and its command leaves the slot (R133, R134). -/
def Dor.startExchange (d : Dor) : Dor :=
  match d.exchange, d.choose with
  | none, some (l, .status) => { d with due := none, exchange := some ⟨l, .status, 1, some 0, false⟩ }
  | none, some (l, .command c) =>
    { d with slots := d.slots.filter fun s => !(s.1 == l), exchange := some ⟨l, .command c, 1, some 0, false⟩ }
  | _, _ => d

/-! ## Isolation and polls -/

/-- A leaf's isolation contact closes or opens (R137). A leaf that leaves UNREAD clears its unread-failure flag (R136). -/
def Dor.isolate (d : Dor) (leaf : Leaf) (closed : Bool) : Dor :=
  if closed then
    let d := d.modify leaf fun r => { r with
      state := .isolated, reason := none, closeDue := false, obstacles := 0, motion := none, pause := none, contactClosed := true
      unreadFailure := false }
    { d.unplace (fun l _ => l == leaf) with
      due := if d.due = some leaf then none else d.due
      exchange := d.exchange.map fun x => if x.leaf = leaf then { x with void := true } else x
      deferred := d.deferred.filter fun x => !(x.1 == leaf) }
  else
    d.modify leaf fun r => { r with
      contactClosed := false
      state := if r.state = .isolated then .unread else r.state
      unreadFailure := if r.state = .isolated then false else r.unreadFailure }

/-- The poll timer's expiry (R135). Nothing else starts that timer again, so its time is not looked at (notes/assumptions/6.md). -/
def Dor.pollExpiry (d : Dor) : Dor :=
  let d := { d with pollTimer := some 0 }
  match d.due with
  | some _ => d
  | none =>
    { d with due := if (d.leaves.get d.turn).state = .isolated then none else some d.turn, turn := d.turn.next }

/-! ## Closing a side -/

/-- DOOR CLOSE on one side (R140). One that finds the close step CHIMING or WARNING returns it to CHIMING. DEDUCED: what it finds is
judged as the telegram is taken (notes/assumptions/23.md). -/
def Dor.closeSide (d : Dor) (side : Side) : Dor :=
  let again := (d.sides.get side).step != .none
  let d := side.leaves.foldl (Dor.actOrDefer · (.close again) ·) (d.withdraw side)
  if again then d.chiming side else d

/-- A side's warning ends and its close block opens with CLOSE for every due leaf (R141). -/
def Dor.warningEnd (d : Dor) (side : Side) : Dor :=
  let s := d.sides.get side
  if Timer.reached Limit.warning s.warning then
    let due := side.leaves.filter fun l => (d.leaves.get l).closeDue
    let d := { d with sides := d.sides.set side { s with step := .none, warning := none } }
    let d := due.foldl (Dor.place · · .close) d
    if due.isEmpty then d else { d with blocks := d.blocks ++ [⟨side, due⟩] }
  else d

/-- The motion timer of a leaf reaches 8 s (R143). -/
def motionExpiry (leaf : Leaf) (c : Car) : Car :=
  let r := c.dor.leaves.get leaf
  if Timer.reached Limit.motion r.motion then
    match r.state with
    | .opening => leafFault leaf .motionTimeout c
    | .closing => leafFault leaf .motionTimeout c
    | .reopening => leafFault leaf .motionTimeout c
    | _ => c
  else c

/-- The pause timer of a leaf reaches 2 s: CLOSE is placed as a single message (R142). -/
def Dor.pauseEnd (d : Dor) (leaf : Leaf) : Dor :=
  let r := d.leaves.get leaf
  if Timer.reached Limit.pause r.pause ∧ r.state = .reopening then
    (d.modify leaf fun r => { r with pause := none }).place leaf .close
  else d

/-! ## The proven state, the door hold and the DOOR condition -/

/-- Whether the doors are proven: every leaf LOCKED or ISOLATED (R147). -/
def Dor.allSafe (d : Dor) : Bool := Leaf.list.all fun l => !(d.leaves.get l).unsafeLeaf

def Dor.anyGranted (d : Dor) : Bool := d.sides.left.release.isSome || d.sides.right.release.isSome

/-- The DOOR condition handed (R148): its start as it is found present, its end as it ends. A start handed while the cause is
in the set with its flag set changes nothing (R110). -/
def handDoor (before after : Bool) (c : Car) : Car :=
  if after then causeStart .door c else if before then causeEnd .door c else c

/-- The DOR with its closed blocks and chimed sides passed on, and the proven state, the door hold and the DOOR condition
judged (R141, R147, R148). -/
def Dor.judge (fused : Nat) (d : Dor) : Dor :=
  { d with
    blocks := d.openBlocks
    sides := ⟨d.passed .left, d.passed .right⟩
    proven := d.allSafe
    hold := d.anyGranted || !d.allSafe
    condition := !d.allSafe && decide (25 < fused) }

/-- The proven state, the door hold and the DOOR condition judged and handed, each change as it occurs (R147, R148). DESIGN CHOICE:
the judgement ends every command, so what it makes occur comes after all else of the command: at an odometry update the EMERGENCY_SET
of DOOR after those of ROLLBACK, MESH_LOSS and ODOMETRY_LOST; the manual names no order (notes/assumptions/53.md). -/
def dorJudge (c : Car) : Car :=
  let d := c.dor.judge c.odo.fused
  handDoor c.dor.condition d.condition
    (levelChange .doorsProven c.dor.proven d.proven 0
      { c with dor := d, brk := { c.brk with doorsProven := d.proven, doorHold := d.hold } })

/-- What ends every command: the door outputs, then arbitration and the brake outputs, decided afresh from what the command
left (R101 to R108, R147, R148). -/
def settle (c : Car) : Car := brkJudge (dorJudge c)

/-! ## Standstill -/

/-- Standstill ends, handed to the BRK and the DOR (R49, R109, R144). -/
def standstillEnd (c : Car) : Car :=
  if c.odo.standstill then
    { c with
      odo := { c.odo with standstill := false }
      brk := { c.brk with standstillSince := none }
      dor := c.dor.withdrawGranted }
  else c

end Sys2Proof.Machine
end

