-- ==== Sys2Proof/Machine/Profile.lean ====
section
/-! DEFINITION. The profile store's questions: the check word (R19), the lookups over the records that can be read (R15 to
R18) and the coverage (R13). Nothing here changes the store. -/

namespace Sys2Proof.Machine

/-! ## Check words -/

def TrackKind.code : TrackKind → Nat
  | .rack => 0
  | .adhesion => 1
  | .rackEntry => 2

def PlatformSide.code : PlatformSide → Nat
  | .left => 0
  | .right => 1
  | .both => 2

def platformBytes : Option Platform → List Byte
  | none => [0]
  | some p => [1, Byte.ofNat p.side.code] ++ beBytes 4 p.low ++ beBytes 4 p.high

/-- A record's fields as the string of bytes its check word covers (R19). -/
def Segment.bytes (s : Segment) : List Byte :=
  beBytes 2 s.id ++ beBytes 4 s.low ++ beBytes 4 s.length ++ [Byte.ofNat s.kind.code] ++ signedBytes s.gradient ++
  [Byte.ofNat s.upLimit, Byte.ofNat s.downLimit, flagByte s.shadow] ++ platformBytes s.platform ++
  [Byte.ofNat s.markers.length] ++ (s.markers.flatMap fun m => beBytes 2 m.id ++ beBytes 4 m.offset) ++ [flagByte s.pinned]

/-- A record as it is written: its check word computed and its check-failed flag clear (R1, R8, R19). -/
def Segment.write (s : Segment) : Segment := { s with check := crc s.bytes, checkFailed := false }

/-- Whether a read finds a mismatch; a record whose flag is set is not verified again (R20). -/
def Segment.mismatch (s : Segment) : Bool := !s.checkFailed && !decide (crc s.bytes = s.check)

/-- A record as a read leaves it (R20). -/
def Segment.verified (s : Segment) : Segment := if s.mismatch then { s with checkFailed := true } else s

/-- The records a lookup answers from: those whose check holds, as if the others were not stored (R15). -/
def Pst.readable (p : Pst) : List Segment := p.table.filter fun s => !s.checkFailed && !s.mismatch

/-! ## Interval and stretch lookups -/

/-- Segments over an interval, in increasing order of low (R16). -/
def segmentsOver (t : List Segment) (lo hi : Int) : List Segment := t.filter (·.overlaps lo hi)

/-- The first position of an interval not yet found in a segment, after one more segment in increasing order of low. -/
def coverStep (next : Int) (s : Segment) : Int := if (s.low : Int) ≤ next then max next (s.high + 1) else next

/-- The covered flag of an interval: every position of it lies in a stored segment (R16). -/
def covered (t : List Segment) (lo hi : Int) : Bool := decide (hi < t.foldl coverStep lo)

/-- A piece of a stretch (R16). -/
structure Piece where
  id : Nat
  kind : TrackKind
  gradient : Int
  length : Nat
  deriving DecidableEq, Repr

/-- The part of a segment between two coordinates (R16). -/
def Segment.pieceOf (s : Segment) (a b : Int) : Nat := (min b (s.high + 1) - max a s.low).toNat

/-- Pieces over a stretch, in increasing order of low (R16). -/
def pieces (t : List Segment) (a b : Int) : List Piece :=
  (t.filter fun s => decide (0 < s.pieceOf a b)).map fun s => ⟨s.id, s.kind, s.gradient, s.pieceOf a b⟩

/-- The total of the lengths returned (R16). -/
def piecesTotal (l : List Piece) : Nat := (l.map Piece.length).sum

/-- The limit of a segment for a direction of travel. -/
def Segment.limit (s : Segment) : Sense → Nat
  | .up => s.upLimit
  | .down => s.downLimit

/-- The edge met first from outside in a direction of travel (section 1.1). -/
def Segment.entryEdge (s : Segment) : Sense → Int
  | .up => s.low
  | .down => s.high + 1

/-- A boundary ahead (R16). -/
structure Boundary where
  id : Nat
  edge : Int
  distance : Nat
  limit : Nat
  deriving DecidableEq, Repr

/-- Whether a segment lies wholly ahead of a point within a distance (R16). -/
def Segment.aheadOf (s : Segment) (p : Int) (dist : Nat) : Sense → Bool
  | .up => decide (p < s.low) && decide ((s.low : Int) - p ≤ dist)
  | .down => decide (s.high < p) && decide (p - (s.high + 1) ≤ dist)

/-- Boundaries ahead of a point, in increasing order of distance (R16). -/
def boundariesAhead (t : List Segment) (p : Int) (dir : Sense) (dist : Nat) : List Boundary :=
  sortBy (fun a b => decide (a.distance ≤ b.distance)) <|
    (t.filter (·.aheadOf p dist dir)).map fun s =>
      ⟨s.id, s.entryEdge dir, (s.entryEdge dir - p).natAbs, s.limit dir⟩

/-! ## The marker lookup -/

/-- The absolute position of a marker and the segment that holds it (R17). -/
def findMarker (t : List Segment) (id : Nat) : Option (Nat × Nat) :=
  t.findSome? fun s => (s.markers.find? fun m => m.id == id).map fun m => (s.low + m.offset, s.id)

/-! ## Lookups over the car extent -/

/-- The kinds of track under the extent, with the covered flag (R18). -/
structure KindSet where
  rack : Bool
  adhesion : Bool
  rackEntry : Bool
  covered : Bool
  deriving DecidableEq, Repr

/-- Kind set of the extent (R18); while the position is UNKNOWN the empty set, not covered. -/
def kindSet (t : List Segment) (p : PositionRecord) (carLength : Nat) : KindSet :=
  if p.state = .unknown then ⟨false, false, false, false⟩
  else
    let lo := extentLow p carLength
    let hi := extentHigh p carLength
    let under := segmentsOver t lo hi
    ⟨under.any (·.kind == .rack), under.any (·.kind == .adhesion), under.any (·.kind == .rackEntry), covered t lo hi⟩

/-- An answer of the platform lookup: a platform with its side and bounds, and the id of the segment it belongs to (R18). -/
structure PlatformAnswer where
  segment : Nat
  platform : Platform
  deriving DecidableEq, Repr

/-- A segment's platform as the platform lookup answers it (R18). -/
def Segment.platformAnswer (s : Segment) : Option PlatformAnswer := s.platform.map fun q => ⟨s.id, q⟩

/-- Whether a platform overlaps an interval of positions, both ends inclusive (R18). -/
def Platform.overlaps (q : Platform) (lo hi : Int) : Bool := decide ((q.low : Int) ≤ hi) && decide (lo ≤ (q.high : Int))

/-- Whether a platform spans the whole of an interval of positions (R138). -/
def Platform.spans (q : Platform) (lo hi : Int) : Bool := decide ((q.low : Int) ≤ lo) && decide (hi ≤ (q.high : Int))

/-- Platforms over the extent, in increasing order of platform low (R18). -/
def platformsOver (t : List Segment) (p : PositionRecord) (carLength : Nat) : List PlatformAnswer :=
  if p.state = .unknown then []
  else
    sortBy (fun a b => decide (a.platform.low ≤ b.platform.low)) <|
      (t.filterMap Segment.platformAnswer).filter fun q =>
        q.platform.overlaps (extentLow p carLength) (extentHigh p carLength)

/-- Shadow over the extent (R18). -/
def shadowOver (t : List Segment) (p : PositionRecord) (carLength : Nat) : Bool :=
  decide (p.state ≠ .unknown) &&
  (segmentsOver t (extentLow p carLength) (extentHigh p carLength)).any (·.shadow)

/-- Segment containing a position (R18). -/
def containing (t : List Segment) (p : PositionRecord) : Option Nat :=
  if p.state = .unknown then none else (t.find? fun s => s.overlaps p.pos p.pos).map (·.id)

/-! ## Coverage -/

/-- The run extended through a segment that abuts the last one taken, travelling UP. -/
def abutUp (edge : Nat) (s : Segment) : Nat := if s.low = edge then s.low + s.length else edge

/-- The run extended through a segment that abuts the last one taken, travelling DOWN. -/
def abutDown (edge : Nat) (s : Segment) : Nat := if s.low + s.length = edge then s.low else edge

/-- The coverage end of a table in increasing order of low, `none` while the coverage is empty (R13). -/
def coverageOf (t : List Segment) (p : PositionRecord) (carLength : Nat) (ahead : Option Sense) : Option Nat :=
  match p.state, ahead with
  | .known, some dir =>
    match t.find? fun s => s.overlaps (rearMin p carLength dir) (rearMin p carLength dir) with
    | some first =>
      some (match dir with
        | .up => t.foldl abutUp (first.low + first.length)
        | .down => t.reverse.foldl abutDown first.low)
    | none => none
  | _, _ => none

end Sys2Proof.Machine
end

