-- ==== Sys2Proof/Machine/FaultStop.lean ====
section
/-! DEFINITION. Fault stop: its entry, record, later causes and broadcasts (R125 to R129), and the reads of the profile
store, whose check failures report to it (R20). -/

namespace Sys2Proof.Machine

/-! ## The record and the broadcast -/

/-- The fault record as the entry to fault stop writes it (R127). -/
def Car.faultRecordOf (c : Car) (cause : FaultCause) : FaultRecord where
  cause := cause
  stamp := c.now
  carNumber := c.lif.sourceNumber
  pos := c.odo.position.pos
  positionState := c.odo.position.state
  unc := c.odo.position.unc
  fused := c.odo.fused
  p := c.ssv.record.p
  causes := c.brk.causes
  causeMask := causeMask c.brk.causes
  channels := c.brk.channels.map fun r => (r.state, r.reason)
  leaves := c.dor.leaves.map fun r => r.state
  segment := containing c.pst.readable c.odo.position
  laterCount := 0
  laterMask := 0

/-- A FAULT STOP broadcast placed, unless one is waiting in the queue already (R129). DESIGN CHOICE: R129 names the record's time stamp
and the count and mask as they stand, and does not say whose pos and position state the broadcast carries; the model takes the ODO's as
they stand at each placing, not the record's (notes/assumptions/65.md). -/
def broadcastFaultStop (c : Car) : Car :=
  match c.brk.faultRecord with
  | some r =>
    if c.lif.queue.any fun q => q.frame.isFaultStop then c
    else
      placeFaultStop (.faultStop c.lif.sourceNumber r.cause r.stamp r.laterCount r.laterMask c.odo.position.pos
        c.odo.position.state) c
  | none => c

/-- A later cause counted in a record (R128). -/
def FaultRecord.later (r : FaultRecord) (cause : FaultCause) : FaultRecord :=
  { r with laterCount := min 255 (r.laterCount + 1), laterMask := Nat.lor r.laterMask (2 ^ (cause.code - 1)) }

/-- A cause reported while fault stop is in force (R128). -/
def laterCause (cause : FaultCause) (c : Car) : Car :=
  occur .faultStop (256 + cause.code) { c with brk := { c.brk with faultRecord := c.brk.faultRecord.map (·.later cause) } }

/-- A later cause counted as often as given. -/
def laterCauses (cause : FaultCause) : Nat → Car → Car
  | 0, c => c
  | n + 1, c => laterCauses cause n (laterCause cause c)

/-! ## Reading the table -/

/-- How many records a read of the table finds to fail their check (R20). -/
def Pst.failures (p : Pst) : Nat := (p.table.filter (·.mismatch)).length

/-- The table as a read leaves it (R20). -/
def Pst.read (p : Pst) : Pst := { p with table := p.table.map (·.verified) }

/-! ## Entry to fault stop -/

/-- The entry to fault stop: the record first, then the state, then what the entry is handed to (R126). What the door and
brake outputs become is decided by `settle`. The record's segment lookup counts its own check failures as later causes.
DESIGN CHOICE: the broadcast placed at the entry carries the count and mask the record is written with, before those failures
(notes/assumptions/45.md); BRAKE_TEST_RESULT of a test that the entry ends occurs before FAULT_STOP, and FAULT_STOP before the
ORIGINATE_FULL of a broadcast that is dropped (notes/assumptions/54.md). -/
def enterFaultStop (cause : FaultCause) (c : Car) : Car :=
  let record := c.faultRecordOf cause
  let looks := c.odo.position.state ≠ .unknown
  let fails := if looks then c.pst.failures else 0
  let c := { c with
    pst := if looks then c.pst.read else c.pst
    brk := { c.brk with faultStop := true, faultRecord := some record, broadcastTimer := some 0 }
    dor := c.dor.enterFaultStop }
  laterCauses .profileCheck fails (broadcastFaultStop (occur .faultStop cause.code (abortTest c)))

/-- A cause reported to fault stop (R126, R128). -/
def reportFault (cause : FaultCause) (c : Car) : Car :=
  if c.brk.faultStop then laterCause cause c else enterFaultStop cause c

/-- Causes of one kind reported one after the other. -/
def reportFaults (cause : FaultCause) : Nat → Car → Car
  | 0, c => c
  | n + 1, c => reportFaults cause n (reportFault cause c)

/-- A read of the profile store: every record is verified, each failing one is flagged and reported once as PROFILE_CHECK
(R20; notes/assumptions/20.md). -/
def readTable (c : Car) : Car := reportFaults .profileCheck c.pst.failures { c with pst := c.pst.read }

/-- A read made for a lookup over the extent, which needs no record while the position is UNKNOWN (R18). -/
def readForExtent (c : Car) : Car := if c.odo.position.state = .unknown then c else readTable c

/-- The coverage record computed afresh (R13, R14). -/
def refreshCoverage (c : Car) : Car :=
  let c := if c.odo.position.state = .known ∧ c.odo.travelRef.isSome then readTable c else c
  { c with pst := { c.pst with
      coverage := coverageOf c.pst.readable c.odo.position c.lif.params.carLength c.odo.travelRef } }

/-- The timebase watch reaches 75 ms (R125). -/
def timebaseExpiry (c : Car) : Car :=
  if Timer.reached Limit.watch c.brk.watch then reportFault .timebase { c with brk := { c.brk with watch := none } } else c

/-- The broadcast timer reaches 500 ms (R129). -/
def broadcastExpiry (c : Car) : Car :=
  if c.brk.faultStop && Timer.reached Limit.broadcast c.brk.broadcastTimer then
    broadcastFaultStop { c with brk := { c.brk with broadcastTimer := some 0 } }
  else c

/-- What an output reads back changes (R100). That it differs from the value driven, or no longer does, is decided by `settle`, as
it is when the value driven changes. -/
def readbackChange (ch : CogChannel) (energised : Bool) (c : Car) : Car :=
  { c with brk := { c.brk with
      channels := c.brk.channels.set ch { c.brk.channels.get ch with readsBack := energised } } }

/-- The readback timer of a channel reaches 50 ms (R100). -/
def readbackExpiry (ch : CogChannel) (c : Car) : Car :=
  let r := c.brk.channels.get ch
  if Timer.reached Limit.readback r.readback ∧ r.reported = false then
    reportFault .outputReadback
      { c with brk := { c.brk with channels := c.brk.channels.set ch { r with reported := true } } }
  else c

end Sys2Proof.Machine
end

