-- ==== Sys2Proof/Machine/Store.lean ====
section
/-! DEFINITION. The operations on the profile store: segment arrival with its validation and eviction (R2 to R9), pin windows
(R10, R11) and SEGMENT REMOVE (R12). -/

namespace Sys2Proof.Machine

/-! ## The arriving record -/

/-- The kind that bits 0 and 1 of the kind byte name (R162). -/
def kindOfBits : Nat → Option TrackKind
  | 0 => some .rack
  | 1 => some .adhesion
  | 2 => some .rackEntry
  | _ => none

/-- The platform side that bits 3 and 4 of the kind byte name, none when the platform is absent (R162). -/
def platformOfBits : Nat → Option PlatformSide
  | 1 => some .left
  | 2 => some .right
  | 3 => some .both
  | _ => none

def bodyKind (b : SegmentBody) : Option TrackKind := kindOfBits (b.kindByte % 4)
def bodyShadow (b : SegmentBody) : Bool := b.kindByte.testBit 2
def bodySide (b : SegmentBody) : Option PlatformSide := platformOfBits (b.kindByte / 8 % 4)

/-- Whether no two elements of a list are equal. -/
def distinct (l : List Nat) : Bool := decide l.Nodup

end Sys2Proof.Machine

namespace Sys2Proof

/-- The values of a marker in the segment record table, and the offset limit of R3. -/
def MarkerField.fits (m : MarkerField) (length : Nat) : Bool :=
  decide (1 ≤ m.id) && decide (m.id ≤ 4095) && decide (m.offset < length)

end Sys2Proof

namespace Sys2Proof.Machine

/-- The platform conditions of R3; an absent platform's offsets are not read (section 9.5). -/
def bodyPlatformFits (b : SegmentBody) : Bool :=
  match bodySide b with
  | none => true
  | some _ => decide (b.platformLow ≤ b.platformHigh) && decide (b.platformHigh < b.length)

/-- The record of an arriving segment whose every field is within the table and the cases of R3, unpinned and without a
check word; `none` is RANGE. -/
def bodySegment (b : SegmentBody) : Option Segment :=
  match bodyKind b with
  | none => none
  | some kind =>
    if b.id ≤ 1023 ∧ b.low ≤ lineEnd ∧ 100 ≤ b.length ∧ b.length ≤ 200000 ∧ b.low + b.length ≤ lineEnd + 1 ∧
        b.kindByte < 32 ∧ -480 ≤ b.gradient ∧ b.gradient ≤ 480 ∧ b.upLimit ≤ 40 ∧ b.downLimit ≤ 40 ∧
        bodyPlatformFits b = true ∧ b.markers.length ≤ 4 ∧ (b.markers.all (·.fits b.length)) = true ∧
        distinct (b.markers.map MarkerField.offset) = true then
      some
        { id := b.id, low := b.low, length := b.length, kind := kind, gradient := b.gradient, upLimit := b.upLimit,
          downLimit := b.downLimit, shadow := bodyShadow b,
          platform := (bodySide b).map fun s => ⟨s, b.low + b.platformLow, b.low + b.platformHigh⟩,
          markers := b.markers, pinned := false, check := 0, checkFailed := false }
    else none

/-! ## Pin windows -/

/-- Whether an id matches a valid pin window (R10). -/
def pinMatch (ws : List Window) (id : Nat) : Bool := ws.any (·.hits id)

/-- How many records are pinned (R1). -/
def pinnedCount (t : List Segment) : Nat := (t.filter (·.pinned)).length

/-! ## Eviction -/

/-- How far a record's nearest position lies behind rear_min (R6). -/
def Segment.behind (s : Segment) (rear : Int) : Sense → Int
  | .up => rear - s.high
  | .down => s.low - rear

/-- Whether a record is a candidate for eviction (R6). -/
def Segment.evictable (s : Segment) (rear : Int) (dir : Sense) (margin : Nat) : Bool :=
  !s.pinned && decide ((margin : Int) < s.behind rear dir)

/-- The candidate that lies furthest behind (R6). -/
def furthest (rear : Int) (dir : Sense) : List Segment → Option Segment
  | [] => none
  | s :: rest =>
    match furthest rear dir rest with
    | some t => if t.behind rear dir < s.behind rear dir then some s else some t
    | none => some s

/-- The record that eviction removes, none when there is no candidate or eviction is not allowed (R6, R7). -/
def evictee (t : List Segment) (p : PositionRecord) (params : Params) (ahead : Option Sense) : Option Segment :=
  match p.state, ahead with
  | .known, some dir =>
    let rear := rearMin p params.carLength dir
    furthest rear dir (t.filter (·.evictable rear dir (params.uMax + 1000)))
  | _, _ => none

/-! ## The refresh -/

/-- A profile change signalled to the SSV (R9, R64): an evaluation that runs is discarded, and the one this causes is
followed by the comparisons when the discarded one would have been (R65). -/
def Ssv.profileChange (s : Ssv) : Ssv :=
  { s with
    running := none
    waiting := ⟨true, s.waiting.update || s.running.any (·.byUpdate)⟩ }

/-- What ends each accepted arrival and each SEGMENT REMOVE taken (R9). -/
def refreshStore (c : Car) : Car :=
  let c := refreshCoverage c
  { c with ssv := c.ssv.profileChange }

/-! ## Segment arrival -/

/-- A record takes its place in increasing order of low (R1). -/
def insertSegment (s : Segment) (t : List Segment) : List Segment := insertBy (fun a b => decide (a.low ≤ b.low)) s t

/-- A record stored beside the other records, with its pinned flag decided (R8), and the refresh that follows (R9). -/
def storeSegment (s : Segment) (others : List Segment) (c : Car) : Car :=
  let wants := pinMatch c.pst.windows s.id
  let room := decide (pinnedCount others < 48)
  let s := { s with pinned := wants && room }.write
  let c := if wants && !room then occur .pinFull s.id c else c
  refreshStore { c with pst := { c.pst with table := insertSegment s others } }

/-- A validated record judged against the stored records (R4 to R7). -/
def judgeArrival (s : Segment) (c : Car) : Result × Car :=
  let others := c.pst.table.filter fun t => !(t.id == s.id)
  if others.any fun t => t.overlaps s.low s.high then (.overlap, c)
  else if others.any fun t => t.markers.any fun m => s.markers.any fun n => n.id == m.id then (.dupMarker, c)
  else if others.length < 64 then (.accepted, storeSegment s others c)
  else
    match evictee others c.odo.position c.lif.params c.odo.travelRef with
    | some old => (.accepted, storeSegment s (others.filter fun t => !(t.id == old.id)) c)
    | none => (.storeFull, occur .storeFull s.id c)

/-- Segment arrival (R2): validation, then the stored records, then eviction. A check failure found among the stored
records abandons it with FAULT_STOP (R20). -/
def segmentArrival (b : SegmentBody) (c : Car) : Result × Car :=
  match bodySegment b with
  | none => (.range, c)
  | some s =>
    if distinct (s.markers.map MarkerField.id) then
      if c.pst.failures = 0 then judgeArrival s c else (.faultStop, readTable c)
    else (.dupMarker, c)

/-! ## SEGMENT REMOVE and PIN WINDOW SET -/

/-- SEGMENT REMOVE (R12, R20). -/
def segmentRemove (id : Nat) (c : Car) : Result × Car :=
  if 1023 < id then (.range, c)
  else if c.pst.failures ≠ 0 then (.faultStop, readTable c)
  else
    match c.pst.table.find? fun s => s.id == id with
    | none => (.notFound, c)
    | some s =>
      let p := c.odo.position
      if p.state = .known ∧ s.overlaps (extentLow p c.lif.params.carLength) (extentHigh p c.lif.params.carLength) then
        (.inUse, c)
      else
        (.accepted, refreshStore { c with pst := { c.pst with table := c.pst.table.filter fun s => !(s.id == id) } })

/-- A record's pinned flag under a new window set; a record whose flag changes is written again (R11). -/
def Segment.repin (ws : List Window) (s : Segment) : Segment :=
  let want := pinMatch ws s.id
  if want = s.pinned then s else { s with pinned := want }.write

/-- PIN WINDOW SET (R11, R20). -/
def pinWindowSet (window : Nat) (valid : Bool) (value mask : Nat) (c : Car) : Result × Car :=
  if window < 1 ∨ 4 < window ∨ 1023 < value ∨ 1023 < mask then (.range, c)
  else if c.pst.failures ≠ 0 then (.faultStop, readTable c)
  else
    let ws := c.pst.windows.set (window - 1) ⟨valid, value, mask⟩
    if 48 < (c.pst.table.filter fun s => pinMatch ws s.id).length then (.pinLimit, c)
    else (.accepted, { c with pst := { c.pst with windows := ws, table := c.pst.table.map (·.repin ws) } })

end Sys2Proof.Machine
end

