-- ==== Sys2Proof/Machine/Restrictions.lean ====
section
/-! DEFINITION. The restriction and overflow lists of the speed supervisor (R83 to R91). -/

namespace Sys2Proof.Machine

/-- A validated restriction request, its speed clamped (R85). -/
structure RestrictionRequest where
  id : Nat
  low : Nat
  high : Nat
  speed : Nat
  appliesTo : AppliesTo
  deriving DecidableEq, Repr

/-- The validation of a RESTRICTION ADD (R85); `none` is RANGE. -/
def restrictionRequest (id low high speed appliesTo : Nat) : Option RestrictionRequest :=
  match AppliesTo.ofCode appliesTo with
  | some a =>
    if 1 ≤ id ∧ id ≤ 255 ∧ low ≤ lineEnd ∧ high ≤ lineEnd ∧ low ≤ high then some ⟨id, low, high, min 40 speed, a⟩ else none
  | none => none

/-- The order of the restriction list: by low, then by id (R83). -/
def Restriction.before (a b : Restriction) : Bool := decide (a.low < b.low) || (a.low == b.low && decide (a.id ≤ b.id))

/-- An entry takes its place in the restriction list (R83). -/
def insertRestriction (r : Restriction) (l : List Restriction) : List Restriction := insertBy Restriction.before r l

/-- The entries of other ids. -/
def withoutRestriction (id : Nat) (l : List Restriction) : List Restriction := l.filter fun r => !(r.id == id)

/-- The overflow entries of other ids. -/
def withoutOverflow (id : Nat) (l : List OverflowEntry) : List OverflowEntry := l.filter fun r => !(r.id == id)

/-- A request accepted into the restriction list, by replacement or as a new entry (R86, R87). -/
def Ssv.acceptRestriction (s : Ssv) (q : RestrictionRequest) (origin : Origin) : Ssv :=
  let overflow := withoutOverflow q.id s.overflow
  { s with
    restrictions :=
      insertRestriction ⟨q.id, q.low, q.high, q.speed, q.appliesTo, origin⟩ (withoutRestriction q.id s.restrictions)
    overflow := overflow
    saturated := s.saturated && !overflow.isEmpty }

/-- A request refused from a full restriction list leaves its mark (R88). -/
def Ssv.refuseRestriction (s : Ssv) (id speed : Nat) : Ssv :=
  if s.overflow.any fun e => e.id == id then
    { s with overflow := s.overflow.map fun e => if e.id = id then { e with speed := min e.speed speed } else e }
  else if s.overflow.length < 4 then { s with overflow := s.overflow ++ [⟨id, speed⟩] }
  else { s with saturated := true }

/-- The RESTRICTION_OVERFLOW condition handed as the overflow list leaves or becomes empty (R91). -/
def handOverflow (before : List OverflowEntry) (c : Car) : Car :=
  levelChange .restrictionOverflow (!before.isEmpty) (!c.ssv.overflow.isEmpty)
    ((c.ssv.overflow.head?.map OverflowEntry.id).getD 0) c

/-- What a request that was taken hands on: a cause of evaluation when it counts as a change, and the condition (R91). -/
def handLists (before : Ssv) (changed : Bool) (c : Car) : Car :=
  handOverflow before.overflow (if changed then ssvCause c else c)

/-- RESTRICTION ADD (R85 to R88, R91). -/
def restrictionAdd (id low high speed appliesTo : Nat) (origin : Origin) (c : Car) : Result × Car :=
  match restrictionRequest id low high speed appliesTo with
  | none => (.range, c)
  | some q =>
    if (c.ssv.restrictions.any fun r => r.id == q.id) ∨ c.ssv.restrictions.length < 16 then
      (if speed ≤ 40 then .accepted else .acceptedClamped,
        handLists c.ssv true { c with ssv := c.ssv.acceptRestriction q origin })
    else
      let s := c.ssv.refuseRestriction q.id q.speed
      (.listFull, handLists c.ssv (decide (s ≠ c.ssv)) { c with ssv := s })

/-- RESTRICTION CANCEL (R89, R91). -/
def restrictionCancel (id : Nat) (c : Car) : Result × Car :=
  if id < 1 ∨ 255 < id then (.range, c)
  else if (c.ssv.restrictions.any fun r => r.id == id) ∨ (c.ssv.overflow.any fun e => e.id == id) then
    let overflow := withoutOverflow id c.ssv.overflow
    (.accepted, handLists c.ssv true
      { c with ssv := { c.ssv with
          restrictions := withoutRestriction id c.ssv.restrictions
          overflow := overflow
          saturated := c.ssv.saturated && !overflow.isEmpty } })
  else (.notFound, c)

/-- The overflow cap in km/h, none while the overflow list is empty (R90). -/
def overflowCap (overflow : List OverflowEntry) (saturated : Bool) : Option Nat :=
  if saturated && !overflow.isEmpty then some 0 else (overflow.map OverflowEntry.speed).min?

end Sys2Proof.Machine
end

