-- ==== Sys2Proof/Machine/RadioLink.lean ====
section
/-! DEFINITION. Link supervision: the radio car's link state and its timers (R155 to R157), the shadow test (R156) and the
follower's picture of the link (R159). -/

namespace Sys2Proof.Machine

/-- A link state taken; entering or leaving LOST is handed to the SSV (R157, R159, R64). -/
def setLink (l : LinkState) (c : Car) : Car :=
  let before := c.vrl.link
  let c := { c with vrl := { c.vrl with link := l } }
  if (before == .lost) = (l == .lost) then c else ssvCause c

/-- The supervision timer started from 0 with T_rs as it stands (R155 to R157). -/
def startSupervision (c : Car) : Car :=
  { c with vrl := { c.vrl with supervision := some ⟨0, c.lif.params.tRs⟩ } }

/-- LINKED passes to SHADOW (R156). -/
def enterShadow (c : Car) : Car :=
  setLink .shadow { c with vrl := { c.vrl with supervision := none, shadow := some ⟨0, c.lif.params.tShadowMax⟩ } }

/-- A valid frame taken by link supervision (R155, R156). -/
def hearFrame (c : Car) : Car :=
  match c.vrl.link with
  | .lost => startSupervision (setLink .linking c)
  | .linking =>
    let c := occur .radioLinked c.vrl.station (startSupervision (setLink .linked c))
    if c.vrl.shadowStands then enterShadow c else c
  | .linked => startSupervision c
  | .shadow => c

/-- The shadow test of the radio car (R156). -/
def shadowTest (c : Car) : Car :=
  if c.vrl.role = .radio then
    let c := readForExtent c
    let stands := shadowOver c.pst.readable c.odo.position c.lif.params.carLength
    let c := { c with vrl := { c.vrl with shadowStands := stands } }
    match c.vrl.link, stands with
    | .linked, true => enterShadow c
    | .shadow, false => startSupervision (setLink .linked { c with vrl := { c.vrl with shadow := none } })
    | _, _ => c
  else c

/-- The supervision timer reaches T_rs in LINKING or LINKED (R155, R156). -/
def supervisionExpiry (c : Car) : Car :=
  if c.vrl.supervision.any LimitedTimer.reached then
    match c.vrl.link with
    | .linking => occur .radioLost 3 (setLink .lost { c with vrl := { c.vrl with supervision := none } })
    | .linked => occur .radioLost 1 (setLink .lost { c with vrl := { c.vrl with supervision := none } })
    | _ => c
  else c

/-- The shadow timer reaches its limit in SHADOW (R156). -/
def shadowExpiry (c : Car) : Car :=
  match c.vrl.shadow, c.vrl.link with
  | some t, .shadow =>
    if t.reached then
      occur .radioLost 2 (occur .shadowExceeded t.limit (setLink .lost { c with vrl := { c.vrl with shadow := none } }))
    else c
  | _, _ => c

/-- The follower timer reaches 3 s (R159). -/
def followerExpiry (c : Car) : Car :=
  if Timer.reached Limit.follower c.vrl.follower then
    let before := c.vrl.link
    let c := setLink .lost { c with vrl := { c.vrl with follower := none } }
    if before = .lost then c else occur .radioLost 4 c
  else c

/-- A RADIO STATUS handed to a follower (R159). DESIGN CHOICE: a station id above 4 is stored as it is carried, since no rule
refuses the telegram (notes/assumptions/5.md). -/
def takeRadioStatus (link : LinkState) (station : Nat) (c : Car) : Car :=
  if c.vrl.role = .follower then
    let before := c.vrl.link
    let c := setLink link { c with vrl := { c.vrl with station := station, follower := some 0 } }
    if link = .lost ∧ before ≠ .lost then occur .radioLost 5 c
    else if link = .linked ∧ (before = .lost ∨ before = .linking) then occur .radioLinked station c
    else c
  else c

/-- A position change the ODO hands outside an update: the coverage, the SSV and the shadow test (R51, R14, R64, R156). -/
def positionChanged (c : Car) : Car := shadowTest (ssvCause (refreshCoverage c))

end Sys2Proof.Machine
end

