-- ==== Sys2Proof/Machine/Odometry.lean ====
section
/-! DEFINITION. The odometry unit: what channels hand it (R43, R58), the update in its nine steps (R44 to R59), POSITION SET
(R54) and markers (R55, R56). -/

namespace Sys2Proof.Machine

/-! ## Channel records -/

/-- A speed window that holds nothing. -/
def emptyWindow : List Nat := [0, 0, 0, 0, 0]

/-- One more pulse in the open sub-window, the last of the five (R43). -/
def countPulse : List Nat → List Nat
  | [] => []
  | [n] => [n + 1]
  | n :: rest => n :: countPulse rest

/-- A gain or a loss of validity (R43). -/
def OdoChannel.setValid (r : OdoChannel) (valid : Bool) : OdoChannel :=
  { r with valid := valid, acc := 0, window := emptyWindow, speed := 0, firstPulse := true }

/-- A tooth pulse handed from a valid channel (R43). -/
def OdoChannel.pulse (r : OdoChannel) (pitch : Nat) (idle : Bool) (now : Stamp) : OdoChannel :=
  { r with
    acc := min 4294967295 (r.acc + pitch)
    lastPulse := some now
    window := if idle || r.firstPulse then r.window else countPulse r.window
    firstPulse := if idle || r.firstPulse then false else r.firstPulse }

/-- An idle mark handed from a valid channel (R43). -/
def OdoChannel.idle (r : OdoChannel) : OdoChannel := { r with window := emptyWindow, firstPulse := true }

/-- Step 1 for one channel (R44, R45). -/
def OdoChannel.close (r : OdoChannel) (pitch : Nat) : OdoChannel :=
  if r.valid then { r with speed := r.window.sum * pitch / 2500, window := r.window.drop 1 ++ [0] } else { r with speed := 0 }

/-- The whole centimetres taken out of an accumulator (R47, R54, R56). -/
def OdoChannel.takeWhole (r : OdoChannel) : OdoChannel := { r with acc := r.acc % 10000 }

def Odo.modify (o : Odo) (ch : LoopChannel) (f : OdoChannel → OdoChannel) : Odo :=
  { o with channels := o.channels.set ch (f (o.channels.get ch)) }

/-- A change of validity handed to the ODO (R26, R43). -/
def handValidity (ch : LoopChannel) (valid : Bool) (c : Car) : Car :=
  { c with odo := c.odo.modify ch (·.setValid valid) }

/-- A tooth pulse handed to the ODO; it ends standstill (R43, R49). -/
def handPulse (ch : LoopChannel) (idle : Bool) (c : Car) : Car :=
  standstillEnd { c with odo := c.odo.modify ch (·.pulse (c.lif.params.pitch.get ch) idle c.now) }

/-- An idle mark handed to the ODO (R43). -/
def handIdle (ch : LoopChannel) (c : Car) : Car := { c with odo := c.odo.modify ch OdoChannel.idle }

/-! ## Mesh -/

/-- The detail of MESH_SHALLOW: 1 COG_A, 2 COG_B, 3 both (R190). -/
def shallowDetail (o : Odo) : Nat := (if o.channels.cogA.shallow then 1 else 0) + (if o.channels.cogB.shallow then 2 else 0)

/-- MESH_SHALLOW and MESH_LOSS judged from the flags and handed as they change (R58). DESIGN CHOICE: MESH_SHALLOW is handed before
MESH_LOSS (notes/assumptions/53.md). -/
def judgeMesh (c : Car) : Car :=
  let shallow := c.odo.channels.cogA.shallow || c.odo.channels.cogB.shallow
  let loss := c.odo.channels.cogA.loss || c.odo.channels.cogB.loss
  let before := c.odo
  let c := { c with odo := { c.odo with meshShallow := shallow, meshLoss := loss } }
  let c := if before.meshShallow = shallow then c else ssvCause c
  causeChange .meshLoss before.meshLoss loss (levelChange .meshShallow before.meshShallow shallow (shallowDetail c.odo) c)

/-- A good word's mesh class in a cog channel's history (R58). -/
def OdoChannel.takeMesh (r : OdoChannel) (cls : Nat) : OdoChannel :=
  let h := (r.mesh ++ [cls]).drop (r.mesh.length + 1 - 3)
  let full := decide (h.length = 3)
  let r := { r with mesh := h, loss := r.loss || decide (cls ≤ 1) }
  let r := if full ∧ h.all (fun m => decide (m ≤ 3)) then { r with shallow := true } else r
  if full ∧ h.all (fun m => decide (4 ≤ m)) then { r with shallow := false, loss := false } else r

/-- A mesh history emptied and its flags cleared (R58). -/
def OdoChannel.clearMesh (r : OdoChannel) : OdoChannel := { r with mesh := [], shallow := false, loss := false }

/-- The kinds of track under the extent as the ODO asks the PST (R18, R46). -/
def askKinds (c : Car) : KindSet := kindSet c.pst.readable c.odo.position c.lif.params.carLength

def isCog : LoopChannel → Bool
  | .cogA | .cogB => true
  | _ => false

/-- A good word handed to the ODO (R43, R58): one of COG_A or COG_B enters the mesh history while the extent overlaps
rack. -/
def handWord (ch : LoopChannel) (cls : Nat) (c : Car) : Car :=
  if isCog ch then
    let c := readForExtent c
    if (askKinds c).rack then judgeMesh { c with odo := c.odo.modify ch (·.takeMesh cls) } else c
  else c

/-! ## Active set, fusion and direction -/

/-- The active set (R46). -/
def activeSet (state : PositionState) (k : KindSet) : PerLoop Bool :=
  if state = .unknown ∨ !k.covered ∨ k.rackEntry ∨ (k.rack ∧ k.adhesion) then .all true
  else if k.rack then ⟨true, true, false, false⟩
  else if k.adhesion then ⟨false, false, true, true⟩
  else .all true

/-- The valid channels of the active set, in channel order. -/
def validActive (channels : PerLoop OdoChannel) (active : PerLoop Bool) : List LoopChannel :=
  LoopChannel.list.filter fun ch => (channels.get ch).valid && active.get ch

/-- The fused speed (R47). -/
def fusedSpeed (channels : PerLoop OdoChannel) (used : List LoopChannel) : Nat :=
  min 1500 ((used.map fun ch => (channels.get ch).speed).foldl max 0)

/-- The advance: the floor of the mean of the whole centimetres (R47). -/
def advanceOf (channels : PerLoop OdoChannel) (used : List LoopChannel) : Nat :=
  (used.map fun ch => (channels.get ch).acc / 10000).sum / used.length

/-- The direction of a data word under a mounting sense (R34). -/
def wordSense (reversed : Bool) (w : DataWord) : Sense := if w.direction != reversed then .up else .down

/-- The measured direction (R48): the one that every latest word names, or the one held. -/
def measuredDirection (c : Car) (used : List LoopChannel) : Option Sense :=
  let words := used.map fun ch => ((c.tlf.get ch).latest).map (wordSense (c.lif.params.reversed.get ch))
  if words ≠ [] ∧ words.all (· == some .up) then some .up
  else if words ≠ [] ∧ words.all (· == some .down) then some .down
  else c.odo.measured

/-! ## The position record -/

/-- The uncertainty worked out from a fix and the travel since it (R53). -/
def uncertainty (fixUnc travel drift : Nat) : Nat := min 1999999 (fixUnc + ceilDiv (travel * drift) 1000)

/-- A position record with its uncertainty worked out, and KNOWN given up when it exceeds U_max (R53). -/
def PositionRecord.widen (p : PositionRecord) (params : Params) : PositionRecord :=
  let unc := uncertainty p.fixUnc p.travel params.drift
  { p with unc := unc, state := if p.state = .known ∧ params.uMax < unc then .lost else p.state }

/-- The position moved by an advance in the measured direction, before bounding (R52). -/
def movedPos (p : PositionRecord) (advance : Nat) : Option Sense → Int
  | some .up => (p.pos : Int) + advance
  | some .down => (p.pos : Int) - advance
  | none => p.pos

/-- Whether a move leaves the line (R52). -/
def leavesLine (p : PositionRecord) (advance : Nat) (measured : Option Sense) : Bool :=
  decide (movedPos p advance measured < 0) || decide ((lineEnd : Int) < movedPos p advance measured)

/-- Step 5: the record takes the advance (R52, R53). DESIGN CHOICE: fix_unc is held at 1,999,999, the end of its range in R51;
R52 and R53 say of travel_since_fix and of unc alone that they are held (notes/assumptions/52.md). -/
def PositionRecord.take (p : PositionRecord) (advance : Nat) (measured : Option Sense) (params : Params) :
    PositionRecord :=
  if p.state = .unknown then p
  else
    PositionRecord.widen
      { p with
        travel := min 4294967295 (p.travel + advance)
        fixUnc := if measured.isNone then min 1999999 (p.fixUnc + advance) else p.fixUnc
        pos := min lineEnd (movedPos p advance measured).toNat
        state := if leavesLine p advance measured then .lost else p.state }
      params

/-- POSITION_LOST as KNOWN becomes LOST (R51). -/
def handLost (before : PositionState) (detail : Nat) (c : Car) : Car :=
  if before = .known ∧ c.odo.position.state = .lost then occur .positionLost detail c else c

/-! ## Standstill -/

/-- The time since the latest last-tooth-pulse time of the valid channels, of all channels when none is valid (R49;
notes/assumptions/21.md). -/
def quietTime (c : Car) : Nat :=
  let valid := LoopChannel.list.filter fun ch => (c.odo.channels.get ch).valid
  let heard := if valid = [] then LoopChannel.list else valid
  let times := heard.map fun ch =>
    match (c.odo.channels.get ch).lastPulse with
    | some t => since c.now t
    | none => c.now
  times.foldl min 4294967295

/-- Standstill begins: handed to the BRK and the SSV, and the ODO's own rules (R49, R57, R58, R78, R109). -/
def standstillBegin (c : Car) : Car :=
  let rolled := c.odo.rollback
  let speeding := c.ssv.record.overspeed
  let c := { c with
    odo := { c.odo with
      standstill := true, rollbackDist := 0, rollback := false
      channels := { c.odo.channels with
        cogA := { c.odo.channels.cogA with loss := false }
        cogB := { c.odo.channels.cogB with loss := false } } }
    brk := { c.brk with standstillSince := some c.now }
    ssv := { c.ssv with record := { c.ssv.record with overspeed := false } } }
  let c := causeChange .rollback rolled false (levelChange .rollback rolled false 0 c)
  judgeMesh (causeChange .overspeed speeding false c)

/-- Step 6: whether standstill begins at this update (R49). -/
def judgeStandstill (c : Car) : Car :=
  if !c.odo.standstill ∧ 100 ≤ quietTime c ∧ c.odo.fused = 0 then standstillBegin c else c

/-! ## Rollback and channel counts -/

/-- The distance that an update adds to the rollback distance (R57). -/
def rollbackAdds (commanded : Direction) (measured : Option Sense) (advance : Nat) : Nat :=
  match commanded.sense with
  | none => advance
  | some d => if measured = some d then 0 else advance

/-- The detail of ROLLBACK, 16 bits: the rollback distance at the start (R190), and a free value for one that they do not hold
(notes/assumptions/57.md). -/
def rollbackDetail (dist : Nat) : Nat := if dist < 65536 then dist else (Config.longRollback dist).toNat

/-- Step 7 (R57). DESIGN CHOICE: the start of ROLLBACK is handed to the EVR first and then to the BRK
(notes/assumptions/53.md). -/
def takeRollback (advance : Nat) (c : Car) : Car :=
  let dist := c.odo.rollbackDist + rollbackAdds c.lif.demand.direction c.odo.measured advance
  let present := c.odo.rollback || decide (50 ≤ dist)
  let before := c.odo.rollback
  let c := { c with odo := { c.odo with rollbackDist := dist, rollback := present } }
  causeChange .rollback before present (levelChange .rollback before present (rollbackDetail dist) c)

/-- Step 8: away from rack the mesh histories are emptied (R58). -/
def checkMesh (k : KindSet) (c : Car) : Car :=
  if k.rack ∧ c.odo.position.state ≠ .unknown then c
  else
    judgeMesh { c with odo := { c.odo with channels := { c.odo.channels with
      cogA := c.odo.channels.cogA.clearMesh, cogB := c.odo.channels.cogB.clearMesh } } }

/-- Step 9: the channel-count conditions (R59). -/
def judgeCounts (used : List LoopChannel) (c : Car) : Car :=
  let degraded := decide (used.length = 1)
  let lost := used.isEmpty
  let before := c.odo
  let c := { c with odo := { c.odo with degraded := degraded, lost := lost } }
  let c := if before.degraded = degraded then c else ssvCause c
  let number := (used.head?.map LoopChannel.number).getD 0
  causeChange .odometryLost before.lost lost (levelChange .odometryDegraded before.degraded degraded number c)

/-! ## The update -/

/-- Step 1: every speed window closes its open sub-window (R44, R45). -/
def closeWindows (c : Car) : Car :=
  let q := c.odo.channels
  let f := fun ch => (q.get ch).close (c.lif.params.pitch.get ch)
  { c with odo := { c.odo with channels := ⟨f .cogA, f .cogB, f .wheelA, f .wheelB⟩ } }

/-- Steps 3 and 4: fused speed and measured direction, and the whole centimetres taken out (R47, R48). -/
def fuse (used : List LoopChannel) (c : Car) : Car :=
  { c with odo := { c.odo with
      fused := fusedSpeed c.odo.channels used
      measured := measuredDirection c used
      channels := c.odo.channels.map OdoChannel.takeWhole } }

/-- Step 5 with the event of a KNOWN position lost (R51 to R53). -/
def takeAdvance (advance : Nat) (c : Car) : Car :=
  let before := c.odo.position
  let detail := if leavesLine before advance c.odo.measured then 1 else 2
  handLost before.state detail
    { c with odo := { c.odo with position := before.take advance c.odo.measured c.lif.params } }

/-- The update handed to the SSV: a cause of evaluation that the comparisons follow (R44, R64, R65). -/
def Ssv.updateCause (s : Ssv) : Ssv := { s with waiting := ⟨true, true⟩ }

/-- Steps 5 to 9 of an update, on the kinds of step 2, the used channels and the advance of step 3. -/
def updateConditions (k : KindSet) (used : List LoopChannel) (advance : Nat) (c : Car) : Car :=
  judgeCounts used (checkMesh k (takeRollback advance (judgeStandstill (takeAdvance advance c))))

/-- An odometry update (R44): the timebase watch restarts (R125), the nine steps are taken in order, the PST recomputes the
coverage, and the SSV and the VRL are told. -/
def odometryUpdate (c : Car) : Car :=
  let c := { c with odo := { c.odo with updateTimer := some 0 }, brk := { c.brk with watch := some 0 } }
  let c := readForExtent (closeWindows c)
  let k := askKinds c
  let used := validActive c.odo.channels (activeSet c.odo.position.state k)
  let advance := advanceOf c.odo.channels used
  let c := refreshCoverage (updateConditions k used advance (fuse used c))
  shadowTest { c with ssv := c.ssv.updateCause }

/-! ## POSITION SET and markers -/

/-- The whole centimetres of every accumulator discarded (R54, R56). -/
def discardWhole (c : Car) : Car :=
  { c with odo := { c.odo with channels := c.odo.channels.map OdoChannel.takeWhole } }

/-- A fix taken (R54, R56). -/
def takeFix (pos unc : Nat) (fix : Fix) (c : Car) : Car :=
  positionChanged (discardWhole { c with odo := { c.odo with position := ⟨.known, pos, unc, unc, 0, 0, some fix⟩ } })

/-- POSITION SET (R54). -/
def positionSet (pos : Nat) (c : Car) : Result × Car :=
  if lineEnd < pos then (.range, c)
  else if !c.odo.standstill then (.notStandstill, c)
  else (.accepted, takeFix pos c.lif.params.setUnc (.set c.now) c)

/-- A marker found outside the window of a KNOWN position (R56). -/
def markerConflict (id : Nat) (c : Car) : Car :=
  let c := occur .markerConflict id c
  let p := c.odo.position
  if p.conflicts + 1 < 2 then { c with odo := { c.odo with position := { p with conflicts := p.conflicts + 1 } } }
  else
    positionChanged
      (occur .positionLost 3 { c with odo := { c.odo with position := { p with conflicts := 0, state := .lost } } })

/-- A marker read judged (R56). -/
def judgeMarker (id : Nat) (c : Car) : Car :=
  let p := c.odo.position
  match findMarker c.pst.readable id with
  | none => occur .markerUnknown id c
  | some (mp, _) =>
    if p.state = .known ∧ p.unc + c.lif.params.markerTol < ((mp : Int) - p.pos).natAbs then markerConflict id c
    else takeFix mp c.lif.params.markerTol (.marker c.now id) c

/-- A message on MARKER_IN (R55). -/
def markerRead (id : Nat) (checkOk : Bool) (c : Car) : Car :=
  if checkOk ∧ 1 ≤ id ∧ id ≤ 4095 then judgeMarker id (readTable c)
  else { c with odo := { c.odo with markerErrors := bump c.odo.markerErrors } }

/-! ## What changed parameters and the driver demand do -/

/-- A new drift or U_max applied at once (R53, R60). -/
def rejudgeUncertainty (c : Car) : Car :=
  let before := c.odo.position
  if before.state = .unknown then c
  else
    let c := handLost before.state 2 { c with odo := { c.odo with position := before.widen c.lif.params } }
    if c.odo.position.state = before.state then refreshCoverage c else positionChanged c

/-- The commanded direction changed (R50, R57): the travel reference, the rollback distance, the coverage, and a cause of
evaluation (R64). -/
def commandChanged (d : Direction) (c : Car) : Car :=
  let ahead := match d.sense with
    | some s => some s
    | none => c.odo.travelRef
  let before := c.odo.travelRef
  let c := { c with odo := { c.odo with rollbackDist := 0, travelRef := ahead } }
  ssvCause (if before = ahead then c else refreshCoverage c)

end Sys2Proof.Machine
end

