-- ==== Sys2Proof/Machine/Sensors.lean ====
section
/-! DEFINITION. The tooth loop front end: sample lists, adaptive quantities and thresholds (R27 to R30), levels and data words
(R25, R31 to R34), loop faults (R35 to R38) and settling (R39). -/

namespace Sys2Proof.Machine

/-- One loop channel's record replaced. -/
def setLoop (ch : LoopChannel) (r : TlfChannel) (c : Car) : Car := { c with tlf := c.tlf.set ch r }

/-- A measured current: one above 40.0 mA reads 400 (R24). -/
def measured (current : Nat) : Nat := min 400 current

/-- A sample behind the others of a list of at most `n` (R27). -/
def pushSample (n x : Nat) (l : List Nat) : List Nat := (l ++ [x]).drop (l.length + 1 - n)

/-! ## Adaptive quantities and thresholds -/

/-- A value held within a range, and whether it was outside (R28). -/
def clampTo (lo hi : Int) (x : Int) : Nat × Bool := ((max lo (min hi x)).toNat, decide (x < lo ∨ hi < x))

/-- The floor of the mean of a list (R28). -/
def meanOf (l : List Nat) : Nat := l.sum / l.length

/-- A quantity from its list: clamped, or its initial value when the list is empty (R28). -/
def quantity (l : List Nat) (initial lo hi : Nat) (x : Int) : Nat × Bool := if l = [] then (initial, false) else clampTo lo hi x

/-- The thresholds of R28 and R29. -/
def thresholds (p : Params) (ch : LoopChannel) (i0 d1 d2 : Nat) : Nat × Nat :=
  if p.fixedMode.get ch then
    let t1 := 30 + p.offsetF.get ch
    (t1, min 390 (t1 + 30 + p.offsetO.get ch))
  else (i0 + d1 / 2, min 390 (i0 + d1 + d2 / 2))

/-- A record with its quantities and thresholds worked out anew from its lists (R28, R29). -/
def TlfChannel.rework (r : TlfChannel) (p : Params) (ch : LoopChannel) : TlfChannel :=
  let i0 := quantity r.restList p.i0Min p.i0Min (p.i0Min + p.i0Span) ((r.restList.min?.getD 0 : Nat) : Int)
  let d1 := quantity r.dataList 30 30 70 ((meanOf r.dataList : Int) - i0.1)
  let d2 := quantity r.toothList 60 60 120 ((meanOf r.toothList : Int) - i0.1 - d1.1)
  let t := thresholds p ch i0.1 d1.1 d2.1
  let adaptive := !p.fixedMode.get ch
  { r with
    i0 := i0.1, d1 := d1.1, d2 := d2.1, t1 := t.1, t2 := t.2
    satI0 := r.satI0 || (adaptive && i0.2)
    satD1 := r.satD1 || (adaptive && d1.2)
    satD2 := r.satD2 || (adaptive && d2.2) }

/-- A saturation flag that goes from clear to set (R28). -/
def handSaturation (ch : LoopChannel) (code : Nat) (before after : Bool) (c : Car) : Car :=
  if !before && after then occur .sensorSaturation (ch.number * 256 + code) c else c

/-- A record put in place with its thresholds worked out anew, and SENSOR_SATURATION for each new flag (R28, R30). -/
def reworkLoop (ch : LoopChannel) (r : TlfChannel) (c : Car) : Car :=
  let n := r.rework c.lif.params ch
  handSaturation ch 3 r.satD2 n.satD2
    (handSaturation ch 2 r.satD1 n.satD1 (handSaturation ch 1 r.satI0 n.satI0 (setLoop ch n c)))

/-! ## Validity -/

/-- Whether classification and decoding run (R24). -/
def TlfChannel.decodes (r : TlfChannel) : Bool := r.state == .active || r.state == .fault

/-- A channel's state with what the change hands the ODO (R26). -/
def passTo (ch : LoopChannel) (state : ChannelState) (c : Car) : Car :=
  let r := c.tlf.get ch
  let c := setLoop ch { r with state := state, idleFlag := if state = .active ∧ r.state ≠ .active then true else r.idleFlag } c
  if (r.state == .active) = (state == .active) then c else handValidity ch (state == .active) c

/-! ## Levels -/

/-- The slots of a data word sampled before a rise that comes `t` µs after the end of the pulse (R31, R32). -/
def slotsBefore (t : Nat) : Nat := min 8 ((t + 24) / 50)

/-- The word receiver brought to a moment: the slots sampled by then (R31). -/
def WordReception.sampledBy (rx : WordReception) (sincePulse : Nat) : WordReception :=
  { rx with slots := slotsBefore sincePulse }

/-- The word being received is truncated: the number of slots sampled becomes the length of the last truncated word (R32). -/
def TlfChannel.truncate (r : TlfChannel) : TlfChannel :=
  match r.receiver with
  | some rx =>
    { r with
      receiver := none, rollRef := none, lastTruncated := rx.slots
      counts := { r.counts with truncated := bump r.counts.truncated } }
  | none => r

/-- The current rises above T2 (R25, R32). -/
def levelRise (ch : LoopChannel) (sincePulse lowest : Nat) (c : Car) : Car :=
  let r := c.tlf.get ch
  if r.decodes then
    let r := { r with receiver := r.receiver.map (WordReception.sampledBy · sincePulse) }
    setLoop ch { r.truncate with level := some ⟨r.t2, measured lowest⟩ } c
  else c

/-- The kinds of level (R25). -/
inductive LevelKind where
  | tooth | idle | malformed
  deriving DecidableEq, Repr

/-- A level's kind by its duration in µs (R25). -/
def levelKind (duration : Nat) : LevelKind :=
  if 20 ≤ duration ∧ duration ≤ 200 then .tooth else if 1000 ≤ duration ∧ duration ≤ 3000 then .idle else .malformed

/-- A tooth pulse in the record: its samples, its count, the pulse log (R25, R27). -/
def TlfChannel.tooth (r : TlfChannel) (lowest highest : Nat) (now : Stamp) : TlfChannel :=
  { r with
    restList := pushSample 16 lowest r.restList
    toothList := pushSample 8 highest r.toothList
    lastTooth := some now
    idleFlag := false
    level := none
    counts := { r.counts with tooth := bump r.counts.tooth } }

/-- The word receiver starts with the thresholds worked out at the pulse's end and no slot sampled (R23, R31). -/
def startReceiver (ch : LoopChannel) (c : Car) : Car :=
  let r := c.tlf.get ch
  setLoop ch { r with receiver := some ⟨r.t1, r.t2, 0⟩ } c

/-- A level above T2 ends (R25). -/
def levelEnd (ch : LoopChannel) (duration highest : Nat) (c : Car) : Car :=
  let r := c.tlf.get ch
  match r.decodes, r.level with
  | true, some l =>
    match levelKind duration with
    | .tooth =>
      let c := startReceiver ch (reworkLoop ch (r.tooth l.lowest (measured highest) c.now) c)
      if r.state = .active then handPulse ch r.idleFlag c else c
    | .idle =>
      let c := setLoop ch { r with level := none, lastIdle := some c.now, idleFlag := true } c
      if r.state = .active then handIdle ch c else c
    | .malformed =>
      setLoop ch { r with level := none, counts := { r.counts with malformed := bump r.counts.malformed } } c
  | _, _ => c

/-! ## Data words -/

/-- A slot's bit (R31). -/
def slotBit (t1 : Nat) (sample : Nat) : Bool := decide (t1 < sample)

/-- The nine bits of a word, slot 0 first. -/
def wordBits (t1 : Nat) (samples : List Nat) : List Bool :=
  (List.range 9).map fun k => slotBit t1 (measured (samples.getD k 0))

def bitValue (b : Bool) : Nat := if b then 1 else 0

/-- Whether the parity of a word is good (R33). -/
def parityGood (bits : List Bool) : Bool := decide ((bits.filter id).length % 2 = 0)

/-- The fields of a word from its bits (section 2.4). -/
def wordOf (bits : List Bool) : DataWord where
  direction := bits.getD 0 false
  mesh := bitValue (bits.getD 1 false) + 2 * bitValue (bits.getD 2 false) + 4 * bitValue (bits.getD 3 false)
  airGap := bits.getD 4 false
  sensorFault := bits.getD 5 false
  rolling := bitValue (bits.getD 6 false) + 2 * bitValue (bits.getD 7 false)

/-- The data samples of a word: the currents of the slots read as 1, slot 0 first (R27). -/
def dataSamples (t1 : Nat) (samples : List Nat) : List Nat :=
  ((List.range 9).map fun k => measured (samples.getD k 0)).filter (slotBit t1 ·)

/-- Whether a word of good parity passes the rolling-count check (R33). -/
def rollingGood (ref : Option Nat) (w : DataWord) : Bool :=
  match ref with
  | some n => decide (w.rolling = (n + 1) % 4)
  | none => true

/-- A word of good parity in the record: its samples, its rolling count, and the word itself when it is good (R27, R33,
R34). -/
def TlfChannel.takeWord (r : TlfChannel) (w : DataWord) (data : List Nat) : TlfChannel :=
  let good := rollingGood r.rollRef w
  { r with
    receiver := none
    dataList := data.foldl (fun l x => pushSample 8 x l) r.dataList
    rollRef := some w.rolling
    latest := if good then some w else r.latest
    counts := { r.counts with
      wordErrors := if good then r.counts.wordErrors else bump r.counts.wordErrors
      airGap := if good && w.airGap then bump r.counts.airGap else r.counts.airGap } }

/-- A word of bad parity discarded (R33). -/
def TlfChannel.badWord (r : TlfChannel) : TlfChannel :=
  { r with receiver := none, rollRef := none, counts := { r.counts with wordErrors := bump r.counts.wordErrors } }

/-- A fault latch set: its event when it was clear, and an ACTIVE channel goes to FAULT (R36, R37). -/
def latchEvent (ch : LoopChannel) (code : Nat) (wasSet : Bool) (c : Car) : Car :=
  if wasSet then c else occur .sensorFault (ch.number * 256 + code) c

def faultWhenActive (ch : LoopChannel) (c : Car) : Car :=
  if (c.tlf.get ch).state = .active then passTo ch .fault c else c

/-- A good word's sensor fault bit latches SENSOR (R37). -/
def latchSensor (ch : LoopChannel) (c : Car) : Car :=
  let r := c.tlf.get ch
  latchEvent ch 3 r.latches.sensor (faultWhenActive ch (setLoop ch { r with latches := { r.latches with sensor := true } } c))

/-- What a good word hands on (R34, R37). -/
def wordEffect (ch : LoopChannel) (w : DataWord) (c : Car) : Car :=
  if w.sensorFault then latchSensor ch c else if (c.tlf.get ch).state = .active then handWord ch w.mesh c else c

/-- Slot 8 of a word has been sampled (R31, R33). DESIGN CHOICE: a SENSOR_SATURATION of the word's samples occurs before what the word's
fields make occur (notes/assumptions/53.md). -/
def wordComplete (ch : LoopChannel) (samples : List Nat) (c : Car) : Car :=
  let r := c.tlf.get ch
  match r.decodes, r.receiver with
  | true, some rx =>
    let bits := wordBits rx.t1 samples
    if parityGood bits then
      let w := wordOf bits
      let c := reworkLoop ch (r.takeWord w (dataSamples rx.t1 samples)) c
      if rollingGood r.rollRef w then wordEffect ch w c else c
    else setLoop ch r.badWord c
  | _, _ => c

/-! ## Loop faults -/

/-- SHORT is detected (R35). -/
def shortDetected (ch : LoopChannel) (c : Car) : Car :=
  let r := c.tlf.get ch
  if r.state = .off then c
  else
    let c := setLoop ch { r with
      supply := false, latches := { r.latches with shortLoop := true }, level := none, receiver := none, settle := none } c
    occur .sensorFault (ch.number * 256 + 2) (passTo ch .off c)

/-- OPEN is detected (R36). -/
def openDetected (ch : LoopChannel) (c : Car) : Car :=
  let r := c.tlf.get ch
  if r.state = .off then c
  else
    latchEvent ch 1 r.latches.openLoop
      (faultWhenActive ch (setLoop ch { r with latches := { r.latches with openLoop := true } } c))

/-! ## Settling -/

/-- Entry to SETTLING (R39). -/
def TlfChannel.beginSettling (r : TlfChannel) (p : Params) (ch : LoopChannel) : TlfChannel :=
  TlfChannel.rework
    { r with
      state := .settling, supply := true, restList := [], dataList := [], toothList := []
      satI0 := false, satD1 := false, satD2 := false, latest := none, rollRef := none, receiver := none, level := none
      settle := some 0 }
    p ch

/-- SETTLING has lasted 100 ms (R39). -/
def settlingEnd (ch : LoopChannel) (lowest : Nat) (c : Car) : Car :=
  let r := c.tlf.get ch
  if r.state = .settling ∧ Timer.reached Limit.settling r.settle then
    let c := reworkLoop ch { r with restList := pushSample 16 (measured lowest) r.restList, settle := none } c
    passTo ch (if r.latches.openLoop ∨ r.latches.sensor ∨ r.latches.shortLoop then .fault else .active) c
  else c

/-! ## FAULT READ -/

/-- A channel's record as FAULT READ reports it (R38). -/
def loopReport (p : Params) (ch : LoopChannel) (r : TlfChannel) : LoopReport where
  state := r.state
  latches := r.latches
  fixedMode := p.fixedMode.get ch
  i0 := r.i0
  d1 := r.d1
  d2 := r.d2
  t1 := r.t1
  t2 := r.t2
  satI0 := r.satI0
  satD1 := r.satD1
  satD2 := r.satD2
  counts := r.counts
  lastTruncated := r.lastTruncated
  latest := r.latest
  lastTooth := r.lastTooth
  lastIdle := r.lastIdle

/-- A record after FAULT READ has cleared it (R38). -/
def TlfChannel.cleared (r : TlfChannel) : TlfChannel :=
  { r with
    latches := ⟨false, false, false⟩, satI0 := false, satD1 := false, satD2 := false, counts := ⟨0, 0, 0, 0, 0⟩,
    lastTruncated := 0 }

/-- A channel cleared and, from FAULT or OFF, restarted (R38). -/
def clearLoop (c : Car) (ch : LoopChannel) : Car :=
  let r := c.tlf.get ch
  let c := setLoop ch r.cleared c
  match r.state with
  | .fault => passTo ch .active c
  | .off => setLoop ch (r.cleared.beginSettling c.lif.params ch) c
  | _ => c

/-- FAULT READ: the reports of the four channels in channel order, then the clear (R38). -/
def faultRead (c : Car) : List ReplyData × Car :=
  (LoopChannel.list.map fun ch => .loop (loopReport c.lif.params ch (c.tlf.get ch)), LoopChannel.list.foldl clearLoop c)

end Sys2Proof.Machine
end

