-- ==== Sys2Proof/Machine/Supervision.lean ====
section
/-! DEFINITION. The speed supervisor: the evaluation on a fixed copy of its inputs (R65 to R74), the two lanes and their
comparison (R75), and the comparisons with the fused speed (R76 to R79). -/

namespace Sys2Proof.Machine

/-! ## Arithmetic -/

/-- The bits of a square root, highest first. -/
def sqrtBits : Nat → Nat → Nat → Nat
  | 0, _, r => r
  | k + 1, n, r => if (r + 2 ^ k) * (r + 2 ^ k) ≤ n then sqrtBits k n (r + 2 ^ k) else sqrtBits k n r

/-- The largest whole number whose square does not exceed `n`, for `n` below 2^22 (R70). -/
def isqrt (n : Nat) : Nat := sqrtBits 11 n 0

/-- The gradient in the direction of travel (00_scope, The line as one axis). -/
def gradientAlong (g : Int) : Sense → Int
  | .up => g
  | .down => -g

/-- The downhill pull of a gradient in the direction of travel, in mm/s² (R70). -/
def gdown (gt : Int) : Nat := ceilDiv (9807 * (max 0 (-gt)).toNat) 1000

/-- The capability for a kind of track (R71). -/
def capability (p : Params) (kind : TrackKind) (load : LoadClass) (available : Nat) : Nat :=
  match kind, available with
  | .rack, 1 => p.rack1.get load
  | .rack, _ => p.rack2.get load
  | _, 1 => p.adhesion1.get load
  | _, _ => p.adhesion2.get load

/-- The effective deceleration over a piece (R70). -/
def effective (e : EvalCopy) (dir : Sense) (q : Piece) : Int :=
  (capability e.params q.kind e.load e.available : Int) - gdown (gradientAlong q.gradient dir)

/-! ## Limits and caps -/

/-- Something that bounds P, with the limiting source it gives. -/
abbrev Bound := Nat × LimitingSource

/-- The first bound of the lowest value (R63). -/
def lowest : List Bound → Option Bound
  | [] => none
  | b :: rest =>
    match lowest rest with
    | some m => if m.1 < b.1 then some m else some b
    | none => some b

/-- The bounds of the limit over the car (R67). -/
def limitBounds (e : EvalCopy) (t : List Segment) (dir : Sense) : List Bound :=
  let lo := extentLow e.position e.params.carLength
  let hi := extentHigh e.position e.params.carLength
  (segmentsOver t lo hi).map (fun s => (cms (s.limit dir), .limitSegment s.id)) ++
  (e.restrictions.filter fun r => r.appliesTo.holds dir && decide ((r.low : Int) ≤ hi) && decide (lo ≤ (r.high : Int))).map
    fun r => (cms r.speed, .limitRestriction r.id)

/-- A cap as a bound while its condition is present. -/
def capBound (present : Bool) (kmh : Nat) (name : CapName) : List Bound := if present then [(cms kmh, .cap name)] else []

/-- The caps whose condition is present, in the order of the cap table (R68). -/
def capBounds (e : EvalCopy) : List Bound :=
  capBound e.radioLost e.params.radioCap .radioLoss ++ capBound e.meshShallow e.params.meshCap .mesh ++
  capBound e.degraded e.params.degradedCap .degradedOdometry ++
  capBound (e.position.state == .lost) e.params.lostCap .lostPosition ++
  (match overflowCap e.overflow e.saturated with
    | some kmh => [(cms kmh, .cap .overflow)]
    | none => [])

/-! ## Targets -/

/-- A target (section 4.4). -/
structure Target where
  distance : Nat
  edge : Int
  speed : Nat
  source : LimitingSource
  deriving DecidableEq, Repr

/-- The distance of the coverage end; an empty coverage ends under the car (R69; notes/assumptions/25.md). -/
def coverageDistance (e : EvalCopy) (front : Int) : Nat :=
  match e.coverage with
  | some n => ((n : Int) - front).natAbs
  | none => 0

/-- The coverage end as a position (R69). -/
def coverageEdge (e : EvalCopy) (front : Int) : Int :=
  match e.coverage with
  | some n => n
  | none => front

/-- A restriction wholly ahead of the extent as a target (R69). -/
def restrictionTarget (front : Int) (dir : Sense) (r : Restriction) : Option Target :=
  if r.appliesTo.holds dir then
    match dir with
    | .up =>
      if front < r.low then some ⟨((r.low : Int) - front).toNat, r.low, cms r.speed, .targetRestriction r.id⟩ else none
    | .down =>
      if (r.high : Int) < front then
        some ⟨(front - ((r.high : Int) + 1)).toNat, (r.high : Int) + 1, cms r.speed, .targetRestriction r.id⟩
      else none
  else none

/-- The targets in increasing distance: at one distance segments, then restrictions, then the coverage end (R69). -/
def targetsOf (e : EvalCopy) (t : List Segment) (dir : Sense) : List Target :=
  let front := frontMax e.position e.params.carLength dir
  let de := coverageDistance e front
  let reach := min e.params.horizon de
  sortBy (fun a b => decide (a.distance ≤ b.distance)) <|
    (boundariesAhead t front dir reach).map (fun b => ⟨b.distance, b.edge, cms b.limit, .targetSegment b.id⟩) ++
    (e.restrictions.filterMap (restrictionTarget front dir)).filter (fun q => decide (q.distance ≤ reach)) ++
    (if de ≤ e.params.horizon then [⟨de, coverageEdge e front, 0, .targetCoverageEnd⟩] else [])

/-! ## The braking curve -/

/-- The square of speed at which the curve speed is 1,200 and credit stops (R70). -/
def fullCredit : Nat := 1440000

/-- The square of speed after one more piece (R70). -/
def credit (e : EvalCopy) (dir : Sense) (v2 : Nat) (q : Piece) : Nat :=
  if fullCredit ≤ v2 ∨ effective e dir q ≤ 0 then v2 else v2 + (effective e dir q).toNat * q.length / 5

/-- The curve stretch of a target as its lower and its higher coordinate (R70). -/
def stretch (e : EvalCopy) (dir : Sense) (q : Target) : Int × Int :=
  let front := frontMax e.position e.params.carLength dir
  let reaction := e.v * e.params.reactionTime / 10
  match dir with
  | .up => (front + reaction, q.edge)
  | .down => (q.edge, front - reaction)

/-- Whether a target lies beyond the reaction distance, so that its pieces are examined (R70). -/
def examined (e : EvalCopy) (q : Target) : Bool := decide (e.v * e.params.reactionTime / 10 < q.distance)

/-- The pieces of a target's curve stretch (R70). -/
def stretchPieces (e : EvalCopy) (t : List Segment) (dir : Sense) (q : Target) : List Piece :=
  pieces t (stretch e dir q).1 (stretch e dir q).2

/-- The pieces in lane A's order, from the target back toward the car (R74). -/
def fromTarget (dir : Sense) (l : List Piece) : List Piece :=
  match dir with
  | .up => l.reverse
  | .down => l

/-- The pieces in lane B's order, from the car out toward the target (R74). -/
def fromCar (dir : Sense) (l : List Piece) : List Piece := (fromTarget dir l).reverse

/-- The curve speed of a target, with the pieces taken in a lane's order (R70). -/
def curveSpeed (order : Sense → List Piece → List Piece) (e : EvalCopy) (t : List Segment) (dir : Sense) (q : Target) :
    Nat :=
  if !examined e q then q.speed
  else
    let l := stretchPieces e t dir q
    if (piecesTotal l : Int) < (stretch e dir q).2 - (stretch e dir q).1 then q.speed
    else
      let v2 := (order dir l).foldl (credit e dir) (q.speed * q.speed)
      if fullCredit ≤ v2 then 1200 else isqrt v2

/-- CAPABILITY_SHORT over every piece of every target's stretch (R70). -/
def shortCapability (e : EvalCopy) (t : List Segment) (dir : Sense) (targets : List Target) : Bool :=
  targets.any fun q => examined e q && (stretchPieces e t dir q).any fun x => decide (effective e dir x ≤ 0)

/-! ## The lanes and the result -/

/-- A lane's running minimum, lowered by each curve speed in turn (R74). -/
def laneMinimum (start : Nat) (curves : List Nat) : Nat := curves.foldl min start

/-- Where the running minimum of either lane starts: min(L, C, 1,200) (R74). -/
def laneStart (bounds : List Bound) : Nat := laneMinimum 1200 (bounds.map (·.1))

/-- What one lane delivers: P, and for lane A what the record takes from it (R72, R74). -/
structure Assessment where
  p : Nat
  source : LimitingSource
  targets : Nat
  capabilityShort : Bool
  coverageShort : Bool
  coverageDetail : Nat
  deriving DecidableEq, Repr

/-- An outcome reached before any target is worked. -/
def Assessment.early (p : Nat) (source : LimitingSource) (coverageShort : Bool) : Assessment :=
  ⟨p, source, 0, false, coverageShort, 0⟩

/-- Whether an evaluation ends at a quick outcome, which asks the PST nothing (R66). -/
def quickOutcome (e : EvalCopy) : Option LimitingSource :=
  if e.direction = .neutral then some .neutral
  else if e.position.state = .unknown then some .unknown
  else if e.available = 0 then some .noChannel
  else none

/-- Whether the extent of the copy is wholly covered (R67). -/
def extentCovered (e : EvalCopy) (t : List Segment) : Bool :=
  covered t (extentLow e.position e.params.carLength) (extentHigh e.position e.params.carLength)

/-- Lane A's evaluation that reaches its targets (R69 to R74). -/
def assessTargets (e : EvalCopy) (t : List Segment) (dir : Sense) : Assessment :=
  let bounds := limitBounds e t dir ++ capBounds e
  let targets := targetsOf e t dir
  let curves := targets.map fun q => (curveSpeed fromTarget e t dir q, q.source)
  let p := laneMinimum (laneStart bounds) (curves.map (·.1))
  let front := frontMax e.position e.params.carLength dir
  { p := p
    source := ((lowest (bounds ++ curves ++ [(1200, .ceiling)])).map (·.2)).getD .ceiling
    targets := targets.length
    capabilityShort := shortCapability e t dir targets
    coverageShort := decide (coverageDistance e front ≤ e.params.horizon)
    coverageDetail := coverageDistance e front / 100 }

/-- Lane A's whole evaluation (R66 to R74). -/
def assess (e : EvalCopy) (t : List Segment) : Assessment :=
  match quickOutcome e, e.direction.sense with
  | some source, _ => .early 0 source false
  | none, none => .early 0 .neutral false
  | none, some dir =>
    if e.position.state = .lost then
      match lowest (limitBounds e t dir ++ capBounds e) with
      | some b => .early b.1 b.2 false
      | none => .early 1200 .ceiling false
    else if extentCovered e t then assessTargets e t dir
    else .early 0 .uncovered true

/-- Lane B's P: the targets in decreasing distance, each with its pieces from the car out (R74). -/
def laneB (e : EvalCopy) (t : List Segment) : Nat :=
  match quickOutcome e, e.direction.sense with
  | some _, _ => 0
  | none, none => 0
  | none, some dir =>
    let bounds := limitBounds e t dir ++ capBounds e
    if e.position.state = .lost then ((bounds.map (·.1)).min?).getD 1200
    else if extentCovered e t then
      laneMinimum (laneStart bounds) ((targetsOf e t dir).reverse.map fun q => curveSpeed fromCar e t dir q)
    else 0

/-! ## Recording and comparing -/

/-- The results of an evaluation on which the lanes agree, recorded and handed (R72, R78). DESIGN CHOICE: CAPABILITY_SHORT is
handed first, then COVERAGE_SHORT; the manual names no order (notes/assumptions/44.md). DESIGN CHOICE: CAPABILITY_SHORT's detail is the
available cog channel count of the evaluation's copy, whatever the count has become meanwhile (notes/assumptions/59.md). -/
def record (e : EvalCopy) (a : Assessment) (c : Car) : Car :=
  let before := c.ssv.record
  let c := { c with ssv := { c.ssv with record := { before with
    p := a.p, w := a.p + e.params.marginW, i := a.p + e.params.marginI, e := a.p + e.params.marginE
    source := a.source, targets := a.targets, capabilityShort := a.capabilityShort, coverageShort := a.coverageShort } } }
  levelChange .coverageShort before.coverageShort a.coverageShort a.coverageDetail
    (levelChange .capabilityShort before.capabilityShort a.capabilityShort e.available c)

/-- OVERSPEED_WARNING (R76). -/
def compareWarning (v : Nat) (c : Car) : Car :=
  let before := c.ssv.record.warning
  let warning := decide (c.ssv.record.w < v)
  levelChange .overspeedWarning before warning v
    { c with ssv := { c.ssv with record := { c.ssv.record with warning := warning } } }

/-- Intervention (R77). Under fault stop the record follows the car and no request is placed anew; a request that stands is
withdrawn by its own rule (R80). The INTERVENTION condition handed is the request's (notes/assumptions/30.md). -/
def compareIntervention (v : Nat) (c : Car) : Car :=
  let before := c.ssv.record.intervention
  let active := if before then decide (c.ssv.record.p < v) else decide (c.ssv.record.i < v)
  let request := active && (c.brk.intervention || (!before && !c.brk.faultStop))
  levelChange .intervention c.brk.intervention request c.ssv.record.p
    { c with
      ssv := { c.ssv with record := { c.ssv.record with intervention := active } }
      brk := { c.brk with intervention := request } }

/-- OVERSPEED (R78). -/
def compareOverspeed (v : Nat) (c : Car) : Car :=
  let before := c.ssv.record.overspeed
  let after := before || decide (c.ssv.record.e < v)
  causeChange .overspeed before after
    { c with ssv := { c.ssv with record := { c.ssv.record with overspeed := after } } }

/-- The supervision hold (R79); none is placed anew under fault stop (R80). -/
def compareHold (c : Car) : Car :=
  let r := c.ssv.record
  let hold :=
    if r.hold then decide (r.p = 0) else decide (r.p = 0) && c.odo.standstill && !c.brk.faultStop
  { c with ssv := { c.ssv with record := { r with hold := hold } } }

/-- The comparisons that follow an evaluation caused by an update (section 4.7). DESIGN CHOICE: they are made, and their events
handed, in the order of R76 to R79; the manual names no order (notes/assumptions/44.md). -/
def compare (v : Nat) (c : Car) : Car := compareHold (compareOverspeed v (compareIntervention v (compareWarning v c)))

/-! ## Start and end of an evaluation -/

/-- The fixed copy of its inputs that an evaluation takes (R65). -/
def takeInputs (c : Car) : EvalCopy where
  v := c.odo.fused
  direction := c.lif.demand.direction
  load := c.lif.demand.load
  position := c.odo.position
  available := c.brk.available
  radioLost := c.vrl.link == .lost
  meshShallow := c.odo.meshShallow
  degraded := c.odo.degraded
  restrictions := c.ssv.restrictions
  overflow := c.ssv.overflow
  saturated := c.ssv.saturated
  coverage := c.pst.coverage
  params := c.lif.params
  byUpdate := c.ssv.waiting.update

/-- An evaluation starts when causes wait and none runs (R65). -/
def evaluationStart (c : Car) : Car :=
  if c.ssv.waiting.cause ∧ c.ssv.running.isNone then
    { c with ssv := { c.ssv with running := some (takeInputs c), waiting := ⟨false, false⟩ } }
  else c

/-- The evaluation that runs ends: the lanes' P are compared (R75). `upset` replaces lane B's P when a failure of the part's
integrity has changed it. -/
def evaluationEnd (upset : Option Nat) (c : Car) : Car :=
  match c.ssv.running with
  | none => c
  | some e =>
    let c := { c with ssv := { c.ssv with running := none } }
    let c := if (quickOutcome e).isSome then c else readTable c
    let a := assess e c.pst.readable
    if a.p = upset.getD (laneB e c.pst.readable) then
      let c := record e a c
      if e.byUpdate then compare e.v c else c
    else reportFault .crosscheck c

end Sys2Proof.Machine
end

