-- ==== Sys2Proof/Machine/Radio.lean ====
section
/-! DEFINITION. The valley radio link: frames from the modem (R152), orders and their acknowledgements (R160 to R163), relays
(R164, R165), reports (R166, R167) and the modem (R153). -/

namespace Sys2Proof.Machine

/-! ## Reports -/

/-- A report queued for the valley (R166, R167). -/
def sendReport (r : Report) (c : Car) : Car := { c with vrl := c.vrl.queueReport c.lif.params.trainId r }

/-- A POSITION_REPORT's contents as they stand (R166). -/
def positionNow (number : Nat) (c : Car) : PositionReport where
  number := number
  carNumber := c.lif.sourceNumber
  stamp := c.now
  pos := c.odo.position.pos
  positionState := c.odo.position.state
  unc := c.odo.position.unc
  lastFix := c.odo.position.lastFix
  fused := c.odo.fused
  measured := c.odo.measured
  commanded := c.lif.demand.direction
  segment := containing c.pst.readable c.odo.position
  causeMask := causeMask c.brk.causes
  link := c.vrl.link
  faultStop := c.brk.faultStop

/-- A POSITION_REPORT queued, with the segment from the PST lookup (R166). -/
def reportPosition (number : Nat) (c : Car) : Car :=
  let c := readForExtent c
  sendReport (.position (positionNow number c)) c

/-- The modem frees the transmit and the next report, if any, is written at once (R153). -/
def freeTransmit (c : Car) : Car :=
  { c with vrl := { c.vrl with transmit := none }.pump c.lif.params.trainId }

/-- A send confirmation; one for a frame written before the last reset is ignored (R153, R169). -/
def sendConfirmed (stale : Bool) (c : Car) : Car := if stale ∨ c.vrl.transmit.isNone then c else freeTransmit c

/-- No confirmation has come 2 s after the write (R153). -/
def modemTimeout (c : Car) : Car :=
  match c.vrl.transmit with
  | some t =>
    if Limit.modem ≤ t.elapsed then freeTransmit { c with vrl := { c.vrl with modemTimeouts := bump c.vrl.modemTimeouts } }
    else c
  | none => c

/-- The report timer reaches 10 s (R166). -/
def reportExpiry (c : Car) : Car :=
  if c.vrl.role = .radio ∧ Timer.reached Limit.report c.vrl.reportTimer then
    reportPosition 0 { c with vrl := { c.vrl with reportTimer := some 0 } }
  else c

/-- The status timer reaches 1 s (R158, R168). DESIGN CHOICE: the RADIO STATUS takes its station id as it is placed; R158 and R174
fix the moment of the link state alone (notes/assumptions/46.md). -/
def statusExpiry (c : Car) : Car :=
  if c.vrl.role = .radio ∧ Timer.reached Limit.status c.vrl.statusTimer then
    let c := { c with vrl := { c.vrl with statusTimer := some 0 } }
    if c.brk.faultStop ∨ (c.lif.queue.any fun q => q.frame.isRadioStatus) = true then c
    else placeNonReply (.radioStatus c.vrl.station) c
  else c

/-! ## Executing an order -/

/-- A REMOTE STOP (R161, R112). -/
def remoteStop (number : Nat) (c : Car) : Result × Car :=
  let c := if c.brk.conditions.radioStop then c else causeStart .radioStop c
  (.accepted, { c with vrl := { c.vrl with stopNumber := some number } })

/-- A STOP RELEASE naming an order number (R161, R112). -/
def stopRelease (named : Nat) (c : Car) : Result × Car :=
  if c.brk.conditions.radioStop then
    if c.vrl.stopNumber = some named then
      let c := causeEnd .radioStop c
      (.accepted, { c with vrl := { c.vrl with stopNumber := none } })
    else (.state, c)
  else (.notFound, c)

/-- An order executed against the car's own blocks, with its number (R160 to R162, R165). -/
def executeOrder (o : Order) (number : Nat) (c : Car) : Result × Car :=
  match o with
  | .restrictionAdd id low high speed appliesTo => restrictionAdd id low high speed appliesTo (.radio number) c
  | .restrictionCancel id => restrictionCancel id c
  | .remoteStop => remoteStop number c
  | .stopRelease named => stopRelease named c
  | .segmentDelivery b => segmentArrival b c
  | .positionPoll => (.accepted, reportPosition number c)

/-! ## Recent orders and acknowledgements -/

/-- An entry at the newest end of the recent orders list (R163, R165). -/
def enterOrder (e : OrderEntry) (l : List OrderEntry) : List OrderEntry := (l ++ [e]).drop (l.length + 1 - 8)

/-- The outcome of a result (R160): SUCCESS or REFUSED. -/
def outcomeOf (kind : Nat) (r : Result) : Bool :=
  r == .accepted || r == .acceptedClamped || (r == .notFound && (kind == 2 || kind == 4))

/-- An ORDER_ACK queued (R160, R163, R166). -/
def acknowledge (number kind : Nat) (r : Result) (duplicate : Bool) (relay : RelayState) (c : Car) : Car :=
  sendReport (.ack number r (outcomeOf kind r) duplicate relay) c

/-- A relay placed in the originate queue, which takes or refuses it (R164). -/
def placeRelay (kind number : Nat) (body : List Byte) (c : Car) : RelayState × Car :=
  (if c.lif.nonReplyRoom then .placed else .dropped, placeNonReply (.radioRelay kind number body) c)

/-- An order entered in the recent orders list (R163). -/
def enter (e : OrderEntry) (c : Car) : Car := { c with vrl := { c.vrl with recent := enterOrder e c.vrl.recent } }

/-- A new order executed, relayed, entered and acknowledged (R160). -/
def runOrder (o : Order) (number : Nat) (body : List Byte) (c : Car) : Car :=
  let kind := orderCode o
  let (result, c) := executeOrder o number c
  let (relay, c) := if kind = 6 ∨ result = .faultStop then (RelayState.none, c) else placeRelay kind number body c
  occur .orderExecuted number (acknowledge number kind result false relay (enter ⟨number, kind, body, result, relay⟩ c))

/-- A duplicate order (R163): answered from its entry, its relay placed again when it was dropped. -/
def repeatOrder (e : OrderEntry) (c : Car) : Car :=
  let (relay, c) := if e.relay = .dropped then placeRelay e.kind e.number e.body c else (e.relay, c)
  let c := { c with vrl := { c.vrl with
    recent := c.vrl.recent.map fun x => if x.number = e.number then { x with relay := relay } else x } }
  acknowledge e.number e.kind e.result true relay c

/-- An order handled in the radio car (R160). -/
def handleOrder (f : RadioFrame) (c : Car) : Car :=
  if c.brk.faultStop ∨ f.number = 0 then c
  else if !orderKind f.kind then acknowledge f.number f.kind .unknownKind false .none c
  else
    match c.vrl.recent.find? fun e => e.number == f.number with
    | some e => repeatOrder e c
    | none =>
      match parseOrder f.kind f.body with
      | none => acknowledge f.number f.kind .range false .none (enter ⟨f.number, f.kind, f.body, .range, .none⟩ c)
      | some o => runOrder o f.number f.body c

/-! ## Frames from the modem and relays -/

/-- A received frame when it is valid (R152). -/
def validFrame (train : Nat) (bytes : List Byte) : Option RadioFrame :=
  match parseRadio bytes with
  | some f => if f.train = train ∧ train ≠ 0 ∧ 1 ≤ f.station ∧ f.station ≤ 4 then some f else none
  | none => none

/-- A frame the modem delivers (R151, R152). -/
def radioReceived (bytes : List Byte) (c : Car) : Car :=
  if c.vrl.role = .follower then c
  else
    match validFrame c.lif.params.trainId bytes with
    | none => { c with vrl := { c.vrl with invalidFrames := bump c.vrl.invalidFrames } }
    | some f =>
      let c := hearFrame { c with vrl := { c.vrl with station := f.station } }
      if plainKind f.kind then c else handleOrder f c

/-- A RADIO RELAY handed to the VRL (R151, R165). -/
def takeRelay (kind number : Nat) (body : List Byte) (c : Car) : Car :=
  if c.vrl.role = .radio ∨ (c.vrl.recent.any fun e => e.number == number) = true then c
  else
    match parseOrder kind body with
    | none => c
    | some .positionPoll => c
    | some o =>
      let (result, c) := executeOrder o number c
      occur .orderExecuted number (enter ⟨number, kind, [], result, .none⟩ c)

end Sys2Proof.Machine
end

