-- ==== Sys2Proof/Machine/Parameters.lean ====
section
/-! DEFINITION. The parameter index (R184) with PARAMETER SET (R183) and PARAMETER READ (R185), and what each block does with
a changed value (R30, R53, R60, R64, R73). -/

namespace Sys2Proof.Machine

/-- The kinds of track the capability parameters distinguish (R71). -/
inductive Grip where
  | rack | adhesion
  deriving DecidableEq, Repr

/-- The parameters of the index (R184). `capability` is named by grip, whether one channel or two are available, and load. -/
inductive Parameter where
  | thresholdMode (ch : LoopChannel)
  | offsetF (ch : LoopChannel)
  | offsetO (ch : LoopChannel)
  | mountingSense (ch : LoopChannel)
  | i0Min
  | i0Span
  | pitch (ch : LoopChannel)
  | carLength
  | drift
  | uMax
  | setUnc
  | markerTol
  | reactionTime
  | horizon
  | marginW
  | marginI
  | marginE
  | radioCap
  | meshCap
  | degradedCap
  | lostCap
  | capability (grip : Grip) (both : Bool) (load : LoadClass)
  | platformOverride
  | tRs
  | tShadowMax
  | trainId
  deriving DecidableEq, Repr

/-- The channel an id names within a run of four (R184). -/
def channelAt : Nat → LoopChannel
  | 0 => .cogA
  | 1 => .cogB
  | 2 => .wheelA
  | _ => .wheelB

/-- The load class an id names within a run of three (R184). -/
def loadAt : Nat → LoadClass
  | 0 => .empty
  | 1 => .half
  | _ => .full

/-- The parameter an id names (R184). -/
def Parameter.ofId (n : Nat) : Option Parameter :=
  if 1 ≤ n ∧ n ≤ 4 then some (.thresholdMode (channelAt (n - 1)))
  else if 5 ≤ n ∧ n ≤ 8 then some (.offsetF (channelAt (n - 5)))
  else if 9 ≤ n ∧ n ≤ 12 then some (.offsetO (channelAt (n - 9)))
  else if 13 ≤ n ∧ n ≤ 16 then some (.mountingSense (channelAt (n - 13)))
  else if 20 ≤ n ∧ n ≤ 23 then some (.pitch (channelAt (n - 20)))
  else if 48 ≤ n ∧ n ≤ 50 then some (.capability .rack true (loadAt (n - 48)))
  else if 51 ≤ n ∧ n ≤ 53 then some (.capability .rack false (loadAt (n - 51)))
  else if 54 ≤ n ∧ n ≤ 56 then some (.capability .adhesion true (loadAt (n - 54)))
  else if 57 ≤ n ∧ n ≤ 59 then some (.capability .adhesion false (loadAt (n - 57)))
  else
    match n with
    | 17 => some .i0Min
    | 18 => some .i0Span
    | 24 => some .carLength
    | 25 => some .drift
    | 26 => some .uMax
    | 27 => some .setUnc
    | 28 => some .markerTol
    | 32 => some .reactionTime
    | 33 => some .horizon
    | 34 => some .marginW
    | 35 => some .marginI
    | 36 => some .marginE
    | 37 => some .radioCap
    | 38 => some .meshCap
    | 39 => some .degradedCap
    | 40 => some .lostCap
    | 64 => some .platformOverride
    | 72 => some .tRs
    | 73 => some .tShadowMax
    | 74 => some .trainId
    | _ => none

/-- The range of a parameter (R184). -/
def Parameter.range : Parameter → Nat × Nat
  | .thresholdMode _ | .mountingSense _ | .platformOverride => (0, 1)
  | .offsetF _ | .offsetO _ => (0, 150)
  | .i0Min => (20, 100)
  | .i0Span => (0, 80)
  | .pitch _ => (1000, 20000)
  | .carLength => (1000, 4000)
  | .drift => (0, 50)
  | .uMax => (1000, 10000)
  | .setUnc => (50, 1000)
  | .markerTol => (20, 500)
  | .reactionTime => (5, 30)
  | .horizon => (20000, 200000)
  | .marginW | .marginI | .marginE => (0, 100)
  | .radioCap | .meshCap | .degradedCap | .lostCap => (0, 40)
  | .capability .. => (0, 6000)
  | .tRs => (2, 30)
  | .tShadowMax => (30, 600)
  | .trainId => (0, 65535)

/-- Whether a parameter's values are named (R183). -/
def Parameter.named : Parameter → Bool
  | .thresholdMode _ | .mountingSense _ | .platformOverride => true
  | _ => false

def boolCode (b : Bool) : Nat := if b then 1 else 0

/-- The capability table a grip and a channel count select (R71). -/
def Params.table (p : Params) : Grip → Bool → PerLoad Nat
  | .rack, true => p.rack2
  | .rack, false => p.rack1
  | .adhesion, true => p.adhesion2
  | .adhesion, false => p.adhesion1

/-- The value in force (R185). -/
def Params.value (p : Params) : Parameter → Nat
  | .thresholdMode ch => boolCode (p.fixedMode.get ch)
  | .offsetF ch => p.offsetF.get ch
  | .offsetO ch => p.offsetO.get ch
  | .mountingSense ch => boolCode (p.reversed.get ch)
  | .i0Min => p.i0Min
  | .i0Span => p.i0Span
  | .pitch ch => p.pitch.get ch
  | .carLength => p.carLength
  | .drift => p.drift
  | .uMax => p.uMax
  | .setUnc => p.setUnc
  | .markerTol => p.markerTol
  | .reactionTime => p.reactionTime
  | .horizon => p.horizon
  | .marginW => p.marginW
  | .marginI => p.marginI
  | .marginE => p.marginE
  | .radioCap => p.radioCap
  | .meshCap => p.meshCap
  | .degradedCap => p.degradedCap
  | .lostCap => p.lostCap
  | .capability grip both load => (p.table grip both).get load
  | .platformOverride => boolCode p.platformOverride
  | .tRs => p.tRs
  | .tShadowMax => p.tShadowMax
  | .trainId => p.trainId

/-- A value installed (R183). -/
def Params.install (p : Params) (q : Parameter) (v : Nat) : Params :=
  match q with
  | .thresholdMode ch => { p with fixedMode := p.fixedMode.set ch (v == 1) }
  | .offsetF ch => { p with offsetF := p.offsetF.set ch v }
  | .offsetO ch => { p with offsetO := p.offsetO.set ch v }
  | .mountingSense ch => { p with reversed := p.reversed.set ch (v == 1) }
  | .i0Min => { p with i0Min := v }
  | .i0Span => { p with i0Span := v }
  | .pitch ch => { p with pitch := p.pitch.set ch v }
  | .carLength => { p with carLength := v }
  | .drift => { p with drift := v }
  | .uMax => { p with uMax := v }
  | .setUnc => { p with setUnc := v }
  | .markerTol => { p with markerTol := v }
  | .reactionTime => { p with reactionTime := v }
  | .horizon => { p with horizon := v }
  | .marginW => { p with marginW := v }
  | .marginI => { p with marginI := v }
  | .marginE => { p with marginE := v }
  | .radioCap => { p with radioCap := v }
  | .meshCap => { p with meshCap := v }
  | .degradedCap => { p with degradedCap := v }
  | .lostCap => { p with lostCap := v }
  | .capability .rack true load => { p with rack2 := p.rack2.set load v }
  | .capability .rack false load => { p with rack1 := p.rack1.set load v }
  | .capability .adhesion true load => { p with adhesion2 := p.adhesion2.set load v }
  | .capability .adhesion false load => { p with adhesion1 := p.adhesion1.set load v }
  | .platformOverride => { p with platformOverride := v == 1 }
  | .tRs => { p with tRs := v }
  | .tShadowMax => { p with tShadowMax := v }
  | .trainId => { p with trainId := v }

/-- The clamps of a numeric value: to its range, and then as its chapter states (R60, R73, R183). -/
def Params.clamp (p : Params) (q : Parameter) (v : Nat) : Nat :=
  let v := max q.range.1 (min q.range.2 v)
  match q with
  | .carLength => v - v % 2
  | .marginW => min v p.marginI
  | .marginI => max p.marginW (min v p.marginE)
  | .marginE => max v p.marginI
  | _ => v

/-- What the owning block does with a changed value (R30, R53, R60, R64, R82). DESIGN CHOICE: a new I0_min or I0_span works the
thresholds of the four channels out in the order COG_A, COG_B, WHEEL_A, WHEEL_B; R30 names no order
(notes/assumptions/51.md). -/
def applyParameter (q : Parameter) (c : Car) : Car :=
  match q with
  | .thresholdMode ch | .offsetF ch | .offsetO ch => reworkLoop ch (c.tlf.get ch) c
  | .i0Min | .i0Span => LoopChannel.list.foldl (fun c ch => reworkLoop ch (c.tlf.get ch) c) c
  | .carLength => ssvCause (refreshCoverage c)
  | .drift | .uMax => rejudgeUncertainty c
  | .reactionTime | .horizon | .marginW | .marginI | .marginE | .radioCap | .meshCap | .degradedCap | .lostCap
  | .capability .. => ssvCause c
  | .mountingSense _ | .pitch _ | .setUnc | .markerTol | .platformOverride | .tRs | .tShadowMax | .trainId => c

/-- A value after clamping installed and handed to the owning block, which acts on a change. -/
def installParameter (q : Parameter) (v : Nat) (c : Car) : Car :=
  let before := c.lif.params.value q
  let c := { c with lif := { c.lif with params := c.lif.params.install q v } }
  if before = v then c else applyParameter q c

/-- Whether the feedback reading of both cog brake channels is APPLIED (R138, R183). -/
def bothApplied (c : Car) : Bool := c.brk.channels.cbA.reading == .applied && c.brk.channels.cbB.reading == .applied

/-- PARAMETER SET (R183). -/
def parameterSet (id v : Nat) (c : Car) : Result × Car :=
  match Parameter.ofId id with
  | none => (.range, c)
  | some q =>
    if !c.odo.standstill then (.notStandstill, c)
    else if !bothApplied c then (.brakes, c)
    else if q.named ∧ 1 < v then (.range, c)
    else
      let w := c.lif.params.clamp q v
      if w = v then (.accepted, installParameter q w c)
      else (.acceptedClamped, occur .parameterClamped id (installParameter q w c))

/-- PARAMETER READ (R185). -/
def parameterRead (id : Nat) (c : Car) : Result × ReplyData :=
  match Parameter.ofId id with
  | none => (.range, .none)
  | some q => (.accepted, .parameter id (c.lif.params.value q) q.range.1 q.range.2 (Params.reset.value q))

end Sys2Proof.Machine
end

