-- ==== Sys2Proof/Machine/Telegrams.lean ====
section
/-! DEFINITION. Telegram acceptance (R177, R188) and the telegrams whose work no other file does: DRIVER DEMAND (R181), the
door telegrams (R138, R140), the event telegrams (R191, R194), STATUS READ (R186) and RESTART (R187). -/

namespace Sys2Proof.Machine

/-! ## The driver demand and line loss -/

/-- A DRIVER DEMAND's fields as an image, none when one is out of range (R181). -/
def demandOf (direction level release load : Nat) : Option DriverDemand :=
  match Direction.ofCode direction, LoadClass.ofCode load with
  | some d, some l => if level ≤ 7 ∧ release ≤ 1 then some ⟨d, level, release == 1, l⟩ else none
  | _, _ => none

/-- A new image taken: the line-loss timer restarts, each changed field is handed, and LINE_LOSS ends with them (R181,
R182). DESIGN CHOICE: R181 gives no order to what one DRIVER DEMAND hands on; the direction goes first, whose coverage recompute can
enter fault stop, and the copy with the end of LINE_LOSS last, so that such an entry's fault record (R127) shows LINE_LOSS with its
condition-present flag still set (notes/assumptions/70.md). -/
def takeDemand (d : DriverDemand) (c : Car) : Car :=
  let before := c.lif.demand
  let loss := c.lif.lineLoss
  let c := { c with lif := { c.lif with demand := d, lineLossTimer := some 0, lineLoss := false } }
  let c := if before.direction = d.direction then c else commandChanged d.direction c
  let c := if before.load = d.load then c else ssvCause c
  let c := if before.level = d.level ∧ before.release = d.release ∧ loss = false then c else takeCopy c
  causeChange .lineLoss loss false (levelChange .lineLoss loss false 0 c)

/-- DRIVER DEMAND (R181). -/
def driverDemand (direction level release load : Nat) (c : Car) : Result × Car :=
  match demandOf direction level release load with
  | none => (.range, c)
  | some d => (.accepted, takeDemand d c)

/-- The line-loss timer reaches 1.0 s (R182). A valid DRIVER DEMAND taken first has started the timer again, so the expiry of
the same moment starts nothing; taken after it, the telegram ends the LINE_LOSS it finds. DESIGN CHOICE: the start of LINE_LOSS
is handed to the EVR first and then to the BRK's cause set (notes/assumptions/53.md). -/
def lineLossExpiry (c : Car) : Car :=
  if Timer.reached Limit.lineLoss c.lif.lineLossTimer then
    let before := c.lif.lineLoss
    let c := takeCopy { c with lif := { c.lif with lineLossTimer := none, lineLoss := true } }
    causeChange .lineLoss before true (levelChange .lineLoss before true 0 c)
  else c

/-! ## Door telegrams -/

/-- Whether one platform of a side spans the whole extent (R138). -/
def spansExtent (c : Car) (side : Side) : Bool :=
  let lo := extentLow c.odo.position c.lif.params.carLength
  let hi := extentHigh c.odo.position c.lif.params.carLength
  (platformsOver c.pst.readable c.odo.position c.lif.params.carLength).any fun q =>
    q.platform.side.serves side && q.platform.spans lo hi

/-- A release granted: the side record and the effect on the side's leaves (R138, R139). -/
def grantRelease (side : Side) (autoOpen waived : Bool) (c : Car) : Car :=
  let d := { c.dor with
    sides := c.dor.sides.set side
      { release := some c.now, autoOpen := autoOpen, overrideUsed := waived, step := .none, warning := none } }
  { c with dor := side.leaves.foldl (Dor.actOrDefer · .release ·) d }

/-- A DOOR RELEASE for a side judged against the interlocks (R138). A release whose platform lookup ends in fault stop is not
granted (R149; notes/assumptions/31.md). -/
def judgeRelease (side : Side) (autoOpen noPlatform : Bool) (c : Car) : Result × Car :=
  if !c.odo.standstill then (.notStandstill, c)
  else if !bothApplied c then (.brakes, c)
  else if c.odo.position.state ≠ .known then (.position, c)
  else if noPlatform && c.lif.params.platformOverride then (.accepted, grantRelease side autoOpen true c)
  else
    let c := readForExtent c
    if !spansExtent c side then (.platform, c)
    else if c.brk.faultStop then (.faultStop, c)
    else (.accepted, grantRelease side autoOpen false c)

/-- The reason code of a refused release (R138). DESIGN CHOICE: RANGE, and the FAULT_STOP of a release whose own lookup enters fault
stop, have none, so that no DOOR_RELEASE_REFUSED occurs for them (notes/assumptions/71.md). -/
def refusalCode : Result → Option Nat
  | .notStandstill => some 1
  | .brakes => some 2
  | .position => some 3
  | .platform => some 4
  | _ => none

/-- DOOR_RELEASE_REFUSED for a refusal of a release sent to a group or to the whole train (R138). -/
def handRefusal (addressing : Addressing) (side : Side) (r : Result) (c : Car) : Car :=
  match addressing, refusalCode r with
  | .car, _ => c
  | _, some n => occur .doorReleaseRefused (side.number * 256 + n) c
  | _, none => c

/-- DOOR RELEASE (R138). DESIGN CHOICE: another side sent to a group or the whole train is refused and makes no event occur, since
R138 gives RANGE no reason code (notes/assumptions/71.md). -/
def doorRelease (addressing : Addressing) (side : Nat) (autoOpen noPlatform : Bool) (c : Car) : Result × Car :=
  match Side.ofCode side with
  | none => (.range, c)
  | some s =>
    let r := judgeRelease s autoOpen noPlatform c
    (r.1, handRefusal addressing s r.1 r.2)

/-- DOOR CLOSE (R140). -/
def doorClose (side : Nat) (c : Car) : Result × Car :=
  match closeSides side with
  | none => (.range, c)
  | some sides => (.accepted, { c with dor := sides.foldl Dor.closeSide c.dor })

/-! ## Event telegrams -/

/-- The source records with those that a mask names changed. DESIGN CHOICE: bit n of the 32-bit mask, the one of value 2 to the n, names
source n; R191 and R179 do not say which bit names which source (notes/assumptions/68.md). -/
def Evr.masked (e : Evr) (mask : Nat) (f : Nat → SourceRecord → SourceRecord) : Evr :=
  { e with sources := e.sources.zipIdx.map fun r => if mask.testBit r.2 then f r.2 r.1 else r.1 }

/-- EVENT ENABLE SET and EVENT ENABLE CLEAR (R191). -/
def eventEnable (mask : Nat) (enable : Bool) (c : Car) : Car :=
  { c with evr := c.evr.masked mask fun _ r => { r with enable := enable } }

/-- EVENT LEVEL SET (R191). -/
def eventLevelSet (source level route : Nat) (c : Car) : Result × Car :=
  match Route.ofCode route with
  | none => (.range, c)
  | some rt =>
    if 31 < source ∨ 15 < level then (.range, c)
    else (.accepted, { c with evr := c.evr.modify source fun r => { r with level := level, route := rt } })

/-- EVENT CLEAR (R191): the flags of edge sources alone. -/
def eventClear (mask : Nat) (c : Car) : Car :=
  { c with evr := c.evr.masked mask fun n r => if levelSource n then r else { r with pending := false } }

/-- NOTICE POLL (R194): up to four notices leave in one NOTICE BATCH, in the place reserved for it. -/
def noticePoll (seq : Nat) (c : Car) : Car :=
  let batch := Frame.noticeBatch seq (c.evr.notices.take 4) (c.evr.sources.map SourceRecord.pending)
  { c with
    evr := { c.evr with notices := c.evr.notices.drop 4 }
    lif := { c.lif with reservedReplies := 0, reservedBatch := 0 }.append c.vrl.link [batch] }

/-! ## STATUS READ -/

/-- The page of a number with the parts it is answered in (R186). -/
def statusPage (page : Nat) (c : Car) : Option (StatusPage × Nat) :=
  match page with
  | 1 => some (.line c.lif.carNumber c.lif.cabSide c.lif.demand c.lif.lineLoss c.lif.occupancy c.lif.groups, 1)
  | 2 => some (.profile c.pst.table.length (pinnedCount c.pst.table) c.pst.coverage, 1)
  | 3 => some (.loops (c.tlf.map TlfChannel.state), 1)
  | 4 => some (.odometry c.odo.fused c.odo.measured c.odo.standstill c.odo.position c.odo.rollbackDist c.odo.rollback
      c.odo.meshShallow c.odo.meshLoss c.odo.degraded c.odo.lost c.odo.markerErrors, 1)
  | 5 => some (.supervision c.ssv.record, 1)
  | 6 => some (.restrictions c.ssv.restrictions.length c.ssv.overflow c.ssv.saturated
      (overflowCap c.ssv.overflow c.ssv.saturated), 1)
  | 7 => some (.brakes c.brk.channels c.brk.available c.brk.causes (causeMask c.brk.causes) c.brk.standstillSince
      c.ssv.record.hold c.brk.doorHold c.brk.intervention c.brk.copy c.brk.holdPending c.brk.svcLevel
      c.brk.tractionOk, 2)
  | 8 => some (.brakeTest c.brk.test c.brk.holdPending c.brk.results c.brk.faultStop, 1)
  | 9 => some (.doors c.dor.leaves c.dor.sides c.dor.proven c.dor.hold c.dor.condition, 3)
  | 10 => some (.radio c.vrl.role c.vrl.link c.vrl.supervision c.vrl.shadow c.vrl.follower c.vrl.station c.vrl.stopNumber
      (c.vrl.recent.map fun e => (e.number, e.kind, e.result, e.relay)) c.vrl.reports.length c.vrl.transmit.isSome
      c.vrl.reportTimer c.vrl.statusTimer c.vrl.invalidFrames c.vrl.lostReports c.vrl.modemTimeouts, 2)
  | 11 => some (.events c.evr.sources c.evr.notices.length c.evr.lost, 2)
  | _ => none

/-- STATUS READ: the result and the parts; each part is named by the whole page (notes/assumptions/9.md). -/
def statusRead (page : Nat) (c : Car) : Result × List ReplyData :=
  match statusPage page c with
  | none => (.range, [.none])
  | some (p, parts) => (.accepted, List.replicate parts (.status p))

/-- FAULT RECORD READ (R130, R180). -/
def faultRecordRead (c : Car) : List ReplyData :=
  List.replicate (if c.brk.faultRecord.isSome then 2 else 1)
    (.faultRecord c.brk.faultStop c.brk.faultRecord.isSome c.brk.faultRecord)

/-! ## RESTART -/

/-- The level sources whose condition is present (R190, R195). -/
def presentLevels (c : Car) : List Source :=
  [(Source.overspeedWarning, c.ssv.record.warning), (.intervention, c.brk.intervention),
    (.capabilityShort, c.ssv.record.capabilityShort), (.coverageShort, c.ssv.record.coverageShort),
    (.meshShallow, c.odo.meshShallow), (.odometryDegraded, c.odo.degraded), (.rollback, c.odo.rollback),
    (.doorsProven, c.dor.proven), (.restrictionOverflow, !c.ssv.overflow.isEmpty), (.lineLoss, c.lif.lineLoss)].filterMap
    fun x => if x.2 then some x.1 else none

/-- The EVR's RESTART state (R195). -/
def restartEvr (c : Car) : Car :=
  let present := (presentLevels c).map Source.number
  { c with evr := { c.evr with
      notices := []
      sources := c.evr.sources.zipIdx.map fun r => { r.1 with pending := decide (r.2 ∈ present) } } }

/-- The SSV's RESTART state, with each condition and request that ends handed (R81, R93). An evaluation that runs is
discarded, and the evaluation that the restart causes is followed by no comparison, since the first one after a reset is made
at the first odometry update after it (R81). -/
def restartSsv (c : Car) : Car :=
  let before := c.ssv
  let p := c.lif.params
  let interventionBefore := c.brk.intervention
  let c := { c with
    ssv := { Ssv.reset with record := .reset p.marginW p.marginI p.marginE }
    brk := { c.brk with intervention := false } }
  let c := levelChange .overspeedWarning before.record.warning false 0 c
  let c := levelChange .intervention interventionBefore false 0 c
  let c := levelChange .capabilityShort before.record.capabilityShort false 0 c
  let c := levelChange .coverageShort before.record.coverageShort false 0 c
  let c := causeChange .overspeed before.record.overspeed false c
  handOverflow before.overflow c

/-- The ODO's and the PST's RESTART state (R62, R22). -/
def restartOdo (c : Car) : Car :=
  let rolled := c.odo.rollback
  let c := { c with
    odo := { c.odo with travelRef := none, position := .reset, rollbackDist := 0, rollback := false }
    pst := { c.pst with table := [], coverage := none } }
  causeChange .rollback rolled false (levelChange .rollback rolled false 0 c)

/-- The VRL's RESTART state (R169); the entering of LOST is handed to the SSV. -/
def restartVrl (c : Car) : Car :=
  let timer : Timer := if c.vrl.role = .radio then some 0 else none
  setLink .lost { c with vrl := { c.vrl with
    supervision := none, shadow := none, shadowStands := false, follower := none, station := 0, stopNumber := none
    recent := [], reports := [], transmit := none, statusTimer := timer, reportTimer := timer } }

/-- The DOR's RESTART state: what a reset leaves, with the poll turn and its timer kept (R150). DESIGN CHOICE: a poll that is
due and not yet started stays due (notes/assumptions/50.md). -/
def restartDor (c : Car) : Car :=
  { c with dor := { Dor.reset (c.dor.leaves.map LeafRecord.contactClosed) with
      turn := c.dor.turn, due := c.dor.due, pollTimer := c.dor.pollTimer
      proven := c.dor.proven, hold := c.dor.hold, condition := c.dor.condition } }

/-- The BRK's RESTART: RADIO_STOP absent, and RESET added with the time stamp of the RESTART, which ends a brake test (R117,
R131). -/
def restartBrk (c : Car) : Car := addCause .reset false (causeEnd .radioStop c)

/-- The LIF's RESTART: the image's direction NEUTRAL and its load class FULL, each change handed (R187). -/
def restartLif (c : Car) : Car :=
  let before := c.lif.demand
  let c := { c with lif := { c.lif with demand := { before with direction := .neutral, load := .full } } }
  let c := if before.direction = .neutral then c else commandChanged .neutral c
  if before.load = .full then c else ssvCause c

/-- RESTART handed to every block (R187). DESIGN CHOICE: R187 gives the blocks no order; the model takes the EVR first and the BRK last,
so an alarm of the BRAKE_TEST_RESULT of a test that the RESTART ends meets the report queue and the modem as R169 leaves them
(notes/assumptions/26.md, notes/assumptions/67.md). -/
def restartBlocks (c : Car) : Car :=
  restartBrk (restartDor (restartVrl (restartOdo (restartSsv (restartLif (restartEvr c))))))

/-- The judgement of RESTART (R187). -/
def restartResult (c : Car) : Result :=
  if !c.odo.standstill then .notStandstill else if !causesEmpty c.brk.causes then .emergencyActive else .accepted

/-! ## Handing a telegram to its block -/

/-- A block's result answered in a one-part REPLY (R177, R180). -/
def reply (via : Via) (kind : Nat) (r : Result × Car) : Car := answer via kind r.1 [.none] r.2

/-- A brake test telegram's reply, with the record as the telegram and the arbitration that follows it leave it (R118). -/
def testReply (via : Via) (kind : Nat) (r : Result × Car) : Car :=
  let c := settle r.2
  answer via kind r.1 [.brakeTest c.brk.test c.brk.holdPending c.brk.results] c

/-- A telegram handed to its owning block, and the answer to one addressed to the car (R177, step 7). DESIGN CHOICE: R38, R130, R180
and R186 name no result code for the answers that report what is read; FAULT READ, FAULT RECORD READ, with or without a record held,
and STATUS READ of a page from 1 to 11 are answered ACCEPTED (notes/assumptions/63.md). -/
def deliver (via : Via) (t : Telegram) (c : Car) : Car :=
  match t with
  | .driverDemand direction level release load => reply via 2 (driverDemand direction level release load c)
  | .positionSet position => reply via 3 (positionSet position c)
  | .emergency => reply via 4 (.accepted, addCause .cabEmergency false c)
  | .emergencyRelease mask =>
    let r := emergencyRelease mask c
    answer via 5 r.1 [if r.1 = .accepted then .causes (causeRecords r.2.brk.causes) (causeMask r.2.brk.causes) else .none] r.2
  | .doorRelease side autoOpen noPlatform => reply via 8 (doorRelease via.addressing side autoOpen noPlatform c)
  | .doorClose side => reply via 9 (doorClose side c)
  | .testOn => testReply via 12 (testOn c)
  | .testOff => testReply via 13 (testOff c)
  | .select channel => testReply via 14 (selectChannel channel c)
  | .deselect => testReply via 15 (deselect c)
  | .testRelease => testReply via 16 (testCommand .release c)
  | .testApply => testReply via 17 (testCommand .apply c)
  | .segmentLoad body => reply via 20 (segmentArrival body c)
  | .segmentRemove id => reply via 21 (segmentRemove id c)
  | .pinWindowSet window valid value mask => reply via 22 (pinWindowSet window valid value mask c)
  | .restrictionAdd id low high speed appliesTo => reply via 24 (restrictionAdd id low high speed appliesTo .cab c)
  | .restrictionCancel id => reply via 25 (restrictionCancel id c)
  | .parameterSet id value => reply via 28 (parameterSet id value c)
  | .parameterRead id => answer via 29 (parameterRead id c).1 [(parameterRead id c).2] c
  | .statusRead page => answer via 30 (statusRead page c).1 (statusRead page c).2 c
  | .faultRead => answer via 31 .accepted (faultRead c).1 (faultRead c).2
  | .faultRecordRead => answer via 32 .accepted (faultRecordRead c) c
  | .groupSet entry valid value mask => reply via 33 (groupSet entry valid value mask c)
  | .restart =>
    let r := restartResult c
    let c := answer via 34 r [.none] c
    if r = .accepted then restartBlocks c else c
  | .eventEnableSet mask => reply via 36 (.accepted, eventEnable mask true c)
  | .eventEnableClear mask => reply via 37 (.accepted, eventEnable mask false c)
  | .eventLevelSet source level route => reply via 38 (eventLevelSet source level route c)
  | .eventClear mask => reply via 39 (.accepted, eventClear mask c)
  | .noticePoll => noticePoll via.seq c
  | .radioRelay kind number body => takeRelay kind number body c
  | .radioStatus link station => takeRadioStatus (LinkState.ofCode link) station c

/-! ## Telegram acceptance -/

/-- The reply places reserved for the answer to a kind (R177, step 3). -/
def placesFor (kind : Nat) : Nat := if kind = 31 then 4 else if kind = 30 then 3 else if kind = 32 then 2 else 1

/-- Places reserved for the answer to a telegram addressed to the car; `none` when there are too few (R177, R188). A NOTICE
POLL outside fault stop reserves one non-reply place. -/
def reserve (kind : Nat) (c : Car) : Option Car :=
  if kind = 40 ∧ c.brk.faultStop = false then
    if c.lif.nonReplyRoom then some { c with lif := { c.lif with reservedBatch := c.lif.reservedBatch + 1 } } else none
  else if placesFor kind ≤ c.lif.freePlaces then
    some { c with lif := { c.lif with reservedReplies := c.lif.reservedReplies + placesFor kind } }
  else none

/-- The data of an answer that the acceptance makes itself: each reply to a brake test telegram carries the brake test fields
(R118). DESIGN CHOICE: the others carry a result and no data (notes/assumptions/49.md). -/
def answerData (kind : Nat) (c : Car) : ReplyData :=
  if 12 ≤ kind ∧ kind ≤ 17 then .brakeTest c.brk.test c.brk.holdPending c.brk.results else .none

/-- Steps 4 to 7 of R177 for a copy addressed to the car, with its places reserved. -/
def acceptCar (via : Via) (kind : Nat) (t : Option Telegram) (c : Car) : Car :=
  if !knownKind kind then answer via kind .unknownKind [answerData kind c] c
  else if !takenByCar kind then answer via kind .state [answerData kind c] c
  else
    match t with
    | none => answer via kind .range [answerData kind c] c
    | some t => deliver via t c

/-- Steps 4 to 7 of R177 for a copy that came by group or broadcast. -/
def acceptTrain (via : Via) (kind : Nat) (t : Option Telegram) (c : Car) : Car :=
  match takenUnder kind via.addressing, t with
  | true, some t => deliver via t c
  | _, _ => c

/-- The kinds of R177, step 1, that carry nothing for this car. -/
def relayedOnly (kind : Nat) : Bool := kind ∈ [1, 48, 49, 50]

/-- Whether the car's telegrams are answered FAULT_STOP: fault stop is in force and the kind is neither STATUS READ nor
FAULT RECORD READ (R188). -/
def shutOut (kind : Nat) (c : Car) : Bool := c.brk.faultStop && !(kind == 30 || kind == 32)

/-- Telegram acceptance of a well-formed copy (R177, R188), with its payload judged as a telegram (`none` when its length does
not fit). An UNNUMBERED car takes none (R175). -/
def accept (via : Via) (kind : Nat) (t : Option Telegram) (c : Car) : Car :=
  if c.lif.carNumber.isNone ∨ relayedOnly kind then c
  else
    match via.addressing with
    | .car =>
      match reserve kind c with
      | none => occur .originateFull (256 + kind) c
      | some c => if shutOut kind c then answer via kind .faultStop [answerData kind c] c else acceptCar via kind t c
    | _ => if c.brk.faultStop then c else acceptTrain via kind t c

/-- A telegram's copy handed to telegram acceptance. -/
def take (via : Via) (t : Telegram) (c : Car) : Car := accept via (telegramKind t) (some t) c

/-! ## The end of a frame -/

/-- A copy at its frame's end (R171, R175): handed on, dropped with LINE_CHECK_ERROR, or dropped. -/
def copyEnd (p : Port) (v : Verdict) (handOn : Car → Car) (c : Car) : Car :=
  match v with
  | .wellFormed => handOn c
  | .bad => occur .lineCheckError (256 * p.number + 1) c
  | .aborted => c

/-- The frame being received at a port ends (R170, R171, R175). DESIGN CHOICE: a frame both relayed and copied is closed at the
outgoing port, which then starts its next held or originated frame, before the copy is handed on; R171 names no order between the
two (notes/assumptions/61.md). -/
def frameEnd (p : Port) (closing : Closing) (rest : List Byte) (c : Car) : Car :=
  match (c.lif.ports.get p).rx with
  | none => c
  | some r =>
    let bytes := [Byte.ofNat r.dest, Byte.ofNat r.source, Byte.ofNat r.kind] ++ rest
    let v := verdict closing bytes
    let c := { c with lif := c.lif.closeRelay c.vrl.link p r v bytes }
    let hop := (bytes.getD 3 0).toNat
    let seq := (bytes.getD 4 0).toNat
    if r.kind = 1 then copyEnd p v (rollCall p r.dest r.source hop seq (framePayload bytes)) c
    else
      match r.copy with
      | none => c
      | some a => copyEnd p v (accept ⟨a, seq⟩ r.kind (parseTelegram r.kind (framePayload bytes))) c

end Sys2Proof.Machine
end

