-- ==== Sys2Proof/Machine/Resets.lean ====
section
/-! DEFINITION. How a command runs on the state (`State.run`), RESETn held low (R107, R170), the hardware resets, and the tick
of the part's clock that the machine takes when no command waits. -/

namespace Sys2Proof.Machine

/-! ## Running a command -/

/-- A command's effect on the part, then the door and brake outputs decided from what it left (`settle`). While RESETn is
held low a command changes nothing (notes/assumptions/13.md). -/
def State.run (s : State) (f : Car → Car) : State := { s with car := if s.car.inReset then s.car else settle (f s.car) }

/-- The same for a pin that the part goes on reading while RESETn is held low: `held` is what the pin changes then. -/
def State.runPin (s : State) (held f : Car → Car) : State :=
  { s with car := if s.car.inReset then held s.car else settle (f s.car) }

/-! ## Hardware resets -/

/-- How a port's transmitter ended its last frame, as a hardware reset begins: one that it is sending stops without an end symbol
(R170). -/
def PortState.cut (p : PortState) : Option Closing := if p.tx = .idle then p.lastClosing else some .stopped

/-- The part after a hardware reset: what its pins read, how its transmitters ended their last frames and, after reset-line
reset, the fault record are what is left of the state before (R22, R41, R62, R81, R93, R117, R131, R150, R169, R170, R189,
R195). Doors that are proven at a reset are so from its start, and DOORS_PROVEN does not start there (notes/assumptions/24.md).
-/
def hardwareReset (strap : Bool) (record : Option FaultRecord) (c : Car) : Car :=
  settle
    (Car.reset (c.brk.channels.map CogRecord.reading) (c.brk.channels.map CogRecord.readsBack)
      (c.dor.leaves.map LeafRecord.contactClosed) (c.lif.ports.map PortState.cut) strap record)

/-- A port silenced while RESETn is held low, a frame that it is sending cut (R170). -/
def PortState.silent (p : PortState) : PortState := { p with rx := none, tx := .idle, lastClosing := p.cut }

/-- RESETn driven low: SVC_VALID and TRACTION_OK deasserted, both release outputs de-energised, the line ports silent (R107,
R170). -/
def assertReset (c : Car) : Car :=
  { c with
    inReset := true
    lif := { c.lif with ports := c.lif.ports.map PortState.silent }
    brk := { c.brk with
      svcValid := false
      tractionOk := false
      channels := c.brk.channels.map fun r => { r with energised := false } } }

/-! ## Feedback and contacts -/

/-- A change of a cog brake's feedback taken by the channel, by the test timing of a selection of it, and by a deselect that
waits for it (R95, R96, R98, R121 to R123). -/
def feedbackChange (ch : CogChannel) (applied released : Bool) (c : Car) : Car :=
  let reading := readingOf applied released
  let r := c.brk.channels.get ch
  if r.reading = reading then c
  else
    let c := { c with brk := { c.brk with channels := c.brk.channels.set ch (r.takeReading reading) } }
    match c.brk.test with
    | .onSelected s =>
      if s.channel = ch then
        let c := { c with brk := s.takeReading reading c.brk }
        completeIfPending (decide (reading = .applied)) c
      else c
    | _ => c

/-- The feedback while RESETn is held low: the reading alone (R95). -/
def feedbackHeld (ch : CogChannel) (applied released : Bool) (c : Car) : Car :=
  { c with brk := { c.brk with
      channels := c.brk.channels.set ch { c.brk.channels.get ch with reading := readingOf applied released } } }

/-- A change of an isolation contact (R137). -/
def contactChange (leaf : Leaf) (closed : Bool) (c : Car) : Car :=
  if (c.dor.leaves.get leaf).contactClosed = closed then c else { c with dor := c.dor.isolate leaf closed }

/-- An isolation contact while RESETn is held low. -/
def contactHeld (leaf : Leaf) (closed : Bool) (c : Car) : Car :=
  { c with dor := c.dor.modify leaf fun r => { r with contactClosed := closed } }

/-! ## The clock -/

/-- The timers of a cog brake channel (R97, R98, R100). -/
def CogRecord.tick (r : CogRecord) : CogRecord :=
  { r with
    transit := Timer.tick Limit.transit r.transit
    departure := Timer.tick Limit.departure r.departure
    readback := Timer.tick Limit.readback r.readback }

/-- The test timer (R121). -/
def BrakeTest.tick (t : BrakeTest) : BrakeTest :=
  match t with
  | .onSelected s => .onSelected { s with timing := s.timing.map fun g => { g with elapsed := min Limit.testTiming (g.elapsed + 1) } }
  | t => t

/-- The timers of a leaf (R142, R143). -/
def LeafRecord.tick (r : LeafRecord) : LeafRecord :=
  { r with motion := Timer.tick Limit.motion r.motion, pause := Timer.tick Limit.pause r.pause }

/-- The warning timer of a side (R141). -/
def SideRecord.tick (r : SideRecord) : SideRecord := { r with warning := Timer.tick Limit.warning r.warning }

/-- The reply timer of an exchange (R133). -/
def Exchange.tick (x : Exchange) : Exchange := { x with timer := Timer.tick Limit.doorReply x.timer }

/-- The timers of the VRL (R151). -/
def Vrl.tick (v : Vrl) : Vrl :=
  { v with
    supervision := v.supervision.map LimitedTimer.tick
    shadow := v.shadow.map LimitedTimer.tick
    follower := Timer.tick Limit.follower v.follower
    reportTimer := Timer.tick Limit.report v.reportTimer
    statusTimer := Timer.tick Limit.status v.statusTimer
    transmit := v.transmit.map fun t => { t with elapsed := min Limit.modem (t.elapsed + 1) } }

/-- One tick of 10 ms: the time stamp and every running timer go on; a timer that has reached its limit waits there for the
command that is its expiry (notes/assumptions/6.md, notes/assumptions/11.md). -/
def Car.tick (c : Car) : Car :=
  if c.inReset then c
  else
    { c with
      now := (c.now + 1) % 4294967296
      lif := { c.lif with lineLossTimer := Timer.tick Limit.lineLoss c.lif.lineLossTimer }
      tlf := c.tlf.map fun r => { r with settle := Timer.tick Limit.settling r.settle }
      odo := { c.odo with updateTimer := Timer.tick Limit.update c.odo.updateTimer }
      brk := { c.brk with
        channels := c.brk.channels.map CogRecord.tick
        test := c.brk.test.tick
        watch := Timer.tick Limit.watch c.brk.watch
        broadcastTimer := Timer.tick Limit.broadcast c.brk.broadcastTimer }
      dor := { c.dor with
        leaves := c.dor.leaves.map LeafRecord.tick
        sides := c.dor.sides.map SideRecord.tick
        exchange := c.dor.exchange.map Exchange.tick
        pollTimer := Timer.tick Limit.poll c.dor.pollTimer }
      vrl := c.vrl.tick }

end Sys2Proof.Machine
end

