-- ==== Sys2Proof/Machine/BrakeCommands.lean ====
section
/-! DEFINITION. The meanings of the brake, brake test and fault stop commands. -/

namespace Sys2Proof.Machine

open Host (Outcome)

/-- CB_FEEDBACK_CHANGE (R95, R96, R98, R121 to R123). -/
def execCbFeedbackChange (ch : CogChannel) (applied released : Bool) (s : State) : Outcome State Fault Refusal :=
  .next (s.runPin (feedbackHeld ch applied released) (feedbackChange ch applied released))

/-- TRANSIT_TIMEOUT (R97, R99). -/
def execTransitTimeout (ch : CogChannel) (s : State) : Outcome State Fault Refusal :=
  .next (s.run (transitExpiry ch))

/-- DEPARTURE_TIMEOUT (R98, R99). -/
def execDepartureTimeout (ch : CogChannel) (s : State) : Outcome State Fault Refusal :=
  .next (s.run (departureExpiry ch))

/-- READBACK_CHANGE (R100). -/
def execReadbackChange (ch : CogChannel) (energised : Bool) (s : State) : Outcome State Fault Refusal :=
  .next (s.runPin (readbackChange ch energised) (readbackChange ch energised))

/-- READBACK_TIMEOUT (R100). -/
def execReadbackTimeout (ch : CogChannel) (s : State) : Outcome State Fault Refusal :=
  .next (s.run (readbackExpiry ch))

/-- TEST_TIMER_EXPIRY (R121, R123). -/
def execTestTimerExpiry (s : State) : Outcome State Fault Refusal :=
  .next (s.run testTimerExpiry)

/-- TIMEBASE_WATCH_EXPIRY (R125). -/
def execTimebaseWatchExpiry (s : State) : Outcome State Fault Refusal :=
  .next (s.run timebaseExpiry)

/-- FAULT_STOP_BROADCAST_TIMER (R129). -/
def execFaultStopBroadcastTimer (s : State) : Outcome State Fault Refusal :=
  .next (s.run broadcastExpiry)

end Sys2Proof.Machine
end

