-- ==== Sys2Proof/Machine/DoorCommands.lean ====
section
/-! DEFINITION. The meanings of the door commands. -/

namespace Sys2Proof.Machine

open Host (Outcome)

/-- DOOR_EXCHANGE_START (R133, R134). -/
def execDoorExchangeStart (s : State) : Outcome State Fault Refusal :=
  .next (s.run fun c => { c with dor := c.dor.startExchange })

/-- DOOR_BUS_REPLY (R133, R136, R139 to R142). -/
def execDoorBusReply (address : Nat) (answered : DouReply) (checkOk late : Bool) (s : State) : Outcome State Fault Refusal :=
  .next (s.run (busReply address answered checkOk late))

/-- DOOR_REPLY_TIMEOUT (R133). -/
def execDoorReplyTimeout (s : State) : Outcome State Fault Refusal :=
  .next (s.run replyTimeout)

/-- POLL_TIMER_EXPIRY (R135). -/
def execPollTimerExpiry (s : State) : Outcome State Fault Refusal :=
  .next (s.run fun c => { c with dor := c.dor.pollExpiry })

/-- ISOLATION_CONTACT_CHANGE (R137). -/
def execIsolationContactChange (leaf : Leaf) (closed : Bool) (s : State) : Outcome State Fault Refusal :=
  .next (s.runPin (contactHeld leaf closed) (contactChange leaf closed))

/-- MOTION_TIMEOUT (R143, R145). -/
def execMotionTimeout (leaf : Leaf) (s : State) : Outcome State Fault Refusal :=
  .next (s.run (motionExpiry leaf))

/-- REOPEN_PAUSE_END (R142). -/
def execReopenPauseEnd (leaf : Leaf) (s : State) : Outcome State Fault Refusal :=
  .next (s.run fun c => { c with dor := c.dor.pauseEnd leaf })

/-- WARNING_TIMER_END (R141). -/
def execWarningTimerEnd (side : Side) (s : State) : Outcome State Fault Refusal :=
  .next (s.run fun c => { c with dor := c.dor.warningEnd side })

end Sys2Proof.Machine
end

