-- ==== Sys2Proof/Machine/LineCommands.lean ====
section
/-! DEFINITION. The meanings of the consist line commands: roll call, a frame's header and end, the end of a
transmission, and the line-loss timer. -/

namespace Sys2Proof.Machine

open Host (Outcome)

/-- ROLL_CALL (R175): numbers or unnumbers the car by its hop and is relayed by the other port. -/
def execRollCall (port : Port) (dest source hop seq : Nat) (s : State) : Outcome State Fault Refusal :=
  .next (s.run (rollCall port dest source hop seq []))

/-- LINE_FRAME_HEADER (R171, R172): whether to relay, hold and copy. -/
def execLineFrameHeader (port : Port) (dest source kind : Nat) (s : State) : Outcome State Fault Refusal :=
  .next (s.run (frameHeader port dest source kind))

/-- LINE_FRAME_END (R170 to R172, R177): the relayed copy is closed, the taken copy handed on or dropped. -/
def execLineFrameEnd (port : Port) (closing : Closing) (rest : List Byte) (s : State) : Outcome State Fault Refusal :=
  .next (s.run (frameEnd port closing rest))

/-- LINE_TRANSMIT_DONE (R172, R174): the port starts its next frame. -/
def execLineTransmitDone (port : Port) (s : State) : Outcome State Fault Refusal :=
  .next (s.run fun c => { c with lif := c.lif.transmitDone c.vrl.link port })

/-- LINE_LOSS_TIMER_EXPIRY (R182): LINE_LOSS becomes present. -/
def execLineLossTimerExpiry (s : State) : Outcome State Fault Refusal :=
  .next (s.run lineLossExpiry)

end Sys2Proof.Machine
end

