-- ==== Sys2Proof/Machine/RadioCommands.lean ====
section
/-! DEFINITION. The meanings of the valley radio link commands. -/

namespace Sys2Proof.Machine

open Host (Outcome)

/-- RADIO_FRAME_RECEIVED (R152, R155, R156, R160 to R164). -/
def execRadioFrameReceived (bytes : List Byte) (s : State) : Outcome State Fault Refusal :=
  .next (s.run (radioReceived bytes))

/-- SEND_CONFIRMATION (R153, R169). -/
def execSendConfirmation (stale : Bool) (s : State) : Outcome State Fault Refusal :=
  .next (s.run (sendConfirmed stale))

/-- MODEM_TIMEOUT (R153). -/
def execModemTimeout (s : State) : Outcome State Fault Refusal :=
  .next (s.run modemTimeout)

/-- SUPERVISION_TIMER_EXPIRY (R155, R156). -/
def execSupervisionTimerExpiry (s : State) : Outcome State Fault Refusal :=
  .next (s.run supervisionExpiry)

/-- SHADOW_TIMER_EXPIRY (R156). -/
def execShadowTimerExpiry (s : State) : Outcome State Fault Refusal :=
  .next (s.run shadowExpiry)

/-- FOLLOWER_TIMER_EXPIRY (R159). -/
def execFollowerTimerExpiry (s : State) : Outcome State Fault Refusal :=
  .next (s.run followerExpiry)

/-- STATUS_TIMER_EXPIRY (R158, R168). -/
def execStatusTimerExpiry (s : State) : Outcome State Fault Refusal :=
  .next (s.run statusExpiry)

/-- REPORT_TIMER_EXPIRY (R166). -/
def execReportTimerExpiry (s : State) : Outcome State Fault Refusal :=
  .next (s.run reportExpiry)

end Sys2Proof.Machine
end

