-- ==== Sys2Proof/Machine/ResetCommands.lean ====
section
/-! DEFINITION. The meanings of the reset commands: power-on reset, RESETn driven low, and reset-line reset. -/

namespace Sys2Proof.Machine

open Host (Outcome)

/-- POWER_ON_RESET: every block takes its power-on state, and no fault record is held (R22, R41, R62, R81, R93, R117, R131,
R150, R169, R189, R195). With RESETn held low the part stays in reset, its outputs deasserted and its line ports silent (R107, R170;
notes/assumptions/48.md). -/
def execPowerOnReset (strap : Bool) (s : State) : Outcome State Fault Refusal :=
  let c := hardwareReset strap none s.car
  .next ({ s with car := if s.car.inReset then assertReset c else c })

/-- RESETN_ASSERT: RESETn is driven low (R107, R170). -/
def execResetnAssert (s : State) : Outcome State Fault Refusal :=
  .next ({ s with car := assertReset s.car })

/-- RESET_LINE_RESET: RESETn is released; fault stop has ended and the fault record is kept (R130, R131). -/
def execResetLineReset (strap : Bool) (s : State) : Outcome State Fault Refusal :=
  .next ({ s with car := hardwareReset strap s.car.brk.faultRecord s.car })

end Sys2Proof.Machine
end

