-- ==== Sys2Proof/Machine/SensorCommands.lean ====
section
/-! DEFINITION. The meanings of the tooth loop and odometry commands. -/

namespace Sys2Proof.Machine

open Host (Outcome)

/-- HIGH_LEVEL_RISE (R25, R32). -/
def execHighLevelRise (ch : LoopChannel) (sincePulse lowest : Nat) (s : State) : Outcome State Fault Refusal :=
  .next (s.run (levelRise ch sincePulse lowest))

/-- HIGH_LEVEL_END (R25 to R30, R43, R49). -/
def execHighLevelEnd (ch : LoopChannel) (duration highest : Nat) (s : State) : Outcome State Fault Refusal :=
  .next (s.run (levelEnd ch duration highest))

/-- DATA_WORD_COMPLETE (R31, R33, R34, R37, R58). -/
def execDataWordComplete (ch : LoopChannel) (samples : List Nat) (s : State) : Outcome State Fault Refusal :=
  .next (s.run (wordComplete ch samples))

/-- SHORT_DETECTED (R35). -/
def execShortDetected (ch : LoopChannel) (s : State) : Outcome State Fault Refusal :=
  .next (s.run (shortDetected ch))

/-- OPEN_DETECTED (R36). -/
def execOpenDetected (ch : LoopChannel) (s : State) : Outcome State Fault Refusal :=
  .next (s.run (openDetected ch))

/-- SETTLING_END (R39). -/
def execSettlingEnd (ch : LoopChannel) (lowest : Nat) (s : State) : Outcome State Fault Refusal :=
  .next (s.run (settlingEnd ch lowest))

/-- ODOMETRY_UPDATE (R44 to R59). -/
def execOdometryUpdate (s : State) : Outcome State Fault Refusal :=
  .next (s.run odometryUpdate)

/-- MARKER_READ (R55, R56). -/
def execMarkerRead (id : Nat) (checkOk : Bool) (s : State) : Outcome State Fault Refusal :=
  .next (s.run (markerRead id checkOk))

end Sys2Proof.Machine
end

