-- ==== Sys2Proof/Machine/SupervisionCommands.lean ====
section
/-! DEFINITION. The meanings of the evaluation commands. -/

namespace Sys2Proof.Machine

open Host (Outcome)

/-- EVALUATION_START (R65). -/
def execEvaluationStart (s : State) : Outcome State Fault Refusal :=
  .next (s.run evaluationStart)

/-- EVALUATION_END (R66 to R80). -/
def execEvaluationEnd (upset : Option Nat) (s : State) : Outcome State Fault Refusal :=
  .next (s.run (evaluationEnd upset))

end Sys2Proof.Machine
end

