-- ==== Sys2Proof/Machine/TelegramCommands.lean ====
section
/-! DEFINITION. The meanings of the telegram commands: each is a well-formed copy handed to telegram acceptance
(R177), which judges it and hands it to its owning block. -/

namespace Sys2Proof.Machine

open Host (Outcome)

/-- DRIVER_DEMAND handed to telegram acceptance and taken by its block (R177, R181). -/
def execDriverDemand (via : Via) (direction level release load : Nat) (s : State) : Outcome State Fault Refusal :=
  .next (s.run (take via (.driverDemand direction level release load)))

/-- POSITION_SET handed to telegram acceptance and taken by its block (R177, R54). -/
def execPositionSet (via : Via) (position : Nat) (s : State) : Outcome State Fault Refusal :=
  .next (s.run (take via (.positionSet position)))

/-- EMERGENCY handed to telegram acceptance and taken by its block (R177, R111). -/
def execEmergency (via : Via) (s : State) : Outcome State Fault Refusal :=
  .next (s.run (take via .emergency))

/-- EMERGENCY_RELEASE handed to telegram acceptance and taken by its block (R177, R113). -/
def execEmergencyRelease (via : Via) (mask : Nat) (s : State) : Outcome State Fault Refusal :=
  .next (s.run (take via (.emergencyRelease mask)))

/-- DOOR_RELEASE handed to telegram acceptance and taken by its block (R177, R138, R139). -/
def execDoorRelease (via : Via) (side : Nat) (autoOpen noPlatform : Bool) (s : State) : Outcome State Fault Refusal :=
  .next (s.run (take via (.doorRelease side autoOpen noPlatform)))

/-- DOOR_CLOSE handed to telegram acceptance and taken by its block (R177, R140). -/
def execDoorClose (via : Via) (side : Nat) (s : State) : Outcome State Fault Refusal :=
  .next (s.run (take via (.doorClose side)))

/-- TEST_ON handed to telegram acceptance and taken by its block (R177, R119). -/
def execTestOn (via : Via) (s : State) : Outcome State Fault Refusal :=
  .next (s.run (take via .testOn))

/-- TEST_OFF handed to telegram acceptance and taken by its block (R177, R119). -/
def execTestOff (via : Via) (s : State) : Outcome State Fault Refusal :=
  .next (s.run (take via .testOff))

/-- SELECT handed to telegram acceptance and taken by its block (R177, R120). -/
def execSelect (via : Via) (channel : Nat) (s : State) : Outcome State Fault Refusal :=
  .next (s.run (take via (.select channel)))

/-- DESELECT handed to telegram acceptance and taken by its block (R177, R123). -/
def execDeselect (via : Via) (s : State) : Outcome State Fault Refusal :=
  .next (s.run (take via .deselect))

/-- TEST_RELEASE handed to telegram acceptance and taken by its block (R177, R121). -/
def execTestRelease (via : Via) (s : State) : Outcome State Fault Refusal :=
  .next (s.run (take via .testRelease))

/-- TEST_APPLY handed to telegram acceptance and taken by its block (R177, R121). -/
def execTestApply (via : Via) (s : State) : Outcome State Fault Refusal :=
  .next (s.run (take via .testApply))

/-- SEGMENT_LOAD handed to telegram acceptance and taken by its block (R177, R2 to R9). -/
def execSegmentLoad (via : Via) (body : SegmentBody) (s : State) : Outcome State Fault Refusal :=
  .next (s.run (take via (.segmentLoad body)))

/-- SEGMENT_REMOVE handed to telegram acceptance and taken by its block (R177, R12). -/
def execSegmentRemove (via : Via) (id : Nat) (s : State) : Outcome State Fault Refusal :=
  .next (s.run (take via (.segmentRemove id)))

/-- PIN_WINDOW_SET handed to telegram acceptance and taken by its block (R177, R11). -/
def execPinWindowSet (via : Via) (window : Nat) (valid : Bool) (value mask : Nat) (s : State) : Outcome State Fault Refusal :=
  .next (s.run (take via (.pinWindowSet window valid value mask)))

/-- RESTRICTION_ADD handed to telegram acceptance and taken by its block (R177, R85 to R88). -/
def execRestrictionAdd (via : Via) (id low high speed appliesTo : Nat) (s : State) : Outcome State Fault Refusal :=
  .next (s.run (take via (.restrictionAdd id low high speed appliesTo)))

/-- RESTRICTION_CANCEL handed to telegram acceptance and taken by its block (R177, R89). -/
def execRestrictionCancel (via : Via) (id : Nat) (s : State) : Outcome State Fault Refusal :=
  .next (s.run (take via (.restrictionCancel id)))

/-- PARAMETER_SET handed to telegram acceptance and taken by its block (R177, R183). -/
def execParameterSet (via : Via) (id value : Nat) (s : State) : Outcome State Fault Refusal :=
  .next (s.run (take via (.parameterSet id value)))

/-- PARAMETER_READ handed to telegram acceptance and taken by its block (R177, R185). -/
def execParameterRead (via : Via) (id : Nat) (s : State) : Outcome State Fault Refusal :=
  .next (s.run (take via (.parameterRead id)))

/-- STATUS_READ handed to telegram acceptance and taken by its block (R177, R186). -/
def execStatusRead (via : Via) (page : Nat) (s : State) : Outcome State Fault Refusal :=
  .next (s.run (take via (.statusRead page)))

/-- FAULT_READ handed to telegram acceptance and taken by its block (R177, R38). -/
def execFaultRead (via : Via) (s : State) : Outcome State Fault Refusal :=
  .next (s.run (take via .faultRead))

/-- FAULT_RECORD_READ handed to telegram acceptance and taken by its block (R177, R130). -/
def execFaultRecordRead (via : Via) (s : State) : Outcome State Fault Refusal :=
  .next (s.run (take via .faultRecordRead))

/-- GROUP_SET handed to telegram acceptance and taken by its block (R177, R176). -/
def execGroupSet (via : Via) (entry : Nat) (valid : Bool) (value mask : Nat) (s : State) : Outcome State Fault Refusal :=
  .next (s.run (take via (.groupSet entry valid value mask)))

/-- RESTART handed to telegram acceptance and taken by its block (R177, R187). -/
def execRestart (via : Via) (s : State) : Outcome State Fault Refusal :=
  .next (s.run (take via .restart))

/-- EVENT_ENABLE_SET handed to telegram acceptance and taken by its block (R177, R191). -/
def execEventEnableSet (via : Via) (mask : Nat) (s : State) : Outcome State Fault Refusal :=
  .next (s.run (take via (.eventEnableSet mask)))

/-- EVENT_ENABLE_CLEAR handed to telegram acceptance and taken by its block (R177, R191). -/
def execEventEnableClear (via : Via) (mask : Nat) (s : State) : Outcome State Fault Refusal :=
  .next (s.run (take via (.eventEnableClear mask)))

/-- EVENT_LEVEL_SET handed to telegram acceptance and taken by its block (R177, R191). -/
def execEventLevelSet (via : Via) (source level route : Nat) (s : State) : Outcome State Fault Refusal :=
  .next (s.run (take via (.eventLevelSet source level route)))

/-- EVENT_CLEAR handed to telegram acceptance and taken by its block (R177, R191). -/
def execEventClear (via : Via) (mask : Nat) (s : State) : Outcome State Fault Refusal :=
  .next (s.run (take via (.eventClear mask)))

/-- NOTICE_POLL handed to telegram acceptance and taken by its block (R177, R194). -/
def execNoticePoll (via : Via) (s : State) : Outcome State Fault Refusal :=
  .next (s.run (take via .noticePoll))

/-- RADIO_RELAY handed to telegram acceptance and taken by its block (R177, R165). -/
def execRadioRelay (via : Via) (kind number : Nat) (body : List Byte) (s : State) : Outcome State Fault Refusal :=
  .next (s.run (take via (.radioRelay kind number body)))

/-- RADIO_STATUS handed to telegram acceptance and taken by its block (R177, R159). -/
def execRadioStatus (via : Via) (link station : Nat) (s : State) : Outcome State Fault Refusal :=
  .next (s.run (take via (.radioStatus link station)))

end Sys2Proof.Machine
end

