-- ==== Sys2Proof/Machine/Dispatch.lean ====
section
/-! DEFINITION. One arm for each command, each a direct call of its meaning. -/

namespace Sys2Proof.Machine

def exec (i : Instr) (s : State) : Host.Outcome State Fault Refusal :=
  match i with
  | .powerOnReset strap => Sys2Proof.Machine.execPowerOnReset strap s
  | .resetnAssert => Sys2Proof.Machine.execResetnAssert s
  | .resetLineReset strap => Sys2Proof.Machine.execResetLineReset strap s
  | .rollCall port dest source hop seq => Sys2Proof.Machine.execRollCall port dest source hop seq s
  | .driverDemand via direction level release load => Sys2Proof.Machine.execDriverDemand via direction level release load s
  | .positionSet via position => Sys2Proof.Machine.execPositionSet via position s
  | .emergency via => Sys2Proof.Machine.execEmergency via s
  | .emergencyRelease via mask => Sys2Proof.Machine.execEmergencyRelease via mask s
  | .doorRelease via side autoOpen noPlatform => Sys2Proof.Machine.execDoorRelease via side autoOpen noPlatform s
  | .doorClose via side => Sys2Proof.Machine.execDoorClose via side s
  | .testOn via => Sys2Proof.Machine.execTestOn via s
  | .testOff via => Sys2Proof.Machine.execTestOff via s
  | .select via channel => Sys2Proof.Machine.execSelect via channel s
  | .deselect via => Sys2Proof.Machine.execDeselect via s
  | .testRelease via => Sys2Proof.Machine.execTestRelease via s
  | .testApply via => Sys2Proof.Machine.execTestApply via s
  | .segmentLoad via body => Sys2Proof.Machine.execSegmentLoad via body s
  | .segmentRemove via id => Sys2Proof.Machine.execSegmentRemove via id s
  | .pinWindowSet via window valid value mask => Sys2Proof.Machine.execPinWindowSet via window valid value mask s
  | .restrictionAdd via id low high speed appliesTo => Sys2Proof.Machine.execRestrictionAdd via id low high speed appliesTo s
  | .restrictionCancel via id => Sys2Proof.Machine.execRestrictionCancel via id s
  | .parameterSet via id value => Sys2Proof.Machine.execParameterSet via id value s
  | .parameterRead via id => Sys2Proof.Machine.execParameterRead via id s
  | .statusRead via page => Sys2Proof.Machine.execStatusRead via page s
  | .faultRead via => Sys2Proof.Machine.execFaultRead via s
  | .faultRecordRead via => Sys2Proof.Machine.execFaultRecordRead via s
  | .groupSet via entry valid value mask => Sys2Proof.Machine.execGroupSet via entry valid value mask s
  | .restart via => Sys2Proof.Machine.execRestart via s
  | .eventEnableSet via mask => Sys2Proof.Machine.execEventEnableSet via mask s
  | .eventEnableClear via mask => Sys2Proof.Machine.execEventEnableClear via mask s
  | .eventLevelSet via source level route => Sys2Proof.Machine.execEventLevelSet via source level route s
  | .eventClear via mask => Sys2Proof.Machine.execEventClear via mask s
  | .noticePoll via => Sys2Proof.Machine.execNoticePoll via s
  | .radioRelay via kind number body => Sys2Proof.Machine.execRadioRelay via kind number body s
  | .radioStatus via link station => Sys2Proof.Machine.execRadioStatus via link station s
  | .lineFrameHeader port dest source kind => Sys2Proof.Machine.execLineFrameHeader port dest source kind s
  | .lineFrameEnd port closing rest => Sys2Proof.Machine.execLineFrameEnd port closing rest s
  | .lineTransmitDone port => Sys2Proof.Machine.execLineTransmitDone port s
  | .lineLossTimerExpiry => Sys2Proof.Machine.execLineLossTimerExpiry s
  | .highLevelRise ch sincePulse lowest => Sys2Proof.Machine.execHighLevelRise ch sincePulse lowest s
  | .highLevelEnd ch duration highest => Sys2Proof.Machine.execHighLevelEnd ch duration highest s
  | .dataWordComplete ch samples => Sys2Proof.Machine.execDataWordComplete ch samples s
  | .shortDetected ch => Sys2Proof.Machine.execShortDetected ch s
  | .openDetected ch => Sys2Proof.Machine.execOpenDetected ch s
  | .settlingEnd ch lowest => Sys2Proof.Machine.execSettlingEnd ch lowest s
  | .odometryUpdate => Sys2Proof.Machine.execOdometryUpdate s
  | .markerRead id checkOk => Sys2Proof.Machine.execMarkerRead id checkOk s
  | .evaluationStart => Sys2Proof.Machine.execEvaluationStart s
  | .evaluationEnd upset => Sys2Proof.Machine.execEvaluationEnd upset s
  | .cbFeedbackChange ch applied released => Sys2Proof.Machine.execCbFeedbackChange ch applied released s
  | .transitTimeout ch => Sys2Proof.Machine.execTransitTimeout ch s
  | .departureTimeout ch => Sys2Proof.Machine.execDepartureTimeout ch s
  | .readbackChange ch energised => Sys2Proof.Machine.execReadbackChange ch energised s
  | .readbackTimeout ch => Sys2Proof.Machine.execReadbackTimeout ch s
  | .testTimerExpiry => Sys2Proof.Machine.execTestTimerExpiry s
  | .timebaseWatchExpiry => Sys2Proof.Machine.execTimebaseWatchExpiry s
  | .faultStopBroadcastTimer => Sys2Proof.Machine.execFaultStopBroadcastTimer s
  | .doorExchangeStart => Sys2Proof.Machine.execDoorExchangeStart s
  | .doorBusReply address reply checkOk late => Sys2Proof.Machine.execDoorBusReply address reply checkOk late s
  | .doorReplyTimeout => Sys2Proof.Machine.execDoorReplyTimeout s
  | .pollTimerExpiry => Sys2Proof.Machine.execPollTimerExpiry s
  | .isolationContactChange leaf closed => Sys2Proof.Machine.execIsolationContactChange leaf closed s
  | .motionTimeout leaf => Sys2Proof.Machine.execMotionTimeout leaf s
  | .reopenPauseEnd leaf => Sys2Proof.Machine.execReopenPauseEnd leaf s
  | .warningTimerEnd side => Sys2Proof.Machine.execWarningTimerEnd side s
  | .radioFrameReceived bytes => Sys2Proof.Machine.execRadioFrameReceived bytes s
  | .sendConfirmation stale => Sys2Proof.Machine.execSendConfirmation stale s
  | .modemTimeout => Sys2Proof.Machine.execModemTimeout s
  | .supervisionTimerExpiry => Sys2Proof.Machine.execSupervisionTimerExpiry s
  | .shadowTimerExpiry => Sys2Proof.Machine.execShadowTimerExpiry s
  | .followerTimerExpiry => Sys2Proof.Machine.execFollowerTimerExpiry s
  | .statusTimerExpiry => Sys2Proof.Machine.execStatusTimerExpiry s
  | .reportTimerExpiry => Sys2Proof.Machine.execReportTimerExpiry s

end Sys2Proof.Machine
end

