-- ==== Sys2Proof/WellFormed.lean ====
section
/-! DEFINITION. Which commands can reach the part: every field within the width that the frame, payload or measurement that
carries it gives it. A value inside its width that the manual refuses (with RANGE, say) is well-formed. -/

namespace Sys2Proof

def fits1 (n : Nat) : Bool := decide (n < 256)
def fits2 (n : Nat) : Bool := decide (n < 65536)
def fits3 (n : Nat) : Bool := decide (n < 16777216)
def fits4 (n : Nat) : Bool := decide (n < 4294967296)

/-- A seq is one byte of the header (section 10.1). -/
def Via.wellFormed (v : Via) : Bool := fits1 v.seq

def MarkerField.wellFormed (m : MarkerField) : Bool := fits2 m.id && fits3 m.offset

/-- The widths of a segment body (section 9.5), in a payload of at most 48 bytes (section 10.1). -/
def SegmentBody.wellFormed (b : SegmentBody) : Bool :=
  fits2 b.id && fits3 b.low && fits3 b.length && fits1 b.kindByte && decide (-32768 ≤ b.gradient) &&
  decide (b.gradient < 32768) && fits1 b.upLimit && fits1 b.downLimit && fits3 b.platformLow && fits3 b.platformHigh &&
  b.markers.all (·.wellFormed) && decide (20 + 5 * b.markers.length ≤ 48)

/-- The widths of a telegram's payload fields (R179). -/
def Telegram.wellFormed : Telegram → Bool
  | .driverDemand direction level release load => fits1 direction && fits1 level && fits1 release && fits1 load
  | .positionSet position => fits3 position
  | .emergencyRelease mask => fits2 mask
  | .doorRelease side _ _ => fits1 side
  | .doorClose side => fits1 side
  | .select channel => fits1 channel
  | .segmentLoad body => body.wellFormed
  | .segmentRemove id => fits2 id
  | .pinWindowSet window _ value mask => fits1 window && fits2 value && fits2 mask
  | .restrictionAdd id low high speed appliesTo => fits1 id && fits3 low && fits3 high && fits1 speed && fits1 appliesTo
  | .restrictionCancel id => fits1 id
  | .parameterSet id value => fits1 id && fits4 value
  | .parameterRead id => fits1 id
  | .statusRead page => fits1 page
  | .groupSet entry _ value mask => fits1 entry && fits1 value && fits1 mask
  | .eventEnableSet mask => fits4 mask
  | .eventEnableClear mask => fits4 mask
  | .eventLevelSet source level route => fits1 source && fits1 level && fits1 route
  | .eventClear mask => fits4 mask
  | .radioRelay kind number body => fits1 kind && fits2 number && decide (body.length ≤ 40)
  | .radioStatus link station => fits1 link && fits1 station
  | .emergency | .testOn | .testOff | .deselect | .testRelease | .testApply | .faultRead | .faultRecordRead | .restart
  | .noticePoll => true

/-- The telegram a telegram command hands to acceptance, with its addressing. -/
def Instr.telegram : Instr → Option (Via × Telegram)
  | .driverDemand via direction level release load => some (via, .driverDemand direction level release load)
  | .positionSet via position => some (via, .positionSet position)
  | .emergency via => some (via, .emergency)
  | .emergencyRelease via mask => some (via, .emergencyRelease mask)
  | .doorRelease via side autoOpen noPlatform => some (via, .doorRelease side autoOpen noPlatform)
  | .doorClose via side => some (via, .doorClose side)
  | .testOn via => some (via, .testOn)
  | .testOff via => some (via, .testOff)
  | .select via channel => some (via, .select channel)
  | .deselect via => some (via, .deselect)
  | .testRelease via => some (via, .testRelease)
  | .testApply via => some (via, .testApply)
  | .segmentLoad via body => some (via, .segmentLoad body)
  | .segmentRemove via id => some (via, .segmentRemove id)
  | .pinWindowSet via window valid value mask => some (via, .pinWindowSet window valid value mask)
  | .restrictionAdd via id low high speed appliesTo => some (via, .restrictionAdd id low high speed appliesTo)
  | .restrictionCancel via id => some (via, .restrictionCancel id)
  | .parameterSet via id value => some (via, .parameterSet id value)
  | .parameterRead via id => some (via, .parameterRead id)
  | .statusRead via page => some (via, .statusRead page)
  | .faultRead via => some (via, .faultRead)
  | .faultRecordRead via => some (via, .faultRecordRead)
  | .groupSet via entry valid value mask => some (via, .groupSet entry valid value mask)
  | .restart via => some (via, .restart)
  | .eventEnableSet via mask => some (via, .eventEnableSet mask)
  | .eventEnableClear via mask => some (via, .eventEnableClear mask)
  | .eventLevelSet via source level route => some (via, .eventLevelSet source level route)
  | .eventClear via mask => some (via, .eventClear mask)
  | .noticePoll via => some (via, .noticePoll)
  | .radioRelay via kind number body => some (via, .radioRelay kind number body)
  | .radioStatus via link station => some (via, .radioStatus link station)
  | .powerOnReset _ | .resetnAssert | .resetLineReset _ | .rollCall .. | .lineFrameHeader .. | .lineFrameEnd ..
  | .lineTransmitDone _ | .lineLossTimerExpiry | .highLevelRise .. | .highLevelEnd .. | .dataWordComplete ..
  | .shortDetected _ | .openDetected _ | .settlingEnd .. | .odometryUpdate | .markerRead .. | .evaluationStart
  | .evaluationEnd _ | .cbFeedbackChange .. | .transitTimeout _ | .departureTimeout _ | .readbackChange ..
  | .readbackTimeout _ | .testTimerExpiry | .timebaseWatchExpiry | .faultStopBroadcastTimer | .doorExchangeStart
  | .doorBusReply .. | .doorReplyTimeout | .pollTimerExpiry | .isolationContactChange .. | .motionTimeout _
  | .reopenPauseEnd _ | .warningTimerEnd _ | .radioFrameReceived _ | .sendConfirmation _ | .modemTimeout
  | .supervisionTimerExpiry | .shadowTimerExpiry | .followerTimerExpiry | .statusTimerExpiry | .reportTimerExpiry => none

/-- A measured current, 0 to 400 in 0.1 mA (R24). -/
def currentFits (n : Nat) : Bool := decide (n ≤ 400)

/-- The widths of the fields that reach the part other than as a telegram. -/
def Instr.fieldsFit : Instr → Bool
  | .rollCall _ dest source hop seq => fits1 dest && fits1 source && fits1 hop && fits1 seq
  | .lineFrameHeader _ dest source kind => fits1 dest && fits1 source && fits1 kind
  | .lineFrameEnd _ _ rest => decide (rest.length ≤ 54)
  | .highLevelRise _ _ lowest => currentFits lowest
  | .highLevelEnd _ _ highest => currentFits highest
  | .dataWordComplete _ samples => decide (samples.length = 9) && samples.all currentFits
  | .settlingEnd _ lowest => currentFits lowest
  | _ => true

/-- A well-formed command. -/
def Instr.wellFormed (i : Instr) : Bool :=
  i.fieldsFit &&
  match i.telegram with
  | some (via, t) => via.wellFormed && t.wellFormed
  | none => true

end Sys2Proof
end

