-- ==== Sys2Proof/Safety.lean ====
section
/-! DEFINITION. The terms claims are made in: when the part is ready for a command, when a telegram reaches its block, the
answer it gets, and the laws the manual states of the part's outputs and of its lists. -/

namespace Sys2Proof.Machine

/-! ## Between commands -/

/-- The part between two commands: out of reset, with its door and brake outputs decided from its state (R101 to R108, R147,
R148) and no place of the originate queue reserved (R177). Every step leaves it so. -/
def Ready (s : State) : Prop :=
  s.car.inReset = false ∧ settle s.car = s.car ∧ s.car.lif.reservedReplies = 0 ∧ s.car.lif.reservedBatch = 0

/-- No stored record fails its check (R20). -/
def Intact (c : Car) : Prop := ∀ s ∈ c.pst.table, s.mismatch = false

/-- Whether telegram acceptance hands a telegram's copy to its owning block (R175, R177, R178, R188). -/
def Reaches (via : Via) (t : Telegram) (c : Car) : Prop :=
  c.lif.carNumber.isSome = true ∧ c.brk.faultStop = false ∧ takenUnder (telegramKind t) via.addressing = true ∧
  (via.addressing = .car →
    if telegramKind t = 40 then c.lif.nonReplyRoom = true else placesFor (telegramKind t) ≤ c.lif.freePlaces)

/-- The consist line interface with a telegram's answer placed in its originate queue, when the telegram was addressed to the
car's number (R177, R180). -/
def Lif.answered (l : Lif) (link : LinkState) (via : Via) (kind : Nat) (result : Result) (parts : List ReplyData) : Lif :=
  if via.addressing = .car then l.append link (replyFrames kind via.seq result parts) else l

/-- The part with a telegram's answer placed. -/
def replied (via : Via) (kind : Nat) (result : Result) (parts : List ReplyData) (c : Car) : Car :=
  { c with lif := c.lif.answered c.vrl.link via kind result parts }

/-- The frames of the originate queue, in the order they were placed (R173). -/
def Lif.frames (l : Lif) : List Frame := l.queue.map (·.frame)

/-- The answer a telegram adds to the originate queue's frames. -/
def answerFrames (via : Via) (kind : Nat) (result : Result) (parts : List ReplyData) : List Frame :=
  if via.addressing = .car then replyFrames kind via.seq result parts else []

/-! ## What a release and a close do to a leaf -/

/-- Whether an exchange runs with a leaf's DOU, so that a release or a close waits for its end (R139, R140). -/
def Dor.runsWith (d : Dor) (leaf : Leaf) : Prop := ∃ x, d.exchange = some x ∧ x.leaf = leaf

/-- What a granted release does to a leaf, from one state of the DOR to another (R139): the table of R139 over the leaf's record
and its slot. -/
def Released (autoOpen : Bool) (d d' : Dor) (leaf : Leaf) : Prop :=
  let r := d.leaves.get leaf
  let q := d'.leaves.get leaf
  (r.state = .locked → q = r ∧ d'.slot leaf = some .unlock) ∧
  (r.state = .unlocked → q = r ∧ d'.slot leaf = if autoOpen = true then some (.openLeaf false) else d.slot leaf) ∧
  (r.state = .closing ∨ r.state = .reopening →
    q = { r with motion := none, pause := none, obstacles := 0 } ∧ d'.slot leaf = some (.openLeaf false)) ∧
  (r.state = .opened ∨ r.state = .opening → r.closeDue = true →
    q = { r with closeDue := false } ∧ (∀ cmd, d'.slot leaf = some cmd → cmd ≠ .chime ∧ cmd ≠ .close) ∧
    ∀ b ∈ d'.blocks, leaf ∉ b.leaves) ∧
  (r.state = .opened ∨ r.state = .opening → r.closeDue = false → q = r ∧ d'.slot leaf = d.slot leaf) ∧
  (r.state = .unread ∨ r.state = .fault ∨ r.state = .isolated → q = r ∧ d'.slot leaf = d.slot leaf)

/-- What a DOOR CLOSE does to a leaf, from one state of the DOR to another (R140): the table of R140 over the leaf's record, its
slot and its side. `again` when the DOOR CLOSE found the side's close step CHIMING or WARNING, which leaves a due leaf as it is. -/
def Closed (again : Bool) (d d' : Dor) (leaf : Leaf) : Prop :=
  let r := d.leaves.get leaf
  let q := d'.leaves.get leaf
  (r.state = .unlocked → q = r ∧ d'.slot leaf = some .lock) ∧
  (r.state = .opened ∨ r.state = .opening → r.closeDue = false ∨ again = false →
    q = { r with obstructed := false, obstacles := 0, closeDue := true } ∧ d'.slot leaf = some .chime ∧
    (∀ b ∈ d'.blocks, leaf ∉ b.leaves) ∧
    (d'.sides.get leaf.side).step = .chiming ∧ (d'.sides.get leaf.side).warning = none) ∧
  (r.state = .opened ∨ r.state = .opening → r.closeDue = true → again = true →
    q = r ∧ ((∀ cmd, d.slot leaf = some cmd → cmd.opens = false) → d'.slot leaf = d.slot leaf)) ∧
  (r.state = .closing ∨ r.state = .reopening → q = { r with obstacles := 0 }) ∧
  (r.state = .locked ∨ r.state = .unread ∨ r.state = .fault ∨ r.state = .isolated → q = r)

/-! ## The laws of the outputs -/

/-- The law of the cog brakes (R102). -/
def BrakeLaw (c : Car) : Prop :=
  (c.brk.faultStop = true ∨ causesEmpty c.brk.causes = false) →
    c.brk.channels.cbA.command = .apply ∧ c.brk.channels.cbB.command = .apply

/-- The service demand level (R106). -/
def ServiceLaw (c : Car) : Prop := c.brk.svcLevel = serviceLevel c

/-- TRACTION_OK (R108). -/
def TractionLaw (c : Car) : Prop :=
  c.brk.tractionOk = true ↔
    c.brk.faultStop = false ∧ causesEmpty c.brk.causes = true ∧ c.brk.doorsProven = true ∧
    c.brk.channels.cbA.state = .released ∧ c.brk.channels.cbB.state = .released ∧ c.brk.intervention = false

/-- The release outputs (R100). -/
def ReleaseLaw (c : Car) : Prop :=
  ∀ ch, (c.brk.channels.get ch).energised = true ↔
    ((c.brk.channels.get ch).state ≠ .fault ∧ (c.brk.channels.get ch).command = .release) ∨
    ((c.brk.channels.get ch).state = .fault ∧ c.brk.test.commandFor ch = some .release)

/-- The readback of the release outputs (R100): the readback timer runs exactly while the readback differs from the value driven, and
a disagreement alone is reported. -/
def ReadbackLaw (c : Car) : Prop :=
  ∀ ch, ((c.brk.channels.get ch).readback = none ↔ (c.brk.channels.get ch).readsBack = (c.brk.channels.get ch).energised) ∧
    ((c.brk.channels.get ch).reported = true → (c.brk.channels.get ch).readback ≠ none)

/-- The holder in control of each channel and its command (R102 to R104), and the available count (R105). -/
def HolderLaw (c : Car) : Prop :=
  (∀ ch, ((c.brk.channels.get ch).holder, (c.brk.channels.get ch).command) = arbitrate c ch) ∧
  c.brk.available = availableCount c.brk.channels ∧
  c.brk.holdPending = (c.brk.test.isSelected && (c.ssv.record.hold || c.brk.doorHold))

/-- The proven state, the door hold and the law of the door cause (R110, R147, R148). -/
def DoorLaw (c : Car) : Prop :=
  c.dor.proven = c.dor.allSafe ∧ c.brk.doorsProven = c.dor.allSafe ∧
  c.brk.doorHold = (c.dor.anyGranted || !c.dor.allSafe) ∧
  (c.dor.allSafe = false → 25 < c.odo.fused → (c.brk.causes.door).isSome = true)

/-- The outputs of the part: silent while RESETn is held low (R107), and under the laws of the outputs otherwise. -/
def OutputLaws (c : Car) : Prop :=
  if c.inReset then
    c.brk.svcValid = false ∧ c.brk.tractionOk = false ∧ ∀ ch, (c.brk.channels.get ch).energised = false
  else
    c.brk.svcValid = true ∧ BrakeLaw c ∧ HolderLaw c ∧ ServiceLaw c ∧ TractionLaw c ∧ ReleaseLaw c ∧ ReadbackLaw c ∧ DoorLaw c

/-! ## The laws of the lists -/

/-- The values of a stored record in the segment record table and the conditions of R3 on it. -/
def Segment.Fits (s : Segment) : Prop :=
  s.id ≤ 1023 ∧ 100 ≤ s.length ∧ s.length ≤ 200000 ∧ s.low + s.length ≤ lineEnd + 1 ∧ -480 ≤ s.gradient ∧
  s.gradient ≤ 480 ∧ s.upLimit ≤ 40 ∧ s.downLimit ≤ 40 ∧ s.markers.length ≤ 4 ∧
  (∀ m ∈ s.markers, 1 ≤ m.id ∧ m.id ≤ 4095 ∧ m.offset < s.length) ∧ (s.markers.map MarkerField.offset).Nodup ∧
  ∀ q, s.platform = some q → s.low ≤ q.low ∧ q.low ≤ q.high ∧ q.high < s.low + s.length

/-- The law of the segment table (R1, R3 to R5, R11): at most 64 records, in increasing order of low, no two overlapping, no id
and no marker id stored twice, at most 48 pinned, and every record within its table. -/
def StoreLaw (p : Pst) : Prop :=
  p.table.length ≤ 64 ∧ p.table.Pairwise (fun a b => a.low + a.length ≤ b.low) ∧ (p.table.map Segment.id).Nodup ∧
  (p.table.flatMap fun s => s.markers.map MarkerField.id).Nodup ∧ pinnedCount p.table ≤ 48 ∧
  (∀ s ∈ p.table, s.Fits) ∧ p.windows.length = 4

/-- The law of the notice queue (R193): at most 16 notices, ordered by level, no two from one source. -/
def NoticeLaw (e : Evr) : Prop :=
  e.notices.length ≤ 16 ∧ e.notices.Pairwise (fun a b => b.level ≤ a.level) ∧ (e.notices.map Notice.source).Nodup

/-- The law of the restriction lists (R83). -/
def RestrictionLaw (s : Ssv) : Prop :=
  s.restrictions.length ≤ 16 ∧ (s.restrictions.map Restriction.id).Nodup ∧
  s.restrictions.Pairwise (fun a b => a.low < b.low ∨ (a.low = b.low ∧ a.id < b.id)) ∧
  s.overflow.length ≤ 4 ∧ (s.overflow.map OverflowEntry.id).Nodup ∧
  (∀ r ∈ s.restrictions, ∀ e ∈ s.overflow, r.id ≠ e.id) ∧ (s.saturated = true → s.overflow ≠ [])

/-- The report queue and the recent orders list (R163, R165, R166). -/
def RadioLaw (v : Vrl) : Prop :=
  v.reports.length ≤ 8 ∧ v.recent.length ≤ 8 ∧ (v.recent.map OrderEntry.number).Nodup ∧
  (v.role = .follower → v.reports = [])

/-- The brake test stands only while fault stop is not in force and the emergency cause set is empty (R119, R124). -/
def TestLaw (b : Brk) : Prop := (b.faultStop = true ∨ causesEmpty b.causes = false) → b.test = .off

end Sys2Proof.Machine
end

