-- ==== Sys2Proof/Certificates/Slice0/Obligations.lean ====
section
/-! DEFINITION. The statements for the provers, family by family. Where a statement turns on a convention the model chose, its
docstring names the assumption log's entry. -/

open Sys2Proof Sys2Proof.Machine

/-! ## The step and the resets -/

/-- O1. A step takes the command at the front of the queue and runs it on what is left of the queue. What the model chose and
this rests on: notes/assumptions/3.md. -/
def Obligations.StepRunsFrontCommand : Prop :=
  ∀ (i : Instr) (rest : List Instr) (s : State), s.pending = i :: rest → step s = exec i { s with pending := rest }

/-- O2. With no command waiting a step is 10 ms of time: nothing while RESETn is held low, and otherwise the time stamp and the
running timers, the test timer of a selection among them, go on and everything else stays (the model's choice:
notes/assumptions/11.md). What the model chose and this rests on: notes/assumptions/12.md. -/
def Obligations.IdleStepTicks : Prop :=
  ∀ s : State, s.pending = [] →
    (s.car.inReset = true → step s = .next s) ∧
    (s.car.inReset = false → ∃ t, step s = .next t ∧
      t.pending = [] ∧ t.car.inReset = false ∧ t.car.now = (s.car.now + 1) % 2 ^ 32 ∧
      t.car.lif = { s.car.lif with lineLossTimer := s.car.lif.lineLossTimer.map fun n => min 100 (n + 1) } ∧
      (∀ ch, t.car.tlf.get ch = { s.car.tlf.get ch with settle := (s.car.tlf.get ch).settle.map fun n => min 10 (n + 1) }) ∧
      t.car.odo = { s.car.odo with updateTimer := s.car.odo.updateTimer.map fun n => min 5 (n + 1) } ∧
      t.car.pst = s.car.pst ∧ t.car.ssv = s.car.ssv ∧ t.car.evr = s.car.evr ∧
      t.car.brk = { s.car.brk with
        channels := t.car.brk.channels
        test := t.car.brk.test
        watch := s.car.brk.watch.map fun n => min 8 (n + 1)
        broadcastTimer := s.car.brk.broadcastTimer.map fun n => min 50 (n + 1) } ∧
      (∀ ch, t.car.brk.channels.get ch = { s.car.brk.channels.get ch with
        transit := (s.car.brk.channels.get ch).transit.map fun n => min 150 (n + 1)
        departure := (s.car.brk.channels.get ch).departure.map fun n => min 20 (n + 1)
        readback := (s.car.brk.channels.get ch).readback.map fun n => min 5 (n + 1) }) ∧
      (s.car.brk.test.isSelected = false → t.car.brk.test = s.car.brk.test) ∧
      (∀ sel, s.car.brk.test = .onSelected sel → t.car.brk.test = .onSelected { sel with
        timing := sel.timing.map fun g => { g with elapsed := min 150 (g.elapsed + 1) } }) ∧
      t.car.dor = { s.car.dor with
        leaves := t.car.dor.leaves
        sides := t.car.dor.sides
        exchange := s.car.dor.exchange.map fun x => { x with timer := x.timer.map fun n => min 2 (n + 1) }
        pollTimer := s.car.dor.pollTimer.map fun n => min 3 (n + 1) } ∧
      (∀ leaf, t.car.dor.leaves.get leaf = { s.car.dor.leaves.get leaf with
        motion := (s.car.dor.leaves.get leaf).motion.map fun n => min 800 (n + 1)
        pause := (s.car.dor.leaves.get leaf).pause.map fun n => min 200 (n + 1) }) ∧
      (∀ side, t.car.dor.sides.get side = { s.car.dor.sides.get side with
        warning := (s.car.dor.sides.get side).warning.map fun n => min 200 (n + 1) }) ∧
      t.car.vrl = { s.car.vrl with
        supervision := s.car.vrl.supervision.map fun x => { x with elapsed := min (x.limit * 100) (x.elapsed + 1) }
        shadow := s.car.vrl.shadow.map fun x => { x with elapsed := min (x.limit * 100) (x.elapsed + 1) }
        follower := s.car.vrl.follower.map fun n => min 300 (n + 1)
        reportTimer := s.car.vrl.reportTimer.map fun n => min 1000 (n + 1)
        statusTimer := s.car.vrl.statusTimer.map fun n => min 100 (n + 1)
        transmit := s.car.vrl.transmit.map fun x => { x with elapsed := min 200 (x.elapsed + 1) } })

/-- O3. Right after power-on reset the part is ready for a command and keeps every law of its outputs and its lists. What the
model chose and this rests on: notes/assumptions/1.md. -/
def Obligations.ResetKeepsTheLaws : Prop :=
  Ready State.reset ∧ OutputLaws State.reset.car ∧ TestLaw State.reset.car.brk ∧ NoticeLaw State.reset.car.evr ∧
  RestrictionLaw State.reset.car.ssv ∧ RadioLaw State.reset.car.vrl ∧ StoreLaw State.reset.car.pst

/-- O4. POWER_ON_RESET and RESET_LINE_RESET leave every block as its reset table says, every pending flag clear and the notice
queue empty among it. Of the state before, only what the pins read is left (the feedback readings, the readbacks of the release
outputs and the isolation contacts), how each transmitter ended its last frame (one that it was sending is cut) and, after
reset-line reset, the fault record. With every leaf isolated the doors are proven and no door hold stands. An output that still
reads back energised starts its readback timer anew. A POWER_ON_RESET while RESETn is low leaves the same part still in reset,
its outputs deasserted. What the model chose and this rests on: notes/assumptions/1.md, notes/assumptions/10.md,
notes/assumptions/24.md, notes/assumptions/36.md, notes/assumptions/41.md, notes/assumptions/48.md, notes/assumptions/56.md,
notes/assumptions/60.md. -/
def Obligations.HardwareResetState : Prop :=
  ∀ (s : State) (i : Instr) (strap : Bool) (record : Option FaultRecord),
    (i = .powerOnReset strap ∧ record = none) ∨ (i = .resetLineReset strap ∧ record = s.car.brk.faultRecord) →
    let readings := s.car.brk.channels.map CogRecord.reading
    let readbacks := s.car.brk.channels.map CogRecord.readsBack
    let contacts := s.car.dor.leaves.map LeafRecord.contactClosed
    let closings := s.car.lif.ports.map fun p => if p.tx = .idle then p.lastClosing else some .stopped
    let fresh := Car.reset readings readbacks contacts closings strap record
    let held := s.car.inReset = true ∧ i = .powerOnReset strap
    ∃ t, exec i s = .next t ∧ (¬ held → t = { s with car := fresh }) ∧
      (held → t = { s with car := { fresh with
        inReset := true, brk := { fresh.brk with svcValid := false, tractionOk := false } } }) ∧
      t.car.evr.notices = [] ∧ (∀ n, (t.car.evr.source n).pending = false) ∧
      t.car.ssv.waiting = ⟨true, false⟩ ∧ t.car.ssv.record.p = 0 ∧
      (t.car.dor.proven = true ↔ contacts = .all true) ∧ t.car.brk.doorsProven = t.car.dor.proven ∧
      t.car.brk.doorHold = !t.car.dor.proven ∧
      (∀ leaf, (t.car.dor.leaves.get leaf).state = if contacts.get leaf then .isolated else .unread) ∧
      (∀ ch, (t.car.brk.channels.get ch).command = .apply ∧
        (t.car.brk.channels.get ch).state = (if readings.get ch = .applied then .applied else .applying) ∧
        (t.car.brk.channels.get ch).energised = false ∧ (t.car.brk.channels.get ch).reported = false ∧
        (t.car.brk.channels.get ch).readback = if readbacks.get ch then some 0 else none)

/-- O5. RESETn driven low silences the outputs and the line ports, a frame being sent stopping without an end symbol, and
changes nothing else. While it is held low, a command other than a reset changes nothing, and a change of the pins that the part
goes on reading changes the reading alone (the second part is the model's choice: notes/assumptions/13.md). What the model chose
and this rests on: notes/assumptions/41.md, notes/assumptions/48.md. -/
def Obligations.ResetLineHeldLow : Prop :=
  (∀ s : State, ∃ t, exec .resetnAssert s = .next t ∧
    t.pending = s.pending ∧
    t.car.brk.svcValid = false ∧ t.car.brk.tractionOk = false ∧
    (∀ ch, t.car.brk.channels.get ch = { s.car.brk.channels.get ch with energised := false }) ∧
    (∀ p, t.car.lif.ports.get p = { s.car.lif.ports.get p with rx := none, tx := .idle, lastClosing :=
      if (s.car.lif.ports.get p).tx = .idle then (s.car.lif.ports.get p).lastClosing else some .stopped }) ∧
    t.car = { s.car with
      inReset := true
      lif := { s.car.lif with ports := t.car.lif.ports }
      brk := { s.car.brk with svcValid := false, tractionOk := false, channels := t.car.brk.channels } }) ∧
  (∀ (i : Instr) (s : State), s.car.inReset = true →
    match i with
    | .powerOnReset _ | .resetnAssert | .resetLineReset _ => True
    | .cbFeedbackChange ch applied released =>
      exec i s = .next { s with car := { s.car with brk := { s.car.brk with
        channels := s.car.brk.channels.set ch { s.car.brk.channels.get ch with reading := readingOf applied released } } } }
    | .readbackChange ch energised =>
      exec i s = .next { s with car := { s.car with brk := { s.car.brk with
        channels := s.car.brk.channels.set ch { s.car.brk.channels.get ch with readsBack := energised } } } }
    | .isolationContactChange leaf closed =>
      exec i s = .next { s with car := { s.car with dor := { s.car.dor with
        leaves := s.car.dor.leaves.set leaf { s.car.dor.leaves.get leaf with contactClosed := closed } } } }
    | _ => exec i s = .next s)

/-! ## What every step keeps -/

/-- O6. Every step but RESETn's assertion leaves a ready part ready: out of reset, its door and brake outputs decided from its
state, no place of the originate queue reserved. What the model chose and this rests on: notes/assumptions/3.md. -/
def Obligations.EveryStepKeepsReady : Prop :=
  ∀ s t : State, Ready s → s.pending.head? ≠ some .resetnAssert → step s = .next t → Ready t

/-- O7. The laws of the outputs hold after every step: the law of the cog brakes, the holders, the service demand, traction, the
release outputs and their readback, the proven state, the door hold and the law of the door cause, and silence while RESETn is
low. What the model chose and this rests on: notes/assumptions/8.md, notes/assumptions/11.md, notes/assumptions/13.md. -/
def Obligations.EveryStepKeepsTheOutputLaws : Prop :=
  ∀ s t : State, OutputLaws s.car → step s = .next t → OutputLaws t.car

/-- O8. No brake test stands while fault stop is in force or a cause is in the emergency cause set, after any step. -/
def Obligations.EveryStepKeepsTheTestLaw : Prop :=
  ∀ s t : State, TestLaw s.car.brk → step s = .next t → TestLaw t.car.brk

/-- O9. The law of the notice queue holds after every step. -/
def Obligations.EveryStepKeepsTheNoticeLaw : Prop :=
  ∀ s t : State, s.car.evr.sources.length = 32 → NoticeLaw s.car.evr → step s = .next t →
    t.car.evr.sources.length = 32 ∧ NoticeLaw t.car.evr

/-- O10. The laws of the restriction list and of the overflow list hold after every step. What the model chose and this rests
on: notes/assumptions/40.md. -/
def Obligations.EveryStepKeepsTheRestrictionLaw : Prop :=
  ∀ s t : State, RestrictionLaw s.car.ssv → step s = .next t → RestrictionLaw t.car.ssv

/-- O11. The bounds of the report queue and of the recent orders list hold after every step. -/
def Obligations.EveryStepKeepsTheRadioLaw : Prop :=
  ∀ s t : State, RadioLaw s.car.vrl → step s = .next t → RadioLaw t.car.vrl

/-- O12. The law of the segment table holds after every step: at most 64 records in increasing order of low, no two overlapping,
no id and no marker id stored twice, at most 48 pinned, and every record within its table. -/
def Obligations.EveryStepKeepsTheStoreLaw : Prop :=
  ∀ s t : State, StoreLaw s.car.pst → step s = .next t → StoreLaw t.car.pst

/-! ## Telegram acceptance -/

/-- O13. A telegram that telegram acceptance does not hand to its block: an UNNUMBERED car takes none; in fault stop one by
group or broadcast is not taken and one addressed to the car is answered FAULT_STOP, but for STATUS READ and FAULT RECORD READ;
one that finds fewer places than its answer can need, of the 8 of which 6 take non-reply frames, is discarded with
ORIGINATE_FULL; one that the index does not take under its addressing is discarded, or answered STATE. The answer to a brake
test telegram carries the brake test fields. MODEL'S CHOICE: the other answers carry a result and no data
(notes/assumptions/49.md). What the model chose and this rests on: notes/assumptions/3.md. -/
def Obligations.AcceptanceTurnsAway : Prop :=
  ∀ (i : Instr) (via : Via) (t : Telegram) (s : State), i.telegram = some (via, t) → Ready s →
    let kind := telegramKind t
    let queued := s.car.lif.queue.length
    let nonReplies := (s.car.lif.queue.filter fun q => q.frame.kind != 48).length
    let needed := if kind = 31 then 4 else if kind = 30 then 3 else if kind = 32 then 2 else 1
    let room := if kind = 40 ∧ s.car.brk.faultStop = false then queued < 8 ∧ nonReplies < 6 else queued + needed ≤ 8
    let groupKind := kind ∈ [2, 3, 4, 5, 8, 9, 20, 21, 22, 24, 25, 28, 34, 36, 37, 38, 39]
    let data : ReplyData := if 12 ≤ kind ∧ kind ≤ 17 then .brakeTest s.car.brk.test s.car.brk.holdPending s.car.brk.results else .none
    (s.car.lif.carNumber = none → exec i s = .next s) ∧
    (via.addressing ≠ .car → s.car.brk.faultStop = true → exec i s = .next s) ∧
    (via.addressing ≠ .car → ¬ groupKind → ¬ (via.addressing = .broadcast ∧ (kind = 44 ∨ kind = 45)) → exec i s = .next s) ∧
    (via.addressing = .car → s.car.lif.carNumber ≠ none → ¬ room →
      exec i s = .next { s with car := occur .originateFull (256 + kind) s.car }) ∧
    (via.addressing = .car → s.car.lif.carNumber ≠ none → room → s.car.brk.faultStop = true → kind ≠ 30 → kind ≠ 32 →
      exec i s = .next { s with car := replied via kind .faultStop [data] s.car }) ∧
    (via.addressing = .car → s.car.lif.carNumber ≠ none → room → s.car.brk.faultStop = false → (kind = 44 ∨ kind = 45) →
      exec i s = .next { s with car := replied via kind .state [.none] s.car })

/-- O14. A frame that ends well-formed hands its copy to telegram acceptance, whatever the addressing and the relay of the
frame: one that carries a telegram does what the telegram's own command does; REPLY, NOTICE BATCH and FAULT STOP carry nothing
for the car; a copy by group or broadcast of a kind not taken so, or with a payload that does not fit, is discarded; a copy
addressed to the car of no known kind is answered UNKNOWN_KIND, and one whose payload does not fit is answered RANGE, with the
brake test fields for a brake test telegram. A ROLL CALL does what ROLL_CALL does; a bad one makes LINE_CHECK_ERROR occur and an
aborted one does nothing. MODEL'S CHOICE: the other answers carry a result and no data (notes/assumptions/49.md), and a NOTICE
POLL whose payload does not fit is answered RANGE (notes/assumptions/37.md). What the model chose and this rests on:
notes/assumptions/3.md, notes/assumptions/4.md, notes/assumptions/5.md, notes/assumptions/35.md, notes/assumptions/61.md. -/
def Obligations.FrameEndHandsTheTelegram : Prop :=
  (∀ (i : Instr) (via : Via) (t : Telegram) (p : Port) (dest source hop : Nat) (route : RelayRoute) (s : State),
    i.telegram = some (via, t) → i.wellFormed = true → Ready s → dest < 256 → source < 256 → hop < 256 →
    let r : Reception := ⟨dest, source, telegramKind t, route, some via.addressing⟩
    let bytes := frameBytes dest source (telegramKind t) hop via.seq (telegramBytes t)
    (s.car.lif.ports.get p).rx = some r →
    exec (.lineFrameEnd p .endSymbol (bytes.drop 3)) s =
      exec i { s with car := { s.car with lif := s.car.lif.closeRelay s.car.vrl.link p r .wellFormed bytes } }) ∧
  (∀ (p : Port) (dest source kind hop seq : Nat) (payload : List Byte) (route : RelayRoute) (a : Addressing) (s : State),
    Ready s → dest < 256 → source < 256 → kind < 256 → hop < 256 → seq < 256 → payload.length ≤ 48 → kind ≠ 1 →
    let r : Reception := ⟨dest, source, kind, route, some a⟩
    let bytes := frameBytes dest source kind hop seq payload
    let closed : Car := { s.car with lif := s.car.lif.closeRelay s.car.vrl.link p r .wellFormed bytes }
    let ends := exec (.lineFrameEnd p .endSymbol (bytes.drop 3)) s
    let known := kind ∈ [2, 3, 4, 5, 8, 9, 12, 13, 14, 15, 16, 17, 20, 21, 22, 24, 25, 28, 29, 30, 31, 32, 33, 34, 36, 37, 38,
      39, 40, 44, 45]
    let groupKind := kind ∈ [2, 3, 4, 5, 8, 9, 20, 21, 22, 24, 25, 28, 34, 36, 37, 38, 39]
    let data : ReplyData := if 12 ≤ kind ∧ kind ≤ 17 then .brakeTest s.car.brk.test s.car.brk.holdPending s.car.brk.results else .none
    (s.car.lif.ports.get p).rx = some r →
    (s.car.lif.carNumber = none ∨ kind ∈ [48, 49, 50] → ends = .next { s with car := closed }) ∧
    (a ≠ .car → s.car.brk.faultStop = true ∨ (¬ groupKind ∧ ¬ (a = .broadcast ∧ (kind = 44 ∨ kind = 45))) ∨
      parseTelegram kind payload = none → ends = .next { s with car := closed }) ∧
    (a = .car → s.car.lif.carNumber ≠ none → s.car.brk.faultStop = false → kind ∉ [48, 49, 50] →
      (¬ known → 0 < s.car.lif.freePlaces →
        ends = .next { s with car := replied ⟨.car, seq⟩ kind .unknownKind [.none] closed }) ∧
      (known → kind ≠ 44 → kind ≠ 45 → parseTelegram kind payload = none →
        (if kind = 40 then s.car.lif.nonReplyRoom = true else placesFor kind ≤ s.car.lif.freePlaces) →
        ends = .next { s with car := replied ⟨.car, seq⟩ kind .range [data] closed }))) ∧
  (∀ (p : Port) (closing : Closing) (dest source hop seq : Nat) (rest : List Byte) (s : State),
    Ready s → dest < 256 → source < 256 → hop < 256 → seq < 256 →
    (s.car.lif.ports.get p).rx = some ⟨dest, source, 1, .none, none⟩ →
    let closed : Car := { s.car with lif := { s.car.lif with
      ports := s.car.lif.ports.set p { s.car.lif.ports.get p with rx := none } } }
    let v := verdict closing ([Byte.ofNat dest, Byte.ofNat source, 1] ++ rest)
    exec (.lineFrameEnd p .endSymbol ((frameBytes dest source 1 hop seq []).drop 3)) s =
      exec (.rollCall p dest source hop seq) { s with car := closed } ∧
    (v = .bad → exec (.lineFrameEnd p closing rest) s =
      .next { s with car := occur .lineCheckError (256 * p.number + 1) closed }) ∧
    (v = .aborted → exec (.lineFrameEnd p closing rest) s = .next { s with car := closed }))

/-- O15. A payload read as a telegram of a kind is the telegram whose payload it is, for every telegram of the index and every
value its fields can carry. -/
def Obligations.TelegramPayloadsRoundTrip : Prop :=
  ∀ t : Telegram, t.wellFormed = true → parseTelegram (telegramKind t) (telegramBytes t) = some t

/-- O16. A radio frame read back is the frame, an order's body read as its kind is the order, and a line frame made of its
fields with an end symbol is well-formed and gives back its payload. A received line frame with another length byte or CRC is
bad; one that an end symbol does not close, or of 57 bytes or more, is aborted. The frames a car originates are well-formed: a
REPLY goes to 0 with hop 0 and the telegram's seq, its kind, result code and part byte first and at most 45 bytes of data; a
RADIO STATUS goes to 255 with the link state and the station. What the model chose and this rests on: notes/assumptions/9.md. -/
def Obligations.FramesRoundTrip : Prop :=
  (∀ (id low high speed appliesTo : Nat), (Telegram.restrictionAdd id low high speed appliesTo).wellFormed = true →
    parseOrder 1 (orderBytes (.restrictionAdd id low high speed appliesTo)) = some (.restrictionAdd id low high speed appliesTo)) ∧
  (∀ id, id < 256 → parseOrder 2 (orderBytes (.restrictionCancel id)) = some (.restrictionCancel id)) ∧
  parseOrder 3 (orderBytes .remoteStop) = some .remoteStop ∧
  (∀ n, n < 65536 → parseOrder 4 (orderBytes (.stopRelease n)) = some (.stopRelease n)) ∧
  (∀ body : SegmentBody, body.wellFormed = true →
    parseOrder 5 (orderBytes (.segmentDelivery body)) = some (.segmentDelivery body)) ∧
  parseOrder 6 (orderBytes .positionPoll) = some .positionPoll ∧
  (∀ f : RadioFrame, f.station < 256 → f.train < 65536 → f.kind < 256 → f.number < 65536 → f.body.length ≤ 40 →
    parseRadio (radioBytes f) = some f) ∧
  (∀ (dest source kind hop seq : Nat) (payload : List Byte), payload.length ≤ 48 →
    verdict .endSymbol (frameBytes dest source kind hop seq payload) = .wellFormed ∧
    framePayload (frameBytes dest source kind hop seq payload) = payload) ∧
  (∀ bytes : List Byte, bytes.length < 57 → bytes.length ≠ 8 + (bytes.getD 5 0).toNat → verdict .endSymbol bytes = .bad) ∧
  (∀ bytes : List Byte, bytes.length < 57 → 8 ≤ bytes.length →
    crc (bytes.take (bytes.length - 2)) ≠ BitVec.ofNat 16 (be (bytes.drop (bytes.length - 2))) →
    verdict .endSymbol bytes = .bad) ∧
  (∀ (closing : Closing) (bytes : List Byte), closing ≠ .endSymbol ∨ 57 ≤ bytes.length → verdict closing bytes = .aborted) ∧
  (∀ (f : Frame) (source : Nat) (link : LinkState), (∀ kind number body, f = .radioRelay kind number body → body.length ≤ 40) →
    verdict .endSymbol (f.bytes source link) = .wellFormed) ∧
  (∀ (kind seq source : Nat) (result : Result) (part parts : Nat) (data : ReplyData) (link : LinkState),
    ∃ (bytes : List Byte) (check : List Byte), bytes.length ≤ 45 ∧ check.length = 2 ∧ (data = .none → bytes = []) ∧
      (Frame.reply kind seq result part parts data).bytes source link =
        [0, Byte.ofNat source, 48, 0, Byte.ofNat seq, Byte.ofNat (3 + bytes.length), Byte.ofNat kind, Byte.ofNat result.code,
          Byte.ofNat (16 * part + parts)] ++ bytes ++ check) ∧
  (∀ (station source : Nat) (link : LinkState), ∃ check : List Byte, check.length = 2 ∧
    (Frame.radioStatus station).bytes source link =
      [255, Byte.ofNat source, 45, 0, 0, 2, Byte.ofNat link.code, Byte.ofNat station] ++ check)

/-! ## The consist line -/

/-- O17. What the receiver decides once dest and kind have arrived at a port that receives nothing: which frames are relayed and
which are taken, by the line state, the car number and the group filter, and where a relayed frame goes. What the model chose
and this rests on: notes/assumptions/3.md, notes/assumptions/38.md. -/
def Obligations.FrameHeaderDecides : Prop :=
  ∀ (p : Port) (dest source kind : Nat) (s : State), Ready s → (s.car.lif.ports.get p).rx = none →
    ∃ (relay : Bool) (copy : Option Addressing) (route : RelayRoute),
      (kind = 1 → relay = false ∧ copy = none) ∧
      (kind ≠ 1 → s.car.lif.carNumber = none → relay = true ∧ copy = none) ∧
      (kind ≠ 1 → ∀ n, s.car.lif.carNumber = some n →
        (dest = n → relay = false ∧ copy = some .car) ∧
        (dest ≠ n → dest = 255 → relay = true ∧ copy = some .broadcast) ∧
        (dest ≠ n → 16 ≤ dest → dest ≤ 239 → (∃ w ∈ s.car.lif.groups, w.valid = true ∧ dest &&& w.mask = w.value &&& w.mask) →
          relay = true ∧ copy = some .group) ∧
        (dest ≠ n → dest ≠ 255 →
          (dest < 16 ∨ 239 < dest ∨ ¬ ∃ w ∈ s.car.lif.groups, w.valid = true ∧ dest &&& w.mask = w.value &&& w.mask) →
          relay = true ∧ copy = none)) ∧
      (relay = false → route = .none) ∧
      (relay = true → (s.car.lif.ports.get p.other).tx = .idle → route = .direct) ∧
      (relay = true → (s.car.lif.ports.get p.other).tx ≠ .idle → (s.car.lif.ports.get p.other).held.length < 2 →
        route = .held) ∧
      (relay = true → (s.car.lif.ports.get p.other).tx ≠ .idle → 2 ≤ (s.car.lif.ports.get p.other).held.length →
        route = .overrun) ∧
      (let received := s.car.lif.ports.set p { s.car.lif.ports.get p with rx := some ⟨dest, source, kind, route, copy⟩ }
      let ports := received.set p.other
        { s.car.lif.ports.get p.other with
          tx := if route = .direct then Transmitter.relaying else (s.car.lif.ports.get p.other).tx }
      let c : Car := { s.car with lif := { s.car.lif with ports := ports } }
      exec (.lineFrameHeader p dest source kind) s =
        .next { s with car := if route = .overrun then occur Source.relayOverrun p.other.number c else c })

/-- O18. The relay side and the copy of a frame's end: a frame relayed as it arrived is closed by an end symbol when it is
well-formed and by an abort symbol otherwise, and its port then starts the oldest held frame, or else the first originated frame
that goes to it, or falls idle; one in a hold buffer stays there only when it is well-formed; a bad copy makes LINE_CHECK_ERROR
occur and an aborted one nothing; no other block is touched by a frame without a copy. What the model chose and this rests on:
notes/assumptions/38.md, notes/assumptions/41.md, notes/assumptions/61.md, notes/assumptions/66.md. -/
def Obligations.FrameEndClosesTheRelay : Prop :=
  ∀ (p : Port) (closing : Closing) (rest : List Byte) (r : Reception) (s : State), Ready s → r.kind ≠ 1 →
    (s.car.lif.ports.get p).rx = some r →
    let bytes := [Byte.ofNat r.dest, Byte.ofNat r.source, Byte.ofNat r.kind] ++ rest
    let v := verdict closing bytes
    let own := s.car.lif.ports.get p
    let out := s.car.lif.ports.get p.other
    let symbol : Option Closing := some (if v = .wellFormed then .endSymbol else .abortSymbol)
    let toCab (q : Queued) : Prop := q.frame.kind = 48 ∨ q.frame.kind = 49
    let goes (x : Port) (q : Queued) : Prop :=
      (toCab q ∧ s.car.lif.cabSide = some x ∧ q.progress = ⟨.waiting, .waiting⟩) ∨ (¬ toCab q ∧ q.progress.get x = .waiting)
    let source (q : Queued) : Nat := if q.frame.kind = 48 then s.car.lif.carNumber.getD 0 else q.source
    -- the port the frame arrived at starts nothing of its own
    let quiet := own.tx ≠ .idle ∨ (own.held = [] ∧ ∀ q ∈ s.car.lif.queue, ¬ goes p q)
    (v ≠ .wellFormed ∨ r.copy = none) →
    ∃ t, exec (.lineFrameEnd p closing rest) s = .next t ∧ t.pending = s.pending ∧
      (t.car.lif.ports.get p).rx = none ∧ (quiet → t.car.lif.ports.get p = { own with rx := none }) ∧
      (r.route = .direct → ∀ h q, out.held = h :: q →
        t.car.lif.ports.get p.other = { out with tx := .sendingHeld h, held := q, lastClosing := symbol } ∧
        (quiet → t.car.lif.queue = s.car.lif.queue)) ∧
      (r.route = .direct → out.held = [] → (∀ q ∈ s.car.lif.queue, ¬ goes p.other q) →
        t.car.lif.ports.get p.other = { out with tx := .idle, lastClosing := symbol } ∧
        (quiet → t.car.lif.queue = s.car.lif.queue)) ∧
      (r.route = .direct → out.held = [] → ∀ before q rest, s.car.lif.queue = before ++ q :: rest → goes p.other q →
        (∀ x ∈ before, ¬ goes p.other x) →
        t.car.lif.ports.get p.other = { out with
          tx := .sendingOriginated ⟨q.frame, source q, if q.frame.kind = 45 then some s.car.vrl.link else none,
            q.frame.bytes (source q) s.car.vrl.link⟩
          lastClosing := symbol } ∧
        (quiet → t.car.lif.queue = before ++ { q with progress := q.progress.set p.other .sending } :: rest)) ∧
      (r.route = .held → out.tx ≠ .idle → quiet → t.car.lif.queue = s.car.lif.queue) ∧
      (r.route = .none ∨ r.route = .overrun → t.car.lif.queue = s.car.lif.queue) ∧ t.car.lif.frames = s.car.lif.frames ∧
      (r.route = .held → out.tx ≠ .idle → t.car.lif.ports.get p.other =
        { out with held := if v = .wellFormed then out.held ++ [bytes] else out.held }) ∧
      (r.route = .none ∨ r.route = .overrun → t.car.lif.ports.get p.other = out) ∧
      t.car = { s.car with
        lif := { s.car.lif with ports := t.car.lif.ports, queue := t.car.lif.queue }
        evr := t.car.evr
        vrl := t.car.vrl } ∧
      (v = .bad → r.copy ≠ none →
        t.car.evr = s.car.evr.take s.car.now .lineCheckError (256 * p.number + 1) ∧
        t.car.vrl = alarmed s.car .lineCheckError (256 * p.number + 1)) ∧
      (v ≠ .bad ∨ r.copy = none → t.car.evr = s.car.evr ∧ t.car.vrl = s.car.vrl)

/-- O19. A transmitter that ends a frame of its own closes it with an end symbol and takes the oldest held frame before any
originated one, and otherwise the first frame of the originate queue that goes to its port: broadcasts on both ports, frames to
the cab on the cab-side port alone, a RADIO STATUS with the link state of that moment. An originated frame leaves the queue when
it has been sent on each port it goes to. A port that sends nothing of its own takes no notice. A frame placed in an empty queue
with both ports free starts at once on each port it goes to. What the model chose and this rests on: notes/assumptions/9.md,
notes/assumptions/38.md, notes/assumptions/41.md, notes/assumptions/66.md. -/
def Obligations.TransmitDoneStartsTheNext : Prop :=
  (∀ (p : Port) (s : State), Ready s →
    let ps := s.car.lif.ports.get p
    let other := s.car.lif.ports.get p.other
    let finished (q : Queued) : Queued :=
      if q.progress.get p = .sending then { q with progress := q.progress.set p .sent } else q
    let toCab (q : Queued) : Prop := q.frame.kind = 48 ∨ q.frame.kind = 49
    let everywhere (q : Queued) : Prop :=
      (toCab q ∧ (q.progress.a = .sent ∨ q.progress.b = .sent)) ∨ (q.progress.a = .sent ∧ q.progress.b = .sent)
    let goes (q : Queued) : Prop :=
      (toCab q ∧ s.car.lif.cabSide = some p ∧ q.progress = ⟨.waiting, .waiting⟩) ∨ (¬ toCab q ∧ q.progress.get p = .waiting)
    let source (q : Queued) : Nat := if q.frame.kind = 48 then s.car.lif.carNumber.getD 0 else q.source
    (ps.tx = .idle ∨ ps.tx = .relaying → exec (.lineTransmitDone p) s = .next s) ∧
    ((∃ bytes, ps.tx = .sendingHeld bytes) ∨ (∃ out, ps.tx = .sendingOriginated out) →
      ∃ (t : State) (queue : List Queued), exec (.lineTransmitDone p) s = .next t ∧ t.pending = s.pending ∧
        t.car = { s.car with lif := { s.car.lif with queue := t.car.lif.queue, ports := t.car.lif.ports } } ∧
        ((∃ bytes, ps.tx = .sendingHeld bytes) → queue = s.car.lif.queue) ∧
        ((∃ out, ps.tx = .sendingOriginated out) →
          (∀ q : Queued, q.complete = true ↔ everywhere q) ∧
          queue = (s.car.lif.queue.map finished).filter fun q => !q.complete) ∧
        t.car.lif.frames = queue.map (·.frame) ∧
        (t.car.lif.ports.get p).lastClosing = some .endSymbol ∧ (t.car.lif.ports.get p).rx = ps.rx ∧
        (other.tx ≠ .idle → t.car.lif.ports.get p.other = other) ∧
        (∀ h rest, ps.held = h :: rest → (t.car.lif.ports.get p).tx = .sendingHeld h ∧ (t.car.lif.ports.get p).held = rest ∧
          (other.tx ≠ .idle → t.car.lif.queue = queue)) ∧
        (ps.held = [] → (t.car.lif.ports.get p).held = [] ∧
          ((∀ q ∈ queue, ¬ goes q) → (t.car.lif.ports.get p).tx = .idle) ∧
          (∀ before q rest, queue = before ++ q :: rest → goes q → (∀ x ∈ before, ¬ goes x) →
            (t.car.lif.ports.get p).tx = .sendingOriginated ⟨q.frame, source q,
              if q.frame.kind = 45 then some s.car.vrl.link else none, q.frame.bytes (source q) s.car.vrl.link⟩ ∧
            (other.tx ≠ .idle → t.car.lif.queue =
              before ++ { q with progress := q.progress.set p .sending } :: rest))))) ∧
  (∀ (l : Lif) (link : LinkState) (f : Frame), l.queue = [] →
    (∀ p, (l.ports.get p).tx = .idle ∧ (l.ports.get p).held = []) →
    let number := l.carNumber.getD 0
    let out : Outgoing := ⟨f, number, if f.kind = 45 then some link else none, f.bytes number link⟩
    let m := l.append link [f]
    m.frames = [f] ∧
    (f.kind ≠ 48 → f.kind ≠ 49 → ∀ p, (m.ports.get p).tx = .sendingOriginated out) ∧
    (f.kind = 48 ∨ f.kind = 49 →
      (∀ p, l.cabSide = some p → (m.ports.get p).tx = .sendingOriginated out ∧ (m.ports.get p.other).tx = .idle) ∧
      (l.cabSide = none → m.ports = l.ports)))

/-- O20. ROLL CALL numbers an UNNUMBERED car, and a car at standstill outside fault stop, by its hop; a hop of 8 or more
unnumbers a car at standstill outside fault stop; a car it finds numbered and moving or in fault stop keeps its number and
LINE_CHECK_ERROR occurs. The frame takes a hold buffer of the other port; when both are full it is discarded, the buffers stay
as they are and RELAY_OVERRUN occurs with the other port's number (after the LINE_CHECK_ERROR of the same frame: the model's
order, notes/assumptions/62.md), and the car is numbered all the same. What the model chose and this rests on:
notes/assumptions/35.md. -/
def Obligations.RollCallNumbersTheCar : Prop :=
  ∀ (p : Port) (dest source hop seq : Nat) (s : State), Ready s →
    let free := s.car.odo.standstill = true ∧ s.car.brk.faultStop = false
    let ps := s.car.lif.ports.get p.other
    let bytes := frameBytes dest source 1 (if hop ≤ 7 then hop + 1 else hop) seq []
    ∃ t, exec (.rollCall p dest source hop seq) s = .next t ∧ t.pending = s.pending ∧
      t.car = { s.car with lif := t.car.lif, evr := t.car.evr, vrl := t.car.vrl } ∧
      (hop ≤ 7 → s.car.lif.carNumber = none ∨ free → t.car.lif.carNumber = some (hop + 1) ∧ t.car.lif.cabSide = some p) ∧
      (hop ≤ 7 → s.car.lif.carNumber ≠ none → ¬ free →
        t.car.lif.carNumber = s.car.lif.carNumber ∧ t.car.lif.cabSide = s.car.lif.cabSide) ∧
      (8 ≤ hop → free → t.car.lif.carNumber = none ∧ t.car.lif.cabSide = s.car.lif.cabSide) ∧
      (8 ≤ hop → ¬ free → t.car.lif.carNumber = s.car.lif.carNumber ∧ t.car.lif.cabSide = s.car.lif.cabSide) ∧
      (ps.held.length < 2 → ps.tx ≠ .idle → (t.car.lif.ports.get p.other).held = ps.held ++ [bytes]) ∧
      (ps.held = [] → ps.tx = .idle → (t.car.lif.ports.get p.other).tx = .sendingHeld bytes) ∧
      (2 ≤ ps.held.length → ps.tx ≠ .idle → t.car.lif.ports.get p.other = ps) ∧
      t.car.lif.frames = s.car.lif.frames ∧
      t.car.lif.groups = s.car.lif.groups ∧ t.car.lif.params = s.car.lif.params ∧ t.car.lif.demand = s.car.lif.demand ∧
      (ps.held.length < 2 →
        (hop ≤ 7 ∧ (s.car.lif.carNumber = none ∨ free) → t.car.evr = s.car.evr ∧ t.car.vrl = s.car.vrl) ∧
        (hop ≤ 7 ∧ s.car.lif.carNumber ≠ none ∧ ¬ free →
          t.car.evr = s.car.evr.take s.car.now .lineCheckError (256 * p.number + 3)) ∧
        (8 ≤ hop → t.car.evr = s.car.evr.take s.car.now .lineCheckError (256 * p.number + 4))) ∧
      (2 ≤ ps.held.length →
        (hop ≤ 7 ∧ (s.car.lif.carNumber = none ∨ free) →
          t.car.evr = s.car.evr.take s.car.now .relayOverrun p.other.number ∧
          t.car.vrl = alarmed { s.car with lif := { s.car.lif with carNumber := some (hop + 1) } } .relayOverrun p.other.number) ∧
        (hop ≤ 7 ∧ s.car.lif.carNumber ≠ none ∧ ¬ free → t.car.evr =
          (s.car.evr.take s.car.now .lineCheckError (256 * p.number + 3)).take s.car.now .relayOverrun p.other.number) ∧
        (8 ≤ hop → t.car.evr =
          (s.car.evr.take s.car.now .lineCheckError (256 * p.number + 4)).take s.car.now .relayOverrun p.other.number))

/-! ## The driver demand, the group filter and the parameters -/

/-- O21. A DRIVER DEMAND with a field out of range leaves the image as it is; a valid one replaces the image, restarts the
line-loss timer and ends LINE_LOSS; each changed field is handed to the blocks that read it; one that carries the image's own
fields restarts the timer and changes nothing else. The line-loss timer at 1.0 s: it stops, LINE_LOSS becomes present, the
driver demand copy counts the release as absent and the level as 0, and LINE_LOSS is in the emergency cause set with its
condition present, so that both cog brakes are commanded to apply. An expiry that finds the timer stopped or short of 1.0 s
changes nothing, so a valid DRIVER DEMAND taken first lets the expiry of the same moment start nothing. What the model chose and
this rests on: notes/assumptions/6.md, notes/assumptions/53.md, notes/assumptions/69.md. -/
def Obligations.DriverDemandAndLineLoss : Prop :=
  (∀ (via : Via) (direction level release load : Nat) (s : State), Ready s → Intact s.car →
    Reaches via (.driverDemand direction level release load) s.car →
    let i := Instr.driverDemand via direction level release load
    (2 < direction ∨ 7 < level ∨ 1 < release ∨ 2 < load →
      exec i s = .next { s with car := replied via 2 .range [.none] s.car }) ∧
    (∀ (d : Direction) (c : LoadClass), direction = d.code → LoadClass.ofCode load = some c → level ≤ 7 → release ≤ 1 →
      let image : DriverDemand := ⟨d, level, release == 1, c⟩
      (image = s.car.lif.demand → s.car.lif.lineLoss = false → exec i s =
        .next { s with car := replied via 2 .accepted [.none] { s.car with lif := { s.car.lif with lineLossTimer := some 0 } } }) ∧
      (∃ t, exec i s = .next t ∧ t.pending = s.pending ∧
        t.car.lif = ({ s.car.lif with demand := image, lineLossTimer := some 0, lineLoss := false } : Lif).answered
          s.car.vrl.link via 2 .accepted [.none] ∧
        t.car.tlf = s.car.tlf ∧ t.car.dor = s.car.dor ∧ t.car.vrl = s.car.vrl ∧
        t.car.odo = { s.car.odo with
          rollbackDist := if d = s.car.lif.demand.direction then s.car.odo.rollbackDist else 0
          travelRef := if d = s.car.lif.demand.direction then s.car.odo.travelRef else d.sense.or s.car.odo.travelRef } ∧
        t.car.pst = { s.car.pst with
          coverage := if t.car.odo.travelRef = s.car.odo.travelRef then s.car.pst.coverage
            else coverageOf s.car.pst.readable s.car.odo.position s.car.lif.params.carLength t.car.odo.travelRef } ∧
        t.car.ssv.record = s.car.ssv.record ∧ t.car.ssv.restrictions = s.car.ssv.restrictions ∧
        t.car.ssv.overflow = s.car.ssv.overflow ∧ t.car.ssv.running = s.car.ssv.running ∧
        (d ≠ s.car.lif.demand.direction ∨ c ≠ s.car.lif.demand.load → t.car.ssv.waiting.cause = true) ∧
        t.car.brk.copy = (if level = s.car.lif.demand.level ∧ (release == 1) = s.car.lif.demand.release ∧
          s.car.lif.lineLoss = false then s.car.brk.copy else ⟨level, release == 1⟩) ∧
        t.car.brk.test = s.car.brk.test ∧ t.car.brk.results = s.car.brk.results ∧
        (∀ cause, cause ≠ .lineLoss → t.car.brk.causes.get cause = s.car.brk.causes.get cause) ∧
        (s.car.lif.lineLoss = true → t.car.brk.conditions.lineLoss = false ∧
          t.car.brk.causes.lineLoss = s.car.brk.causes.lineLoss.map fun r => { r with present := false }) ∧
        t.car.evr = (if s.car.lif.lineLoss = true then
          s.car.evr.modify 29 (fun r => { r with pending := false }) else s.car.evr) ∧
        exec .lineLossTimerExpiry t = .next t))) ∧
  (∀ s : State, Ready s →
    (Timer.reached 100 s.car.lif.lineLossTimer = false → exec .lineLossTimerExpiry s = .next s) ∧
    (Timer.reached 100 s.car.lif.lineLossTimer = true → s.car.lif.lineLoss = false →
      ∃ t, exec .lineLossTimerExpiry s = .next t ∧ t.pending = s.pending ∧
        t.car.lif = { s.car.lif with lineLossTimer := none, lineLoss := true } ∧
        t.car.brk.copy = ⟨0, false⟩ ∧ t.car.brk.conditions.lineLoss = true ∧
        t.car.brk.causes.lineLoss = some ((s.car.brk.causes.lineLoss.map fun r => { r with present := true }).getD
          ⟨s.car.now, true⟩) ∧
        (∀ cause, cause ≠ .lineLoss → t.car.brk.causes.get cause = s.car.brk.causes.get cause) ∧
        t.car.brk.channels.cbA.command = .apply ∧ t.car.brk.channels.cbB.command = .apply ∧
        t.car.brk.svcLevel = 7 ∧ t.car.brk.tractionOk = false ∧
        t.car.brk.test = (if s.car.brk.causes.lineLoss = none then .off else s.car.brk.test) ∧
        t.car.odo = s.car.odo ∧ t.car.tlf = s.car.tlf ∧ t.car.pst = s.car.pst ∧ t.car.dor = s.car.dor ∧
        t.car.ssv.record = s.car.ssv.record ∧
        (s.car.brk.test = .off → s.car.brk.causes.lineLoss = none → t.car.evr =
          (s.car.evr.take s.car.now .lineLoss 0).take s.car.now .emergencySet 8)))

/-- O22. GROUP SET: an entry number outside 1 to 8, or a value or mask above 255, is RANGE; otherwise the named entry takes the
three fields and the reply is ACCEPTED, and the decision on a frame whose dest and kind have arrived before stands. The group
filter: a frame is taken by group exactly when its dest, 16 to 239, matches a valid entry bit by bit under the entry's mask;
power-on reset and reset-line reset leave its eight entries invalid with value and mask 0, and RESTART keeps them. PARAMETER
READ: the id, the value in force, the range and the default, or RANGE for an id outside the index. -/
def Obligations.GroupSetAndParameterRead : Prop :=
  (∀ (via : Via) (entry : Nat) (valid : Bool) (value mask : Nat) (s : State), Ready s →
    Reaches via (.groupSet entry valid value mask) s.car →
    (entry < 1 ∨ 8 < entry ∨ 255 < value ∨ 255 < mask →
      exec (.groupSet via entry valid value mask) s = .next { s with car := replied via 33 .range [.none] s.car }) ∧
    (1 ≤ entry → entry ≤ 8 → value ≤ 255 → mask ≤ 255 →
      let groups := s.car.lif.groups.set (entry - 1) ⟨valid, value, mask⟩
      let t : State := ⟨replied via 33 .accepted [.none] { s.car with lif := { s.car.lif with groups := groups } }, s.pending⟩
      exec (.groupSet via entry valid value mask) s = .next t ∧
        ∀ p, (t.car.lif.ports.get p).rx = (s.car.lif.ports.get p).rx)) ∧
  (∀ (p : Port) (dest source kind n : Nat) (s : State), Ready s → (s.car.lif.ports.get p).rx = none → kind ≠ 1 →
    s.car.lif.carNumber = some n →
    ∃ (t : State) (r : Reception), exec (.lineFrameHeader p dest source kind) s = .next t ∧
      (t.car.lif.ports.get p).rx = some r ∧
      (r.copy = some .group ↔ dest ≠ n ∧ 16 ≤ dest ∧ dest ≤ 239 ∧
        ∃ w ∈ s.car.lif.groups, w.valid = true ∧ dest &&& w.mask = w.value &&& w.mask)) ∧
  (∀ (i : Instr) (strap : Bool) (s : State), i = .powerOnReset strap ∨ i = .resetLineReset strap →
    ∃ t, exec i s = .next t ∧ t.car.lif.groups = List.replicate 8 ⟨false, 0, 0⟩) ∧
  (∀ (via : Via) (s : State), Ready s → Reaches via .restart s.car →
    ∃ t, exec (.restart via) s = .next t ∧ t.car.lif.groups = s.car.lif.groups) ∧
  (∀ (via : Via) (id : Nat) (s : State), Ready s → Reaches via (.parameterRead id) s.car →
    (Parameter.ofId id = none → exec (.parameterRead via id) s = .next { s with car := replied via 29 .range [.none] s.car }) ∧
    (∀ q, Parameter.ofId id = some q → exec (.parameterRead via id) s =
      .next ⟨replied via 29 .accepted [.parameter id (s.car.lif.params.value q) q.range.1 q.range.2 (Params.reset.value q)] s.car,
        s.pending⟩))

/-- O23. PARAMETER SET is judged in the order RANGE for the id, NOT_STANDSTILL, BRAKES, RANGE for a named value; otherwise the
value is clamped and installed, the answer says whether a clamp changed it, and a clamp that changed it makes PARAMETER_CLAMPED
occur. A changed value acts on its owner at once: thresholds are worked out anew, a new car length recomputes the coverage and
causes an evaluation, a new drift or U_max works out the uncertainty and may lose the position, a parameter of the supervisor
causes an evaluation, and the others wait for their next use. What the model chose and this rests on: notes/assumptions/32.md.
-/
def Obligations.ParameterSetJudgesAndInstalls : Prop :=
  ∀ (via : Via) (id v : Nat) (s : State), Ready s → Intact s.car → Reaches via (.parameterSet id v) s.car →
    let i := Instr.parameterSet via id v
    (Parameter.ofId id = none → exec i s = .next { s with car := replied via 28 .range [.none] s.car }) ∧
    (∀ q, Parameter.ofId id = some q →
      (s.car.odo.standstill = false → exec i s = .next { s with car := replied via 28 .notStandstill [.none] s.car }) ∧
      (s.car.odo.standstill = true →
        (s.car.brk.channels.cbA.reading ≠ .applied ∨ s.car.brk.channels.cbB.reading ≠ .applied) →
        exec i s = .next { s with car := replied via 28 .brakes [.none] s.car }) ∧
      (s.car.odo.standstill = true → s.car.brk.channels.cbA.reading = .applied →
        s.car.brk.channels.cbB.reading = .applied → q.named = true → 1 < v →
        exec i s = .next { s with car := replied via 28 .range [.none] s.car }) ∧
      (s.car.odo.standstill = true → s.car.brk.channels.cbA.reading = .applied →
        s.car.brk.channels.cbB.reading = .applied → (q.named = true → v ≤ 1) →
        let w := s.car.lif.params.clamp q v
        ∃ t, exec i s = .next t ∧ t.pending = s.pending ∧
          t.car.lif.params = s.car.lif.params.install q w ∧ t.car.lif.params.value q = w ∧
          t.car.lif.demand = s.car.lif.demand ∧ t.car.lif.groups = s.car.lif.groups ∧
          t.car.lif.frames = s.car.lif.frames ++
            answerFrames via 28 (if w = v then .accepted else .acceptedClamped) [.none] ∧
          t.car.dor = s.car.dor ∧ t.car.pst.table = s.car.pst.table ∧ t.car.pst.windows = s.car.pst.windows ∧
          t.car.odo.channels = s.car.odo.channels ∧
          (w ≠ v → (t.car.evr.source 31).pending = true ∨ s.car.evr.sources.length ≤ 31) ∧
          (w = s.car.lif.params.value q → w = v →
            t.car = replied via 28 .accepted [.none]
              { s.car with lif := { s.car.lif with params := s.car.lif.params.install q w } }) ∧
          (let n := s.car.lif.params.install q w
          let p := s.car.odo.position
          let unc := min 1999999 (p.fixUnc + (p.travel * n.drift + 999) / 1000)
          let widened : PositionRecord :=
            { p with unc := unc, state := if p.state = .known ∧ n.uMax < unc then .lost else p.state }
          let evaluated := q ∈ [.reactionTime, .horizon, .marginW, .marginI, .marginE, .radioCap, .meshCap, .degradedCap,
            .lostCap] ∨ ∃ grip both load, q = .capability grip both load
          w ≠ s.car.lif.params.value q →
            (∀ ch, q = .thresholdMode ch ∨ q = .offsetF ch ∨ q = .offsetO ch →
              t.car.tlf = s.car.tlf.set ch ((s.car.tlf.get ch).rework n ch)) ∧
            (q = .i0Min ∨ q = .i0Span → ∀ ch, t.car.tlf.get ch = (s.car.tlf.get ch).rework n ch) ∧
            ((∀ ch, q ≠ .thresholdMode ch ∧ q ≠ .offsetF ch ∧ q ≠ .offsetO ch) → q ≠ .i0Min → q ≠ .i0Span →
              t.car.tlf = s.car.tlf) ∧
            (q = .carLength → t.car.ssv.waiting.cause = true ∧
              t.car.pst.coverage = coverageOf s.car.pst.readable p w s.car.odo.travelRef) ∧
            (q = .drift ∨ q = .uMax → p.state = .unknown → t.car.odo = s.car.odo ∧ t.car.ssv = s.car.ssv) ∧
            (q = .drift ∨ q = .uMax → p.state ≠ .unknown → t.car.odo = { s.car.odo with position := widened } ∧
              t.car.pst.coverage = coverageOf s.car.pst.readable widened n.carLength s.car.odo.travelRef ∧
              (widened.state ≠ p.state → t.car.ssv.waiting.cause = true ∧
                ((t.car.evr.source 8).pending = true ∨ s.car.evr.sources.length ≤ 8))) ∧
            (evaluated → t.car.ssv = { s.car.ssv with waiting := ⟨true, s.car.ssv.waiting.update⟩ } ∧
              t.car.odo = s.car.odo ∧ t.car.pst = s.car.pst) ∧
            (q ∈ [.setUnc, .markerTol, .platformOverride, .tRs, .tShadowMax, .trainId] ∨
                (∃ ch, q = .mountingSense ch ∨ q = .pitch ch) →
              t.car.ssv = s.car.ssv ∧ t.car.odo = s.car.odo ∧ t.car.pst = s.car.pst ∧ (w = v → t.car.vrl = s.car.vrl)))))

/-- O24. The clamps of PARAMETER SET: a numeric value to its range, the car length further to an even value, and each margin
further to the two margins as they stand, whose order is kept. -/
def Obligations.ParameterClampsHold : Prop :=
  ∀ (p : Params) (q : Parameter) (v : Nat), q.named = false →
    (q ≠ .marginW → q ≠ .marginI → q ≠ .marginE → q.range.1 ≤ p.clamp q v ∧ p.clamp q v ≤ q.range.2) ∧
    (q ≠ .carLength → q ≠ .marginW → q ≠ .marginI → q ≠ .marginE → q.range.1 ≤ v → v ≤ q.range.2 → p.clamp q v = v) ∧
    (q = .carLength → p.clamp q v = max 1000 (min 4000 v) / 2 * 2) ∧
    (q = .marginW → p.clamp q v = min (min 100 v) p.marginI) ∧
    (q = .marginI → p.clamp q v = max p.marginW (min (min 100 v) p.marginE)) ∧
    (q = .marginE → p.clamp q v = max (min 100 v) p.marginI) ∧
    (p.marginW ≤ p.marginI → p.marginI ≤ p.marginE → p.marginE ≤ 100 → q = .marginW ∨ q = .marginI ∨ q = .marginE →
      let n := p.install q (p.clamp q v)
      n.marginW ≤ n.marginI ∧ n.marginI ≤ n.marginE ∧ n.marginE ≤ 100)

/-! ## Events, status and restart -/

/-- O25. An occurrence sets its source's pending flag whatever its enable and level; it offers a notice when the source is
enabled, its level is above 0 and its route is NOTICE or BOTH, and in the radio car it queues an alarm when the route is RADIO
or BOTH. It touches no other block. A notice offered is merged into its source's notice, which keeps its level and place;
otherwise entered behind every notice of its level or a higher one; with the queue full, in the place of the newest notice of
the lowest level when its own level is higher, and discarded otherwise, each with one more notice lost. What the model chose and
this rests on: notes/assumptions/14.md. -/
def Obligations.OccurrencesAndNotices : Prop :=
  (∀ (src : Source) (detail : Nat) (c : Car), c.evr.sources.length = 32 →
    let r := c.evr.source src.number
    let d := occur src detail c
    d = { c with evr := d.evr, vrl := d.vrl } ∧
    d.evr.sources.length = 32 ∧ d.evr.source src.number = { r with pending := true } ∧
    (∀ n, n ≠ src.number → d.evr.source n = c.evr.source n) ∧
    (r.enable = false ∨ r.level = 0 ∨ r.route = .radio → d.evr.notices = c.evr.notices ∧ d.evr.lost = c.evr.lost) ∧
    (r.enable = true → 0 < r.level → r.route ≠ .radio →
      d.evr.notices = (c.evr.offer ⟨src.number, r.level, c.now, detail⟩).notices ∧
      d.evr.lost = (c.evr.offer ⟨src.number, r.level, c.now, detail⟩).lost) ∧
    (c.vrl.role = .follower ∨ r.enable = false ∨ r.level = 0 ∨ r.route = .notice → d.vrl = c.vrl) ∧
    (c.vrl.role = .radio → r.enable = true → 0 < r.level → r.route ≠ .notice →
      d.vrl = c.vrl.queueReport c.lif.params.trainId
        (.alarm src.number r.level c.now detail (c.lif.carNumber.getD 0)))) ∧
  (∀ (e : Evr) (n : Notice), NoticeLaw e →
    ((∃ q ∈ e.notices, q.source = n.source) →
      (e.offer n).lost = e.lost ∧ (e.offer n).notices =
        e.notices.map fun q => if q.source = n.source then ⟨q.source, q.level, n.stamp, n.detail⟩ else q) ∧
    ((∀ q ∈ e.notices, q.source ≠ n.source) → e.notices.length < 16 →
      ∃ a b, e.notices = a ++ b ∧ (∀ q ∈ a, n.level ≤ q.level) ∧ (∀ q ∈ b, q.level < n.level) ∧
        e.offer n = { e with notices := a ++ n :: b }) ∧
    ((∀ q ∈ e.notices, q.source ≠ n.source) → e.notices.length = 16 →
      ∀ low, e.notices.getLast? = some low →
        (n.level ≤ low.level → e.offer n = { e with lost := min 65535 (e.lost + 1) }) ∧
        (low.level < n.level →
          ∃ a b, e.notices = a ++ b ++ [low] ∧ (∀ q ∈ a, n.level ≤ q.level) ∧ (∀ q ∈ b, q.level < n.level) ∧
            e.offer n = { e with notices := a ++ n :: b, lost := min 65535 (e.lost + 1) })))

/-- O26. EVENT ENABLE SET, EVENT ENABLE CLEAR and EVENT CLEAR act on the sources whose bit of the mask is 1 (EVENT CLEAR on the
edge sources alone; MODEL'S CHOICE: bit n of the mask, of value 2 to the n, names source n, notes/assumptions/68.md), EVENT
LEVEL SET on the source it names; the notices queued stay as they are. NOTICE POLL takes up to four notices from the head of the
queue into one NOTICE BATCH with the poll's seq and the pending flags of every source. -/
def Obligations.EventTelegramsSetTheSources : Prop :=
  ∀ (via : Via) (mask source level route : Nat) (s : State), Ready s →
    (Reaches via .noticePoll s.car →
      exec (.noticePoll via) s = .next ⟨{ s.car with
        evr := { s.car.evr with notices := s.car.evr.notices.drop 4 }
        lif := s.car.lif.append s.car.vrl.link
          [.noticeBatch via.seq (s.car.evr.notices.take 4) (s.car.evr.sources.map SourceRecord.pending)] }, s.pending⟩) ∧
    (Reaches via (.eventEnableSet mask) s.car → ∃ sources : List SourceRecord,
      (∀ n, sources[n]? = s.car.evr.sources[n]?.map fun r => if mask.testBit n then { r with enable := true } else r) ∧
      exec (.eventEnableSet via mask) s =
        .next ⟨replied via 36 .accepted [.none] { s.car with evr := { s.car.evr with sources := sources } }, s.pending⟩) ∧
    (Reaches via (.eventEnableClear mask) s.car → ∃ sources : List SourceRecord,
      (∀ n, sources[n]? = s.car.evr.sources[n]?.map fun r => if mask.testBit n then { r with enable := false } else r) ∧
      exec (.eventEnableClear via mask) s =
        .next ⟨replied via 37 .accepted [.none] { s.car with evr := { s.car.evr with sources := sources } }, s.pending⟩) ∧
    (Reaches via (.eventClear mask) s.car → ∃ sources : List SourceRecord,
      (∀ n, sources[n]? = s.car.evr.sources[n]?.map fun r =>
        if mask.testBit n ∧ n ∉ [2, 3, 4, 5, 11, 12, 13, 18, 24, 29] then { r with pending := false } else r) ∧
      exec (.eventClear via mask) s =
        .next ⟨replied via 39 .accepted [.none] { s.car with evr := { s.car.evr with sources := sources } }, s.pending⟩) ∧
    (Reaches via (.eventLevelSet source level route) s.car →
      (31 < source ∨ 15 < level ∨ route < 1 ∨ 3 < route →
        exec (.eventLevelSet via source level route) s = .next ⟨replied via 38 .range [.none] s.car, s.pending⟩) ∧
      (∀ rt, source ≤ 31 → level ≤ 15 → Route.ofCode route = some rt → ∃ sources : List SourceRecord,
        (∀ n, sources[n]? = s.car.evr.sources[n]?.map fun r => if n = source then { r with level := level, route := rt } else r) ∧
        exec (.eventLevelSet via source level route) s =
          .next ⟨replied via 38 .accepted [.none] { s.car with evr := { s.car.evr with sources := sources } }, s.pending⟩))

/-- O27. STATUS READ answers a page of 1 to 11 in the parts its page needs with the fields its chapter names (the parts of a
page carry the whole page: the model's choice, notes/assumptions/9.md; so is the result code ACCEPTED of both:
notes/assumptions/63.md), FAULT RECORD READ answers the fault stop state and the record when one is held, both in fault stop as
outside it, and neither changes anything in the car but its answer's place. What the model chose and this rests on:
notes/assumptions/69.md. -/
def Obligations.StatusAndRecordReadsChangeNothing : Prop :=
  ∀ (via : Via) (page : Nat) (s : State), Ready s → via.addressing = .car → s.car.lif.carNumber ≠ none →
    (3 ≤ s.car.lif.freePlaces →
      (page < 1 ∨ 11 < page → exec (.statusRead via page) s = .next ⟨replied via 30 .range [.none] s.car, s.pending⟩) ∧
      (1 ≤ page → page ≤ 11 → ∃ (p : StatusPage) (parts : Nat),
        (let l := s.car.lif
        let o := s.car.odo
        let b := s.car.brk
        let d := s.car.dor
        let v := s.car.vrl
        let q := s.car.ssv
        (page = 1 → p = .line l.carNumber l.cabSide l.demand l.lineLoss
          ⟨l.queue.length, 3, (l.queue.filter fun x => x.frame.kind != 48).length,
            ⟨l.ports.a.held.length, l.ports.b.held.length⟩⟩ l.groups) ∧
        (page = 2 → p = .profile s.car.pst.table.length (s.car.pst.table.filter Segment.pinned).length s.car.pst.coverage) ∧
        (page = 3 → p = .loops ⟨s.car.tlf.cogA.state, s.car.tlf.cogB.state, s.car.tlf.wheelA.state, s.car.tlf.wheelB.state⟩) ∧
        (page = 4 → p = .odometry o.fused o.measured o.standstill o.position o.rollbackDist o.rollback o.meshShallow o.meshLoss
          o.degraded o.lost o.markerErrors) ∧
        (page = 5 → p = .supervision q.record) ∧
        (page = 6 → ∃ cap, p = .restrictions q.restrictions.length q.overflow q.saturated cap ∧ (q.overflow = [] → cap = none) ∧
          (q.overflow ≠ [] → q.saturated = true → cap = some 0) ∧
          (q.overflow ≠ [] → q.saturated = false →
            ∃ x ∈ q.overflow, cap = some x.speed ∧ ∀ y ∈ q.overflow, x.speed ≤ y.speed)) ∧
        (page = 7 → ∃ mask, p = .brakes b.channels b.available b.causes mask b.standstillSince q.record.hold b.doorHold
          b.intervention b.copy b.holdPending b.svcLevel b.tractionOk ∧
          ∀ n, mask.testBit n = true ↔ ∃ cause : Cause, cause.code = n ∧ b.causes.get cause ≠ none) ∧
        (page = 8 → p = .brakeTest b.test b.holdPending b.results b.faultStop) ∧
        (page = 9 → p = .doors d.leaves d.sides d.proven d.hold d.condition) ∧
        (page = 10 → p = .radio v.role v.link v.supervision v.shadow v.follower v.station v.stopNumber
          (v.recent.map fun e => (e.number, e.kind, e.result, e.relay)) v.reports.length (v.transmit != none) v.reportTimer
          v.statusTimer v.invalidFrames v.lostReports v.modemTimeouts) ∧
        (page = 11 → p = .events s.car.evr.sources s.car.evr.notices.length s.car.evr.lost)) ∧
        parts = (if page = 9 then 3 else if page = 7 ∨ page = 10 ∨ page = 11 then 2 else 1) ∧
        exec (.statusRead via page) s =
          .next ⟨replied via 30 .accepted (List.replicate parts (.status p)) s.car, s.pending⟩)) ∧
    (2 ≤ s.car.lif.freePlaces →
      (s.car.brk.faultRecord = none → exec (.faultRecordRead via) s =
        .next ⟨replied via 32 .accepted [.faultRecord s.car.brk.faultStop false none] s.car, s.pending⟩) ∧
      (∀ r, s.car.brk.faultRecord = some r → exec (.faultRecordRead via) s =
        .next ⟨replied via 32 .accepted (List.replicate 2 (.faultRecord s.car.brk.faultStop true (some r))) s.car, s.pending⟩))

/-- O28. FAULT READ reports the record of each channel, then clears latches, saturation flags, counts and the truncated length,
takes a FAULT channel to ACTIVE with its gain of validity, and takes an OFF channel to SETTLING. What the model chose and this
rests on: notes/assumptions/9.md, notes/assumptions/63.md. -/
def Obligations.FaultReadClearsAndRestarts : Prop :=
  ∀ (via : Via) (s : State), Ready s → Reaches via .faultRead s.car →
    ∃ t, exec (.faultRead via) s = .next t ∧ t.pending = s.pending ∧
      t.car = { s.car with lif := t.car.lif, tlf := t.car.tlf, odo := { s.car.odo with channels := t.car.odo.channels } } ∧
      t.car.lif = s.car.lif.append s.car.vrl.link (replyFrames 31 via.seq .accepted
        (LoopChannel.list.map fun ch => .loop (loopReport s.car.lif.params ch (s.car.tlf.get ch)))) ∧
      ∀ ch : LoopChannel,
        let r := s.car.tlf.get ch
        let cleared : TlfChannel := { r with
          latches := ⟨false, false, false⟩, satI0 := false, satD1 := false, satD2 := false, counts := ⟨0, 0, 0, 0, 0⟩,
          lastTruncated := 0 }
        (r.state = .active ∨ r.state = .settling → t.car.tlf.get ch = cleared) ∧
        (r.state = .fault → t.car.tlf.get ch = { cleared with state := .active, idleFlag := true } ∧
          t.car.odo.channels.get ch = { s.car.odo.channels.get ch with
            valid := true, acc := 0, window := [0, 0, 0, 0, 0], speed := 0, firstPulse := true }) ∧
        (r.state ≠ .fault → t.car.odo.channels.get ch = s.car.odo.channels.get ch) ∧
        (r.state = .off → t.car.tlf.get ch = { cleared with
          state := .settling, supply := true, restList := [], dataList := [], toothList := [], latest := none, rollRef := none,
          receiver := none, level := none, settle := some 0, i0 := s.car.lif.params.i0Min, d1 := 30, d2 := 60,
          t1 := (thresholds s.car.lif.params ch s.car.lif.params.i0Min 30 60).1,
          t2 := (thresholds s.car.lif.params ch s.car.lif.params.i0Min 30 60).2 })

/-- O29. RESTART: refused with NOT_STANDSTILL or EMERGENCY_ACTIVE; when taken its ACCEPTED is placed first and every block takes
its RESTART state: the notice queue and the pending flags (set for the level sources whose condition is present, and for
BRAKE_TEST_RESULT when a test was ended), the report queue, the transmit state and the timers of the link with its counts kept,
the channel states under EMERGENCY, and the results kept but for a running selection's, which is ABORTED. What the model chose
and this rests on: notes/assumptions/26.md, notes/assumptions/36.md, notes/assumptions/50.md, notes/assumptions/67.md. -/
def Obligations.RestartTakesEveryBlock : Prop :=
  ∀ (via : Via) (s : State), Ready s → Reaches via .restart s.car →
    (s.car.odo.standstill = false →
      exec (.restart via) s = .next ⟨replied via 34 .notStandstill [.none] s.car, s.pending⟩) ∧
    (s.car.odo.standstill = true → causesEmpty s.car.brk.causes = false →
      exec (.restart via) s = .next ⟨replied via 34 .emergencyActive [.none] s.car, s.pending⟩) ∧
    (s.car.odo.standstill = true → causesEmpty s.car.brk.causes = true → s.car.odo.fused ≤ 25 →
      ∃ t, exec (.restart via) s = .next t ∧ t.pending = s.pending ∧
        t.car.inReset = false ∧ t.car.now = s.car.now ∧
        t.car.lif.frames = s.car.lif.frames ++ answerFrames via 34 .accepted [.none] ∧
        t.car.lif.demand = { s.car.lif.demand with direction := .neutral, load := .full } ∧
        t.car.lif.carNumber = s.car.lif.carNumber ∧ t.car.lif.cabSide = s.car.lif.cabSide ∧
        t.car.lif.groups = s.car.lif.groups ∧ t.car.lif.params = s.car.lif.params ∧
        t.car.lif.lineLossTimer = s.car.lif.lineLossTimer ∧ t.car.lif.lineLoss = s.car.lif.lineLoss ∧
        t.car.tlf = s.car.tlf ∧
        t.car.odo = { s.car.odo with
          travelRef := none, position := ⟨.unknown, 0, 0, 0, 0, 0, none⟩, rollbackDist := 0, rollback := false } ∧
        t.car.pst = { s.car.pst with table := [], coverage := none } ∧
        t.car.ssv = ⟨.reset s.car.lif.params.marginW s.car.lif.params.marginI s.car.lif.params.marginE, [], [], false, none,
          ⟨true, false⟩⟩ ∧
        (∀ cause, t.car.brk.causes.get cause = if cause = .reset then some ⟨s.car.now, false⟩ else none) ∧
        t.car.brk.conditions.radioStop = false ∧ t.car.brk.test = .off ∧
        (∀ ch,
          let r := s.car.brk.channels.get ch
          let q := t.car.brk.channels.get ch
          let off := { r with
            holder := .emergency
            command := .apply
            energised := false
            readback := if r.readsBack then some (r.readback.getD 0) else none
            reported := r.readsBack && r.reported }
          (r.state = .applied ∨ r.state = .applying ∨ r.state = .fault →
            q = off) ∧
          (r.state = .released ∨ r.state = .releasing → r.reading = .applied →
            q = { off with departure := none, state := .applied, transit := none }) ∧
          (r.state = .released ∨ r.state = .releasing → r.reading ≠ .applied →
            q = { off with departure := none, state := .applying, transit := some 0 })) ∧
        t.car.brk.intervention = false ∧ t.car.brk.holdPending = false ∧ t.car.brk.faultStop = s.car.brk.faultStop ∧
        t.car.brk.standstillSince = s.car.brk.standstillSince ∧
        t.car.brk.svcLevel = max 7 s.car.brk.copy.level ∧ t.car.brk.tractionOk = false ∧ t.car.brk.copy = s.car.brk.copy ∧
        t.car.brk.available = s.car.brk.available ∧ t.car.brk.faultRecord = s.car.brk.faultRecord ∧
        t.car.brk.watch = s.car.brk.watch ∧
        (s.car.brk.test.isSelected = false → t.car.brk.results = s.car.brk.results) ∧
        (∀ sel, s.car.brk.test = .onSelected sel →
          (t.car.brk.results.get sel.channel).result = .aborted ∧
          (∀ g, sel.timing = some g →
            (t.car.brk.results.get sel.channel).timing g.command = ⟨.incomplete, false, sel.taken⟩) ∧
          (∀ cmd, (∀ g, sel.timing = some g → g.command ≠ cmd) →
            (t.car.brk.results.get sel.channel).timing cmd = (s.car.brk.results.get sel.channel).timing cmd) ∧
          ∀ other, other ≠ sel.channel → t.car.brk.results.get other = s.car.brk.results.get other) ∧
        t.car.dor.leaves = s.car.dor.leaves.map (fun r => .reset r.contactClosed) ∧
        t.car.dor.sides = .all ⟨none, false, false, .none, none⟩ ∧ t.car.dor.slots = [] ∧ t.car.dor.exchange = none ∧
        t.car.dor.blocks = [] ∧ t.car.dor.deferred = [] ∧ t.car.dor.turn = s.car.dor.turn ∧ t.car.dor.due = s.car.dor.due ∧
        t.car.dor.pollTimer = s.car.dor.pollTimer ∧
        (t.car.dor.proven = true ↔ ∀ leaf, (s.car.dor.leaves.get leaf).contactClosed = true) ∧
        t.car.dor.hold = !t.car.dor.proven ∧
        t.car.vrl.role = s.car.vrl.role ∧ t.car.vrl.link = .lost ∧ t.car.vrl.supervision = none ∧ t.car.vrl.shadow = none ∧
        t.car.vrl.follower = none ∧ t.car.vrl.station = 0 ∧ t.car.vrl.stopNumber = none ∧ t.car.vrl.recent = [] ∧
        t.car.vrl.shadowStands = false ∧
        t.car.vrl.statusTimer = (if s.car.vrl.role = .radio then some 0 else none) ∧
        t.car.vrl.reportTimer = (if s.car.vrl.role = .radio then some 0 else none) ∧
        t.car.vrl.invalidFrames = s.car.vrl.invalidFrames ∧ t.car.vrl.modemTimeouts = s.car.vrl.modemTimeouts ∧
        t.car.vrl.lostReports = s.car.vrl.lostReports ∧
        (s.car.brk.test = .off → s.car.dor.proven = true ∨ t.car.dor.proven = false →
          t.car.evr.notices = [] ∧ t.car.vrl.reports = [] ∧ t.car.vrl.transmit = none) ∧
        (s.car.dor.proven = true ∨ t.car.dor.proven = false → ∀ x ∈ t.car.evr.notices, x.source = 15) ∧
        (s.car.evr.sources.length = 32 → ∀ n, (t.car.evr.source n).pending = true ↔
          (n = 11 ∧ s.car.odo.meshShallow = true) ∨ (n = 12 ∧ s.car.odo.degraded = true) ∨
          (n = 15 ∧ s.car.brk.test ≠ .off) ∨ (n = 18 ∧ t.car.dor.proven = true) ∨
          (n = 29 ∧ s.car.lif.lineLoss = true)) ∧
        t.car.evr.lost = s.car.evr.lost ∧
        (∀ n, (t.car.evr.source n).level = (s.car.evr.source n).level ∧
          (t.car.evr.source n).enable = (s.car.evr.source n).enable ∧
          (t.car.evr.source n).route = (s.car.evr.source n).route))

/-! ## The cog brakes and the emergency cause set -/

/-- O30. EMERGENCY adds CAB_EMERGENCY with the telegram's time stamp and its flag clear, EMERGENCY_SET occurs with detail 1, and
both channels are commanded to apply with the service demand at 7 or more and traction withdrawn; with the cause already in the
set the telegram is answered and nothing else changes. EMERGENCY RELEASE: RANGE for a mask above 511; NOT_STANDSTILL unless the
car has stood for 3 s; otherwise each cause named leaves the set unless its condition is present, no other cause does, and the
answer carries the set that is left: each cause in code order with its time stamp and its flag, and the mask. What the model
chose and this rests on: notes/assumptions/42.md. -/
def Obligations.EmergencyIsSetAndReleased : Prop :=
  (∀ (via : Via) (s : State), Ready s → Reaches via .emergency s.car →
    (s.car.brk.causes.cabEmergency ≠ none →
      exec (.emergency via) s = .next ⟨replied via 4 .accepted [.none] s.car, s.pending⟩) ∧
    (s.car.brk.causes.cabEmergency = none →
      ∃ t, exec (.emergency via) s = .next t ∧ t.pending = s.pending ∧
        t.car.brk.causes = { s.car.brk.causes with cabEmergency := some ⟨s.car.now, false⟩ } ∧
        t.car.brk.conditions = s.car.brk.conditions ∧ t.car.brk.test = .off ∧
        (∀ ch, (t.car.brk.channels.get ch).command = .apply ∧ (t.car.brk.channels.get ch).holder = .emergency ∧
          (t.car.brk.channels.get ch).energised = false ∧
          ((t.car.brk.channels.get ch).state = .fault ↔ (s.car.brk.channels.get ch).state = .fault)) ∧
        t.car.brk.svcLevel = max 7 s.car.brk.copy.level ∧ t.car.brk.tractionOk = false ∧
        t.car.lif.frames = s.car.lif.frames ++ answerFrames via 4 .accepted [.none] ∧
        t.car.tlf = s.car.tlf ∧ t.car.odo = s.car.odo ∧ t.car.pst = s.car.pst ∧ t.car.ssv = s.car.ssv ∧ t.car.dor = s.car.dor ∧
        (s.car.brk.test = .off → t.car.evr = s.car.evr.take s.car.now .emergencySet 1))) ∧
  (∀ (via : Via) (mask : Nat) (s : State), Ready s → Reaches via (.emergencyRelease mask) s.car →
    let i := Instr.emergencyRelease via mask
    (511 < mask → exec i s = .next ⟨replied via 5 .range [.none] s.car, s.pending⟩) ∧
    (mask ≤ 511 →
      (s.car.odo.standstill = false ∨ s.car.brk.standstillSince = none ∨
        ∃ t, s.car.brk.standstillSince = some t ∧ since s.car.now t < 300) →
      exec i s = .next ⟨replied via 5 .notStandstill [.none] s.car, s.pending⟩) ∧
    (∀ stood, mask ≤ 511 → s.car.odo.standstill = true → s.car.brk.standstillSince = some stood →
      300 ≤ since s.car.now stood →
      ∃ t records, exec i s = .next t ∧ t.pending = s.pending ∧
        (∀ cause, t.car.brk.causes.get cause =
          if mask.testBit cause.code = true ∧ (∃ r, s.car.brk.causes.get cause = some r ∧ r.present = false) then none
          else s.car.brk.causes.get cause) ∧
        t.car.brk.conditions = s.car.brk.conditions ∧ t.car.brk.test = s.car.brk.test ∧
        t.car.lif = s.car.lif.answered s.car.vrl.link via 5 .accepted [.causes records (causeMask t.car.brk.causes)] ∧
        (∀ cause r, (cause, r) ∈ records ↔ t.car.brk.causes.get cause = some r) ∧
        records.Pairwise (fun a b => a.1.code < b.1.code) ∧
        t.car.tlf = s.car.tlf ∧ t.car.odo = s.car.odo ∧ t.car.pst = s.car.pst ∧ t.car.ssv = s.car.ssv ∧ t.car.dor = s.car.dor ∧
        t.car.vrl = s.car.vrl ∧ t.car.evr = s.car.evr ∧
        (causesEmpty t.car.brk.causes = true → t.car.brk.svcLevel = serviceLevel t.car ∧
          ∀ ch, (t.car.brk.channels.get ch).holder ≠ .emergency)))

/-- O31. A change of a brake's feedback: the reading follows the two contacts; a transit that reaches its target settles and
stops its timer; in a settled state a reading other than its own starts the departure timer or leaves it running, and its own
reading stops it; in FAULT the state stays. A reading that has not changed changes nothing. On the channel selected for test: a
reading at the target of the timing that runs ends it with the time reached and its clean flag as it stands, and from then on a
reading that leaves the target clears that flag; before it, a reading that has left the one found at the start and returns to it
clears the flag; and a pending deselect is completed by the reading APPLIED, with PASS or FAIL and BRAKE_TEST_RESULT. What the
model chose and this rests on: notes/assumptions/19.md. -/
def Obligations.FeedbackSettlesTransits : Prop :=
  ∀ (ch : CogChannel) (applied released : Bool) (s : State), Ready s → TestLaw s.car.brk →
    let reading : Reading := match applied, released with
      | true, false => .applied
      | false, true => .released
      | _, _ => .mid
    let r := s.car.brk.channels.get ch
    let i := Instr.cbFeedbackChange ch applied released
    (r.reading = reading → exec i s = .next s) ∧
    (r.reading ≠ reading → s.car.brk.test.commandFor ch = none →
      ∃ t, exec i s = .next t ∧ t.pending = s.pending ∧
        t.car = { s.car with brk := { s.car.brk with channels := t.car.brk.channels, tractionOk := t.car.brk.tractionOk } } ∧
        (∀ other, other ≠ ch → t.car.brk.channels.get other = s.car.brk.channels.get other) ∧
        (r.state = .fault → t.car.brk.channels.get ch = { r with reading := reading }) ∧
        (r.state = .releasing → t.car.brk.channels.get ch =
          if reading = .released then { r with reading := reading, state := .released, transit := none }
          else { r with reading := reading }) ∧
        (r.state = .applying → t.car.brk.channels.get ch =
          if reading = .applied then { r with reading := reading, state := .applied, transit := none }
          else { r with reading := reading }) ∧
        (r.state = .applied → t.car.brk.channels.get ch =
          { r with reading := reading, departure := if reading = .applied then none else some (r.departure.getD 0) }) ∧
        (r.state = .released → t.car.brk.channels.get ch =
          { r with reading := reading, departure := if reading = .released then none else some (r.departure.getD 0) }) ∧
        (t.car.brk.tractionOk = true ↔
          s.car.brk.faultStop = false ∧ causesEmpty s.car.brk.causes = true ∧ s.car.brk.doorsProven = true ∧
          t.car.brk.channels.cbA.state = .released ∧ t.car.brk.channels.cbB.state = .released ∧
          s.car.brk.intervention = false)) ∧
    (∀ sel, r.reading ≠ reading → s.car.brk.test = .onSelected sel → sel.channel = ch →
      let earlier := s.car.brk.results.get ch
      let completes := sel.deselectPending = true ∧ reading = .applied
      ∃ t, exec i s = .next t ∧ t.pending = s.pending ∧
        (t.car.brk.channels.get ch).reading = reading ∧
        (∀ other, other ≠ ch → t.car.brk.results.get other = s.car.brk.results.get other) ∧
        (¬ completes → ∃ sel', t.car.brk.test = .onSelected sel' ∧ sel'.channel = ch ∧ sel'.command = sel.command ∧
          sel'.deselectPending = sel.deselectPending ∧ sel'.taken = sel.taken ∧
          (t.car.brk.results.get ch).result = earlier.result ∧ t.car.evr = s.car.evr ∧
          (∀ g, sel.timing = some g → reading = g.command.target → sel'.timing = none ∧ sel'.watched = some g.command) ∧
          (∀ g, sel.timing = some g → reading ≠ g.command.target → sel'.watched = sel.watched ∧
            sel'.timing = some { g with left := g.left || reading != g.start }) ∧
          (sel.timing = none → sel'.timing = none ∧
            sel'.watched = if sel.watched.map BrakeCommand.target = some reading then sel.watched else none)) ∧
        (completes → t.car.brk.test = .onIdle ∧
          ((t.car.brk.results.get ch).result = .pass ∧
              t.car.evr = s.car.evr.take s.car.now .brakeTestResult (256 * ch.number + 1) ∧
              (t.car.brk.channels.get ch).state ≠ .fault ∧
              (∃ a b, (t.car.brk.results.get ch).release.time = .ticks a ∧ (t.car.brk.results.get ch).apply.time = .ticks b) ∧
              (t.car.brk.results.get ch).release.clean = true ∧ (t.car.brk.results.get ch).apply.clean = true ∧
              (t.car.brk.results.get ch).release.order < (t.car.brk.results.get ch).apply.order ∨
            (t.car.brk.results.get ch).result = .fail ∧
              t.car.evr = s.car.evr.take s.car.now .brakeTestResult (256 * ch.number + 2) ∧
              (r.state = .fault → (t.car.brk.channels.get ch).state = .fault) ∧
              ¬ ((∃ a b, (t.car.brk.results.get ch).release.time = .ticks a ∧
                  (t.car.brk.results.get ch).apply.time = .ticks b) ∧
                (t.car.brk.results.get ch).release.clean = true ∧ (t.car.brk.results.get ch).apply.clean = true ∧
                (t.car.brk.results.get ch).release.order < (t.car.brk.results.get ch).apply.order))) ∧
        (∀ g, sel.timing = some g → reading = g.command.target →
          (t.car.brk.results.get ch).timing g.command =
            ⟨.ticks (min 150 g.elapsed), (earlier.timing g.command).clean, sel.taken⟩) ∧
        (∀ g, sel.timing = some g → reading ≠ g.command.target →
          (t.car.brk.results.get ch).timing g.command =
            if g.left = true ∧ reading = g.start then { earlier.timing g.command with clean := false }
            else earlier.timing g.command) ∧
        (∀ cmd, sel.timing = none → sel.watched = some cmd →
          (t.car.brk.results.get ch).timing cmd =
            if reading = cmd.target then earlier.timing cmd else { earlier.timing cmd with clean := false }) ∧
        (∀ cmd, sel.timing.map Timing.command ≠ some cmd → (sel.timing = none → sel.watched ≠ some cmd) →
          (t.car.brk.results.get ch).timing cmd = earlier.timing cmd) ∧
        t.car.brk.causes = s.car.brk.causes ∧ t.car.brk.faultStop = s.car.brk.faultStop ∧
        t.car.lif = s.car.lif ∧ t.car.tlf = s.car.tlf ∧ t.car.odo = s.car.odo ∧ t.car.pst = s.car.pst ∧ t.car.dor = s.car.dor)

/-- O32. The transit timer at 1.5 s and the departure timer at 200 ms send the channel to FAULT with their reason: its timers
stop, its output is de-energised, the available count falls with a cause of evaluation, and BRAKE_CHANNEL_FAULT occurs. A
selection of the channel for test takes the command APPLY; a deselect pending on it is completed by a transit timeout, a running
timing ending as EXCEEDED. MODEL'S CHOICE: with no timing running it completes there too (notes/assumptions/19.md). An expiry
that finds its timer stopped or short of its limit changes nothing. The readback of a release output is compared with the value
driven at every change of either: while they differ the readback timer runs, and as they agree it stops and the reported flag is
cleared; the channel's state does not change. At 50 ms with the flag clear OUTPUT_READBACK is reported once: fault stop is
entered, which ends the disagreement of an output that reads back de-energised, or in fault stop a later cause is counted. What
the model chose and this rests on: notes/assumptions/6.md, notes/assumptions/8.md, notes/assumptions/54.md. -/
def Obligations.BrakeTimersAndReadback : Prop :=
  (∀ (i : Instr) (ch : CogChannel) (reason : CogReason) (s : State), Ready s →
      let r := s.car.brk.channels.get ch
      ((i = .transitTimeout ch ∧ (Timer.reached 150 r.transit = false ∨ (r.state ≠ .releasing ∧ r.state ≠ .applying))) ∨
        (i = .departureTimeout ch ∧ (Timer.reached 20 r.departure = false ∨ (r.state ≠ .applied ∧ r.state ≠ .released))) →
        exec i s = .next s) ∧
      ((i = .transitTimeout ch ∧ Timer.reached 150 r.transit = true ∧
          ((r.state = .releasing ∧ reason = .releaseTimeout) ∨ (r.state = .applying ∧ reason = .applyTimeout))) ∨
        (i = .departureTimeout ch ∧ Timer.reached 20 r.departure = true ∧ reason = .uncommanded ∧
          (r.state = .applied ∨ r.state = .released)) →
        (∀ sel, i = .transitTimeout ch → s.car.brk.test = .onSelected sel → sel.channel = ch → sel.deselectPending = false) →
        ∃ t, exec i s = .next t ∧ t.pending = s.pending ∧
          (let q := t.car.brk.channels.get ch
          q.state = .fault ∧ q.reason = some reason ∧ q.transit = none ∧ q.departure = none ∧ q.energised = false ∧
            q.reading = r.reading ∧ q.readsBack = r.readsBack ∧
            q.readback = (if r.readsBack then some (r.readback.getD 0) else none) ∧
            q.reported = (r.readsBack && r.reported)) ∧
          (∀ other, other ≠ ch → (t.car.brk.channels.get other).state = (s.car.brk.channels.get other).state) ∧
          t.car.brk.available + 1 = s.car.brk.available ∧ t.car.ssv = { s.car.ssv with waiting := ⟨true, s.car.ssv.waiting.update⟩ } ∧
          t.car.brk.causes = s.car.brk.causes ∧ t.car.brk.faultStop = s.car.brk.faultStop ∧
          t.car.brk.tractionOk = false ∧
          (s.car.brk.test.isSelected = false → t.car.brk.test = s.car.brk.test ∧ t.car.brk.results = s.car.brk.results ∧
            t.car.evr = s.car.evr.take s.car.now .brakeChannelFault
              (256 * ch.number + match reason with
                | .releaseTimeout => 1
                | .applyTimeout => 2
                | .uncommanded => 3)) ∧
          (∀ sel, s.car.brk.test = .onSelected sel → sel.channel = ch →
            ∃ sel', t.car.brk.test = .onSelected sel' ∧ sel'.channel = ch ∧ sel'.command = .apply) ∧
          t.car.lif = s.car.lif ∧ t.car.tlf = s.car.tlf ∧ t.car.odo = s.car.odo ∧ t.car.pst = s.car.pst ∧ t.car.dor = s.car.dor) ∧
      (∀ sel, i = .transitTimeout ch → Timer.reached 150 r.transit = true →
        (r.state = .releasing ∧ reason = .releaseTimeout) ∨ (r.state = .applying ∧ reason = .applyTimeout) →
        TestLaw s.car.brk → s.car.brk.test = .onSelected sel → sel.channel = ch → sel.deselectPending = true →
        (∀ g, sel.timing = some g → g.command = sel.command) →
        ∃ t, exec i s = .next t ∧ t.pending = s.pending ∧ t.car.brk.test = .onIdle ∧
          (∀ g, sel.timing = some g → (t.car.brk.results.get ch).timing g.command = ⟨.exceeded, false, sel.taken⟩ ∧
            (t.car.brk.results.get ch).result = .fail ∧ (t.car.brk.channels.get ch).state = .fault ∧
            (t.car.brk.channels.get ch).reason = some reason) ∧
          t.car.evr = (s.car.evr.take s.car.now .brakeChannelFault (256 * ch.number + match reason with
            | .releaseTimeout => 1
            | .applyTimeout => 2
            | .uncommanded => 3)).take s.car.now .brakeTestResult (256 * ch.number +
              if (t.car.brk.results.get ch).result = .pass then 1 else 2) ∧
          (t.car.brk.results.get ch).result ∈ [TestResult.pass, .fail] ∧
          t.car.brk.causes = s.car.brk.causes ∧ t.car.brk.faultStop = s.car.brk.faultStop ∧
          t.car.lif = s.car.lif ∧ t.car.tlf = s.car.tlf ∧ t.car.odo = s.car.odo ∧ t.car.pst = s.car.pst ∧ t.car.dor = s.car.dor)) ∧
  (∀ (ch : CogChannel) (s : State), Ready s → Intact s.car →
      let r := s.car.brk.channels.get ch
      exec (.readbackChange ch r.energised) s = .next ⟨{ s.car with brk := { s.car.brk with
        channels := s.car.brk.channels.set ch { r with
          readsBack := r.energised, readback := none, reported := false } } }, s.pending⟩ ∧
      exec (.readbackChange ch (!r.energised)) s = .next ⟨{ s.car with brk := { s.car.brk with
        channels := s.car.brk.channels.set ch { r with
          readsBack := !r.energised, readback := some (r.readback.getD 0) } } }, s.pending⟩ ∧
      (Timer.reached 5 r.readback = false ∨ r.reported = true → exec (.readbackTimeout ch) s = .next s) ∧
      (Timer.reached 5 r.readback = true → r.reported = false → s.car.brk.faultStop = true → ∀ f, s.car.brk.faultRecord = some f →
        exec (.readbackTimeout ch) s = .next ⟨occur .faultStop 259 { s.car with brk := { s.car.brk with
          channels := s.car.brk.channels.set ch { r with reported := true }
          faultRecord := some { f with
            laterCount := min 255 (f.laterCount + 1), laterMask := f.laterMask ||| 4 } } }, s.pending⟩) ∧
      (Timer.reached 5 r.readback = true → r.reported = false → s.car.brk.faultStop = false →
        ∃ t f, exec (.readbackTimeout ch) s = .next t ∧ t.pending = s.pending ∧ t.car.brk.faultStop = true ∧
          (t.car.brk.channels.get ch).energised = false ∧ (t.car.brk.channels.get ch).reported = r.readsBack ∧
          (t.car.brk.channels.get ch).readback = (if r.readsBack then r.readback else none) ∧ t.car.brk.faultRecord = some f ∧ f.cause = .outputReadback ∧
          f.stamp = s.car.now ∧ t.car.odo = s.car.odo ∧ t.car.tlf = s.car.tlf ∧ t.car.pst = s.car.pst)) ∧
  (∀ (ch : CogChannel) (c : Car),
      let r := c.brk.channels.get ch
      let q := (settle c).brk.channels.get ch
      q.readsBack = r.readsBack ∧
      (r.readsBack = q.energised → q.readback = none ∧ q.reported = false) ∧
      (r.readsBack ≠ q.energised → q.readback = some (r.readback.getD 0) ∧ q.reported = r.reported))

/-! ## Fault stop -/

/-- O33. The entry to fault stop at the timebase watch's 75 ms: the record is written from the values as they stood, fault stop
is in force, both channels are commanded to apply with their outputs de-energised, the service demand is 7 or more, traction is
withdrawn, the brake test ends, every granted door release is withdrawn, FAULT_STOP occurs with the cause's code 4 as detail
(after the BRAKE_TEST_RESULT of a test that ends, and before the ORIGINATE_FULL of a broadcast that is dropped: the model's
order, notes/assumptions/54.md), and the first broadcast joins the originate queue. A later cause counts in the record and
rewrites nothing of it. A watch that is stopped or short of 75 ms, as after an update that is taken first, reports nothing. What
the model chose and this rests on: notes/assumptions/6.md, notes/assumptions/12.md, notes/assumptions/14.md,
notes/assumptions/45.md, notes/assumptions/65.md. -/
def Obligations.TimebaseEntersFaultStop : Prop :=
  ∀ s : State, Ready s → Intact s.car →
    (Timer.reached 8 s.car.brk.watch = false → exec .timebaseWatchExpiry s = .next s) ∧
    (∃ t, exec .odometryUpdate s = .next t ∧ exec .timebaseWatchExpiry t = .next t) ∧
    (Timer.reached 8 s.car.brk.watch = true → s.car.brk.faultStop = true → ∀ f, s.car.brk.faultRecord = some f →
      exec .timebaseWatchExpiry s = .next ⟨occur .faultStop 260 { s.car with brk := { s.car.brk with
        watch := none
        faultRecord := some { f with
          laterCount := min 255 (f.laterCount + 1), laterMask := f.laterMask ||| 8 } } }, s.pending⟩) ∧
    (Timer.reached 8 s.car.brk.watch = true → s.car.brk.faultStop = false →
      let p := s.car.odo.position
      let stands (x : Segment) : Prop := x ∈ s.car.pst.table ∧ x.checkFailed = false ∧ p.state ≠ .unknown ∧ x.low ≤ p.pos ∧
        p.pos < x.low + x.length
      ∃ (t : State) (segment : Option Nat), exec .timebaseWatchExpiry s = .next t ∧ t.pending = s.pending ∧
        ((∀ x, ¬ stands x) → segment = none) ∧ ((∃ x, stands x) → ∃ x, stands x ∧ segment = some x.id) ∧
        t.car.brk.faultStop = true ∧ t.car.brk.watch = none ∧ t.car.brk.broadcastTimer = some 0 ∧
        t.car.brk.faultRecord = some {
          cause := .timebase
          stamp := s.car.now
          carNumber := s.car.lif.carNumber.getD 0
          pos := s.car.odo.position.pos
          positionState := s.car.odo.position.state
          unc := s.car.odo.position.unc
          fused := s.car.odo.fused
          p := s.car.ssv.record.p
          causes := s.car.brk.causes
          causeMask := causeMask s.car.brk.causes
          channels := s.car.brk.channels.map fun r => (r.state, r.reason)
          leaves := s.car.dor.leaves.map fun r => r.state
          segment := segment
          laterCount := 0
          laterMask := 0 } ∧
        (∀ ch, (t.car.brk.channels.get ch).command = .apply ∧ (t.car.brk.channels.get ch).holder = .faultStop ∧
          (t.car.brk.channels.get ch).energised = false) ∧
        t.car.brk.svcLevel = max 7 s.car.brk.copy.level ∧ t.car.brk.tractionOk = false ∧ t.car.brk.test = .off ∧
        t.car.brk.causes = s.car.brk.causes ∧
        t.car.dor.sides.left.release = none ∧ t.car.dor.sides.right.release = none ∧
        (∀ x ∈ t.car.dor.slots, x.2.opens = false) ∧
        (let waits := (s.car.lif.queue.any fun q => q.frame.isFaultStop) = true
        let room := s.car.lif.nonReplyRoom = true ∨ ∃ q ∈ s.car.lif.queue, q.begun = false ∧ q.frame.kind ∈ [44, 45, 49]
        let ended : Evr := match s.car.brk.test with
          | .off => s.car.evr
          | .onIdle => s.car.evr.take s.car.now .brakeTestResult 3
          | .onSelected sel => s.car.evr.take s.car.now .brakeTestResult (256 * sel.channel.number + 3)
        let stopped := ended.take s.car.now .faultStop 4
        (waits ∨ room → t.car.evr = stopped) ∧
        (¬ waits → ¬ room → t.car.evr = stopped.take s.car.now .originateFull 562)) ∧
        (s.car.lif.nonReplyRoom = true → (s.car.lif.queue.any fun q => q.frame.isFaultStop) = false →
          t.car.lif.frames = s.car.lif.frames ++ [.faultStop (s.car.lif.carNumber.getD 0) .timebase s.car.now 0 0
            s.car.odo.position.pos s.car.odo.position.state]) ∧
        t.car.odo = s.car.odo ∧ t.car.tlf = s.car.tlf ∧ t.car.pst = s.car.pst ∧ t.car.ssv.record = s.car.ssv.record)

/-- O34. The broadcast timer's 500 ms in fault stop: the broadcast is placed with the count and mask as they stand, unless one
from this car still waits in the queue; when the limits refuse it, it displaces the oldest NOTICE BATCH, or else the oldest
RADIO STATUS or RADIO RELAY, whose sending has not begun. It carries the record's cause and time stamp and, MODEL'S CHOICE, the
ODO's pos and position state as they stand (notes/assumptions/65.md). Outside fault stop, or before the 500 ms, nothing happens.
What the model chose and this rests on: notes/assumptions/6.md, notes/assumptions/14.md, notes/assumptions/33.md. -/
def Obligations.FaultStopIsBroadcast : Prop :=
  ∀ s : State, Ready s →
    (s.car.brk.faultStop = false ∨ Timer.reached 50 s.car.brk.broadcastTimer = false →
      exec .faultStopBroadcastTimer s = .next s) ∧
    (s.car.brk.faultStop = true → Timer.reached 50 s.car.brk.broadcastTimer = true → ∀ f, s.car.brk.faultRecord = some f →
      let restarted := { s.car with brk := { s.car.brk with broadcastTimer := some 0 } }
      let frame := Frame.faultStop (s.car.lif.carNumber.getD 0) f.cause f.stamp f.laterCount f.laterMask s.car.odo.position.pos
        s.car.odo.position.state
      ((s.car.lif.queue.any fun q => q.frame.isFaultStop) = true →
        exec .faultStopBroadcastTimer s = .next ⟨restarted, s.pending⟩) ∧
      ((s.car.lif.queue.any fun q => q.frame.isFaultStop) = false → s.car.lif.nonReplyRoom = true →
        exec .faultStopBroadcastTimer s =
          .next ⟨{ restarted with lif := s.car.lif.append s.car.vrl.link [frame] }, s.pending⟩) ∧
      ((s.car.lif.queue.any fun q => q.frame.isFaultStop) = false → s.car.lif.nonReplyRoom = false →
        (∀ a q b, s.car.lif.queue = a ++ q :: b → (q.frame.isNoticeBatch = true ∧ q.begun = false) →
          (∀ x ∈ a, ¬ (x.frame.isNoticeBatch = true ∧ x.begun = false)) →
          exec .faultStopBroadcastTimer s = .next ⟨{ restarted with
            lif := ({ s.car.lif with queue := a ++ b } : Lif).append s.car.vrl.link [frame] }, s.pending⟩) ∧
        (∀ a q b, (∀ x ∈ s.car.lif.queue, ¬ (x.frame.isNoticeBatch = true ∧ x.begun = false)) →
          s.car.lif.queue = a ++ q :: b → ((q.frame.kind = 44 ∨ q.frame.kind = 45) ∧ q.begun = false) →
          (∀ x ∈ a, ¬ ((x.frame.kind = 44 ∨ x.frame.kind = 45) ∧ x.begun = false)) →
          exec .faultStopBroadcastTimer s = .next ⟨{ restarted with
            lif := ({ s.car.lif with queue := a ++ b } : Lif).append s.car.vrl.link [frame] }, s.pending⟩) ∧
        ((∀ q ∈ s.car.lif.queue, q.begun = true ∨ q.frame.isReply = true) →
          exec .faultStopBroadcastTimer s = .next ⟨occur .originateFull 562 restarted, s.pending⟩)))

/-! ## The brake test -/

/-- O35. Entering and leaving the test, and the law of the brake test: TEST ON is taken in OFF at standstill with proven doors
and an empty cause set, TEST OFF in ON_IDLE, SELECT in ON_IDLE for channel 1 or 2; each is refused, in the order of its rule,
otherwise, and a refused telegram changes nothing but its answer. MODEL'S CHOICE: a SELECT of another number is answered RANGE
in every test state (notes/assumptions/58.md). What the model chose and this rests on: notes/assumptions/9.md. -/
def Obligations.TestIsEnteredAndSelects : Prop :=
  ∀ (via : Via) (n : Nat) (s : State), Ready s →
    let refused (i : Instr) (kind : Nat) (result : Result) := exec i s = .next
      ⟨replied via kind result [.brakeTest s.car.brk.test s.car.brk.holdPending s.car.brk.results] s.car, s.pending⟩
    (Reaches via .testOn s.car →
      (s.car.brk.test ≠ .off → refused (.testOn via) 12 .state) ∧
      (s.car.brk.test = .off → s.car.odo.standstill = false → refused (.testOn via) 12 .notStandstill) ∧
      (s.car.brk.test = .off → s.car.odo.standstill = true → s.car.brk.doorsProven = false → refused (.testOn via) 12 .doors) ∧
      (s.car.brk.test = .off → s.car.odo.standstill = true → s.car.brk.doorsProven = true →
        causesEmpty s.car.brk.causes = false → refused (.testOn via) 12 .emergencyActive) ∧
      (s.car.brk.test = .off → s.car.odo.standstill = true → s.car.brk.doorsProven = true →
        causesEmpty s.car.brk.causes = true →
        ∃ t, exec (.testOn via) s = .next t ∧ t.pending = s.pending ∧ t.car.brk.test = .onIdle ∧
          t.car.brk.results = s.car.brk.results ∧ t.car.brk.causes = s.car.brk.causes ∧
          (∀ ch, (t.car.brk.channels.get ch).command = .apply) ∧ t.car.brk.tractionOk = false ∧
          t.car.lif = s.car.lif.answered s.car.vrl.link via 12 .accepted
            [.brakeTest .onIdle false s.car.brk.results] ∧
          t.car.odo = s.car.odo ∧ t.car.dor = s.car.dor ∧ t.car.ssv = s.car.ssv ∧ t.car.evr = s.car.evr)) ∧
    (Reaches via .testOff s.car →
      (s.car.brk.test ≠ .onIdle → refused (.testOff via) 13 .state) ∧
      (s.car.brk.test = .onIdle →
        ∃ t, exec (.testOff via) s = .next t ∧ t.pending = s.pending ∧ t.car.brk.test = .off ∧
          t.car.brk.results = s.car.brk.results ∧
          (∀ ch, (t.car.brk.channels.get ch).command = .release ↔
            s.car.brk.faultStop = false ∧ causesEmpty s.car.brk.causes = true ∧ s.car.ssv.record.hold = false ∧
            s.car.brk.doorHold = false ∧ s.car.brk.copy.release = true ∧ (s.car.brk.channels.get ch).state ≠ .fault) ∧
          t.car.lif = s.car.lif.answered s.car.vrl.link via 13 .accepted [.brakeTest .off false s.car.brk.results] ∧
          t.car.odo = s.car.odo ∧ t.car.dor = s.car.dor ∧ t.car.ssv = s.car.ssv ∧ t.car.evr = s.car.evr)) ∧
    (Reaches via (.select n) s.car →
      (n ≠ 1 → n ≠ 2 → refused (.select via n) 14 .range) ∧
      (n = 1 ∨ n = 2 → s.car.brk.test ≠ .onIdle → refused (.select via n) 14 .state) ∧
      (∀ ch, CogChannel.ofNumber n = some ch → s.car.brk.test = .onIdle → TestLaw s.car.brk →
        ∃ t sel, exec (.select via n) s = .next t ∧ t.pending = s.pending ∧ t.car.brk.test = .onSelected sel ∧
          sel.channel = ch ∧ sel.command = .apply ∧ sel.deselectPending = false ∧ sel.timing = none ∧
          t.car.brk.results = s.car.brk.results.set ch .reset ∧
          (t.car.brk.channels.get ch).holder = .test ∧ (t.car.brk.channels.get ch).command = .apply ∧
          t.car.brk.holdPending = (s.car.ssv.record.hold || s.car.brk.doorHold) ∧
          t.car.lif = s.car.lif.answered s.car.vrl.link via 14 .accepted
            [.brakeTest t.car.brk.test t.car.brk.holdPending t.car.brk.results] ∧
          t.car.odo = s.car.odo ∧ t.car.dor = s.car.dor ∧ t.car.ssv = s.car.ssv ∧ t.car.evr = s.car.evr))

/-- O36. TEST RELEASE and TEST APPLY: refused with STATE outside a selection or while a deselect is pending; the command already
in force changes nothing; the other command is taken, a timing that runs ends as INCOMPLETE with its clean flag clear, and a
timing starts from 0, or records 0 at once when the reading already equals its target. The channel selected takes the command.
What the model chose and this rests on: notes/assumptions/9.md. -/
def Obligations.TestCommandsTimeTheChannel : Prop :=
  ∀ (via : Via) (cmd : BrakeCommand) (s : State), Ready s → TestLaw s.car.brk →
    let i : Instr := match cmd with | .release => .testRelease via | .apply => .testApply via
    let t0 : Telegram := match cmd with | .release => .testRelease | .apply => .testApply
    let kind := match cmd with | .release => 16 | .apply => 17
    let target : Reading := match cmd with | .release => .released | .apply => .applied
    Reaches via t0 s.car →
    (s.car.brk.test.isSelected = false → exec i s = .next
      ⟨replied via kind .state [.brakeTest s.car.brk.test s.car.brk.holdPending s.car.brk.results] s.car, s.pending⟩) ∧
    (∀ sel, s.car.brk.test = .onSelected sel →
      let r := s.car.brk.results.get sel.channel
      let reading := (s.car.brk.channels.get sel.channel).reading
      (sel.deselectPending = true → exec i s = .next
        ⟨replied via kind .state [.brakeTest s.car.brk.test s.car.brk.holdPending s.car.brk.results] s.car, s.pending⟩) ∧
      (sel.deselectPending = false → sel.command = cmd → exec i s = .next
        ⟨replied via kind .accepted [.brakeTest s.car.brk.test s.car.brk.holdPending s.car.brk.results] s.car, s.pending⟩) ∧
      (sel.deselectPending = false → sel.command ≠ cmd → (∀ g, sel.timing = some g → g.command = sel.command) →
        ∃ t sel' r', exec i s = .next t ∧ t.pending = s.pending ∧ t.car.brk.test = .onSelected sel' ∧
          t.car.brk.results = s.car.brk.results.set sel.channel r' ∧
          sel'.channel = sel.channel ∧ sel'.command = cmd ∧ sel'.deselectPending = false ∧ sel'.taken = sel.taken + 1 ∧
          (reading = target → sel'.timing = none ∧ r'.timing cmd = ⟨.ticks 0, true, sel.taken + 1⟩) ∧
          (reading ≠ target → sel'.timing = some ⟨0, cmd, reading, false⟩ ∧
            r'.timing cmd = { (r.timing cmd) with clean := true }) ∧
          (∀ g, sel.timing = some g → r'.timing g.command = ⟨.incomplete, false, sel.taken⟩) ∧
          r'.result = r.result ∧
          (t.car.brk.channels.get sel.channel).command = cmd ∧ (t.car.brk.channels.get sel.channel).holder = .test ∧
          ((s.car.brk.channels.get sel.channel).state = .fault →
            ((t.car.brk.channels.get sel.channel).energised = true ↔ cmd = .release)) ∧
          t.car.odo = s.car.odo ∧ t.car.dor = s.car.dor ∧ t.car.ssv = s.car.ssv ∧ t.car.evr = s.car.evr ∧
          t.car.brk.causes = s.car.brk.causes))

/-- O37. The test timer at 1.5 s records EXCEEDED with the clean flag clear; when a deselect waits for an apply timing the
selection is completed by it as FAIL. With no timing running, or with one short of 1.5 s, the expiry changes nothing. What the
model chose and this rests on: notes/assumptions/6.md. -/
def Obligations.TestTimerRecordsExceeded : Prop :=
  ∀ s : State, Ready s →
    ((∀ sel g, s.car.brk.test = .onSelected sel → sel.timing = some g → g.elapsed < 150) →
      exec .testTimerExpiry s = .next s) ∧
    (∀ sel g, s.car.brk.test = .onSelected sel → sel.timing = some g → 150 ≤ g.elapsed →
      ∃ t, exec .testTimerExpiry s = .next t ∧ t.pending = s.pending ∧
        ((t.car.brk.results.get sel.channel).timing g.command).time = .exceeded ∧
        ((t.car.brk.results.get sel.channel).timing g.command).clean = false ∧
        (∀ other, other ≠ sel.channel → t.car.brk.results.get other = s.car.brk.results.get other) ∧
        (sel.deselectPending = false ∨ g.command = .release →
          t = { s with car := { s.car with brk := { s.car.brk with
            test := .onSelected { sel with timing := none, watched := none }, results := t.car.brk.results } } }) ∧
        (sel.deselectPending = true → g.command = .apply →
          t.car.brk.test = .onIdle ∧ (t.car.brk.results.get sel.channel).result = .fail ∧
          t.car.evr = s.car.evr.take s.car.now .brakeTestResult (256 * sel.channel.number + 2) ∧
          t.car.brk.causes = s.car.brk.causes))

/-- O38. DESELECT: refused with STATE outside a selection or while one is pending; with the reading APPLIED and no apply timing
running the selection is completed at once, with PASS exactly when the release and then the apply were timed as numbers with
their clean flags set, and a PASS of a FAULT channel returns it to APPLIED; otherwise the deselect is pending, under the command
APPLY. What the model chose and this rests on: notes/assumptions/9.md, notes/assumptions/19.md. -/
def Obligations.DeselectDecidesTheTest : Prop :=
  ∀ (via : Via) (s : State), Ready s → TestLaw s.car.brk → Reaches via .deselect s.car →
    (s.car.brk.test.isSelected = false → exec (.deselect via) s = .next
      ⟨replied via 15 .state [.brakeTest s.car.brk.test s.car.brk.holdPending s.car.brk.results] s.car, s.pending⟩) ∧
    (∀ sel, s.car.brk.test = .onSelected sel →
      let ch := s.car.brk.channels.get sel.channel
      let r := s.car.brk.results.get sel.channel
      (sel.deselectPending = true → exec (.deselect via) s = .next
        ⟨replied via 15 .state [.brakeTest s.car.brk.test s.car.brk.holdPending s.car.brk.results] s.car, s.pending⟩) ∧
      (sel.deselectPending = false → ch.reading = .applied → (∀ g, sel.timing = some g → g.command = .release) →
        let release : TimingRecord := if sel.timing = none then r.release else ⟨.incomplete, false, sel.taken⟩
        let pass := ∃ a b, release.time = .ticks a ∧ r.apply.time = .ticks b ∧ release.clean = true ∧
          r.apply.clean = true ∧ release.order < r.apply.order
        ∃ t, exec (.deselect via) s = .next t ∧ t.pending = s.pending ∧ t.car.brk.test = .onIdle ∧
          t.car.brk.holdPending = false ∧
          (t.car.brk.results.get sel.channel).release = release ∧ (t.car.brk.results.get sel.channel).apply = r.apply ∧
          (pass → (t.car.brk.results.get sel.channel).result = .pass ∧
            (t.car.brk.channels.get sel.channel).state ≠ .fault ∧
            (ch.state = .fault → (t.car.brk.channels.get sel.channel).state = .applied ∧
              (t.car.brk.channels.get sel.channel).reason = none ∧ t.car.brk.available = s.car.brk.available + 1 ∧
              t.car.ssv.waiting.cause = true)) ∧
          (¬ pass → (t.car.brk.results.get sel.channel).result = .fail ∧
            (ch.state = .fault → (t.car.brk.channels.get sel.channel).state = .fault)) ∧
          (t.car.brk.channels.get sel.channel).command = .apply ∧
          ((pass → t.car.evr = s.car.evr.take s.car.now .brakeTestResult (256 * sel.channel.number + 1)) ∧
            (¬ pass → t.car.evr = s.car.evr.take s.car.now .brakeTestResult (256 * sel.channel.number + 2))) ∧
          t.car.odo = s.car.odo ∧ t.car.dor = s.car.dor ∧ t.car.brk.causes = s.car.brk.causes) ∧
      (sel.deselectPending = false →
        (ch.reading ≠ .applied ∨ ∃ g, sel.timing = some g ∧ g.command = .apply) →
        ∃ t sel', exec (.deselect via) s = .next t ∧ t.pending = s.pending ∧ t.car.brk.test = .onSelected sel' ∧
          sel'.channel = sel.channel ∧ sel'.command = .apply ∧ sel'.deselectPending = true ∧
          (sel.command = .apply → sel'.timing = sel.timing ∧ t.car.brk.results = s.car.brk.results) ∧
          (sel.command = .release → ch.reading ≠ .applied → sel'.timing = some ⟨0, .apply, ch.reading, false⟩) ∧
          (t.car.brk.channels.get sel.channel).command = .apply ∧
          t.car.odo = s.car.odo ∧ t.car.dor = s.car.dor ∧ t.car.evr = s.car.evr))

/-! ## The doors -/

/-- O39. The law of door release: RANGE for another side; then NOT_STANDSTILL, BRAKES, POSITION and PLATFORM, the first that
fails; a refusal sent to a group or the whole train makes DOOR_RELEASE_REFUSED occur; a refusal leaves every leaf and side as it
is, and a grant is given only with every interlock met, with the release's time stamp and flags and the close step NONE. A grant
sends a LOCKED leaf UNLOCK, and an UNLOCKED one OPEN under auto-open; it stops the motion and pause timers of a CLOSING or
REOPENING leaf, clears its obstacle count and sends it OPEN; an OPEN or OPENING leaf that is due is due no more, its waiting
CHIME or CLOSE is removed and it leaves its close block; any other leaf is left as it is. A leaf whose DOU an exchange runs with
is left alone, and the release is kept for the end of that exchange. What the model chose and this rests on:
notes/assumptions/23.md, notes/assumptions/71.md. -/
def Obligations.ReleaseIsGrantedOnlySafely : Prop :=
  ∀ (via : Via) (side : Nat) (autoOpen noPlatform : Bool) (s : State), Ready s → Intact s.car →
    Reaches via (.doorRelease side autoOpen noPlatform) s.car →
    let i := Instr.doorRelease via side autoOpen noPlatform
    let low : Int := (s.car.odo.position.pos : Int) - s.car.odo.position.unc - (s.car.lif.params.carLength / 2 : Nat)
    let high : Int := (s.car.odo.position.pos : Int) + s.car.odo.position.unc + (s.car.lif.params.carLength / 2 : Nat)
    let waived := noPlatform = true ∧ s.car.lif.params.platformOverride = true
    let spans (x : Side) := ∃ r ∈ s.car.pst.table, r.checkFailed = false ∧ ∃ q, r.platform = some q ∧
      (q.side = .both ∨ (q.side = .left ∧ x = .left) ∨ (q.side = .right ∧ x = .right)) ∧ (q.low : Int) ≤ low ∧ high ≤ q.high
    let applied := s.car.brk.channels.cbA.reading = .applied ∧ s.car.brk.channels.cbB.reading = .applied
    let refused (x : Side) (result : Result) (code : Nat) := exec i s = .next ⟨replied via 8 result [.none]
      (if via.addressing = .car then s.car else occur .doorReleaseRefused (256 * x.number + code) s.car), s.pending⟩
    (side ≠ 1 → side ≠ 2 → exec i s = .next ⟨replied via 8 .range [.none] s.car, s.pending⟩) ∧
    (∀ x, Side.ofCode side = some x →
      (s.car.odo.standstill = false → refused x .notStandstill 1) ∧
      (s.car.odo.standstill = true → ¬ applied → refused x .brakes 2) ∧
      (s.car.odo.standstill = true → applied → s.car.odo.position.state ≠ .known → refused x .position 3) ∧
      (s.car.odo.standstill = true → applied → s.car.odo.position.state = .known → ¬ waived → ¬ spans x →
        refused x .platform 4) ∧
      (s.car.odo.standstill = true → applied → s.car.odo.position.state = .known → waived ∨ spans x →
        ∃ t, exec i s = .next t ∧ t.pending = s.pending ∧
          t.car.dor.sides.get x = ⟨some s.car.now, autoOpen, t.car.dor.sides.get x |>.overrideUsed, .none, none⟩ ∧
          ((t.car.dor.sides.get x).overrideUsed = true ↔ waived) ∧
          (∀ y, y ≠ x → t.car.dor.sides.get y = s.car.dor.sides.get y) ∧
          t.car.dor.hold = true ∧ t.car.brk.doorHold = true ∧
          (∀ leaf, leaf.side ≠ x → t.car.dor.leaves.get leaf = s.car.dor.leaves.get leaf) ∧
          (∀ leaf, leaf.side = x → (t.car.dor.leaves.get leaf).state = (s.car.dor.leaves.get leaf).state) ∧
          (∀ leaf, leaf.side = x → ¬ s.car.dor.runsWith leaf → Released autoOpen s.car.dor t.car.dor leaf) ∧
          (∀ leaf, leaf.side = x → s.car.dor.runsWith leaf →
            t.car.dor.leaves.get leaf = s.car.dor.leaves.get leaf ∧ t.car.dor.slot leaf = s.car.dor.slot leaf ∧
            t.car.dor.deferred = s.car.dor.deferred ++ [(leaf, .release)]) ∧
          ((∀ leaf, leaf.side = x → ¬ s.car.dor.runsWith leaf) → t.car.dor.deferred = s.car.dor.deferred) ∧
          t.car.dor.exchange = s.car.dor.exchange ∧
          t.car.lif.frames = s.car.lif.frames ++ answerFrames via 8 .accepted [.none] ∧
          t.car.odo = s.car.odo ∧ t.car.tlf = s.car.tlf ∧ t.car.pst = s.car.pst ∧ t.car.brk.causes = s.car.brk.causes ∧
          t.car.evr = s.car.evr))

/-- O40. DOOR CLOSE: RANGE for another value; otherwise each named side's release is withdrawn and its waiting UNLOCK and OPEN
removed, an UNLOCKED leaf is sent LOCK, and one that is closing goes on with its obstacle count at 0. An OPEN or OPENING leaf
becomes due and is sent CHIME with its side CHIMING, out of any close block, but for one already due under a close step CHIMING
or WARNING, which stays as it is. Under such a step the side becomes CHIMING, and WARNING at once when no CHIME waits or runs
for a due leaf of it. A leaf whose DOU an exchange runs with is left alone, the close is kept for the end of that exchange, and
a release that was kept so is dropped. MODEL'S CHOICE: the close step is judged as the telegram is taken, for a close that is
kept as well (notes/assumptions/23.md). What the model chose and this rests on: notes/assumptions/47.md. -/
def Obligations.DoorCloseClosesTheSides : Prop :=
  ∀ (via : Via) (side : Nat) (s : State), Ready s → Reaches via (.doorClose side) s.car →
    (side < 1 ∨ 3 < side → exec (.doorClose via side) s = .next ⟨replied via 9 .range [.none] s.car, s.pending⟩) ∧
    (1 ≤ side → side ≤ 3 →
      let named (x : Side) : Prop := (x = .left ∧ side ≠ 2) ∨ (x = .right ∧ side ≠ 1)
      let again (x : Side) : Bool := decide ((s.car.dor.sides.get x).step ≠ .none)
      let kept := s.car.dor.deferred.filter fun a =>
        !(decide (a.2 = .release) && decide ((a.1.side = .left ∧ side ≠ 2) ∨ (a.1.side = .right ∧ side ≠ 1)))
      ∃ t, exec (.doorClose via side) s = .next t ∧ t.pending = s.pending ∧
        t.car.lif.frames = s.car.lif.frames ++ answerFrames via 9 .accepted [.none] ∧
        (∀ x : Side, named x →
          (t.car.dor.sides.get x).release = none ∧
          (t.car.dor.sides.get x).autoOpen = (s.car.dor.sides.get x).autoOpen ∧
          (∀ p ∈ t.car.dor.slots, p.1.side = x → p.2.opens = false)) ∧
        (∀ x : Side, ¬ named x →
          t.car.dor.sides.get x = s.car.dor.sides.get x ∧
          ∀ leaf, leaf.side = x → t.car.dor.leaves.get leaf = s.car.dor.leaves.get leaf ∧
            t.car.dor.slot leaf = s.car.dor.slot leaf) ∧
        (∀ leaf : Leaf, named leaf.side → ¬ s.car.dor.runsWith leaf → Closed (again leaf.side) s.car.dor t.car.dor leaf) ∧
        (∀ leaf : Leaf, named leaf.side → s.car.dor.runsWith leaf →
          t.car.dor.leaves.get leaf = s.car.dor.leaves.get leaf ∧
          ((∀ cmd, s.car.dor.slot leaf = some cmd → cmd.opens = false) → t.car.dor.slot leaf = s.car.dor.slot leaf) ∧
          t.car.dor.deferred = kept ++ [(leaf, .close (again leaf.side))]) ∧
        ((∀ leaf : Leaf, named leaf.side → ¬ s.car.dor.runsWith leaf) → t.car.dor.deferred = kept) ∧
        t.car.dor.exchange = s.car.dor.exchange ∧
        (∀ x : Side, named x →
          let old := s.car.dor.sides.get x
          let chimes := ∃ l : Leaf, l.side = x ∧ (t.car.dor.leaves.get l).closeDue = true ∧
            (t.car.dor.slot l = some .chime ∨
              ∃ e, s.car.dor.exchange = some e ∧ e.leaf = l ∧ e.message = .command .chime)
          (old.step ≠ .none → chimes →
            t.car.dor.sides.get x = { old with release := none, step := .chiming, warning := none }) ∧
          (old.step ≠ .none → ¬ chimes →
            t.car.dor.sides.get x = { old with release := none, step := .warning, warning := some 0 }) ∧
          (old.step = .none → (∀ l : Leaf, l.side = x → ¬ s.car.dor.runsWith l → (s.car.dor.leaves.get l).state ≠ .opened ∧
              (s.car.dor.leaves.get l).state ≠ .opening) →
            t.car.dor.sides.get x = { old with release := none })) ∧
        t.car.odo = s.car.odo ∧ t.car.tlf = s.car.tlf ∧ t.car.pst = s.car.pst ∧ t.car.brk.causes = s.car.brk.causes ∧
        t.car.evr = s.car.evr ∧ t.car.vrl = s.car.vrl)

/-- O41. The exchange that starts: none while one runs; while a close block is open the next CLOSE of the block in its slot;
otherwise the waiting command placed earliest, which leaves its slot; otherwise the due poll, which is then due no more; each as
attempt 1 with the reply timer from 0. -/
def Obligations.ExchangesStartInOrder : Prop :=
  ∀ s : State, Ready s →
    (s.car.dor.exchange ≠ none → exec .doorExchangeStart s = .next s) ∧
    (s.car.dor.exchange = none → s.car.dor.blocks = [] → s.car.dor.slots = [] → s.car.dor.due = none →
      exec .doorExchangeStart s = .next s) ∧
    (∀ leaf, s.car.dor.exchange = none → s.car.dor.blocks = [] → s.car.dor.slots = [] → s.car.dor.due = some leaf →
      exec .doorExchangeStart s = .next { s with car := { s.car with dor := { s.car.dor with
        due := none, exchange := some ⟨leaf, .status, 1, some 0, false⟩ } } }) ∧
    (∀ leaf cmd rest, s.car.dor.exchange = none → s.car.dor.blocks = [] → s.car.dor.slots = (leaf, cmd) :: rest →
      (∀ x ∈ rest, x.1 ≠ leaf) →
      exec .doorExchangeStart s = .next { s with car := { s.car with dor := { s.car.dor with
        slots := rest, exchange := some ⟨leaf, .command cmd, 1, some 0, false⟩ } } }) ∧
    (∀ b blocks leaf, s.car.dor.exchange = none → s.car.dor.blocks = b :: blocks →
      (b.leaves.find? fun l => s.car.dor.slot l == some .close) = some leaf →
      ∃ t, exec .doorExchangeStart s = .next t ∧ t.pending = s.pending ∧
        t.car.dor.exchange = some ⟨leaf, .command .close, 1, some 0, false⟩ ∧ t.car.dor.slot leaf = none ∧
        t.car.dor.due = s.car.dor.due ∧ t.car.dor.leaves = s.car.dor.leaves ∧ t.car.dor.turn = s.car.dor.turn ∧
        t.car.lif = s.car.lif ∧ t.car.evr = s.car.evr ∧ t.car.odo = s.car.odo ∧ t.car.brk.causes = s.car.brk.causes)

/-- O42. A failed attempt 1 or 2, by a timeout or by a reply that is not what the message expects, sends the same message again
as the next attempt; a failed third attempt sends a LOCKED to REOPENING leaf to FAULT with reason BUS, marks an UNREAD leaf's
failure with DOOR_FAULT once, and changes nothing in a FAULT or ISOLATED leaf. With no exchange running a timeout or a reply
changes nothing, and neither does a reply that belongs to an attempt already failed, or a timeout that finds the attempt short
of 20 ms. What the model chose and this rests on: notes/assumptions/6.md, notes/assumptions/72.md. -/
def Obligations.ExchangesFailAtTheThirdAttempt : Prop :=
  ∀ (i : Instr) (s : State), Ready s →
    (s.car.dor.exchange = none → (i = .doorReplyTimeout ∨ ∃ a r ok late, i = .doorBusReply a r ok late) → exec i s = .next s) ∧
    (∀ a r ok, i = .doorBusReply a r ok true → exec i s = .next s) ∧
    (∀ x, s.car.dor.exchange = some x → Timer.reached 2 x.timer = false → exec .doorReplyTimeout s = .next s) ∧
    (∀ x, s.car.dor.exchange = some x →
      ((i = .doorReplyTimeout ∧ Timer.reached 2 x.timer = true) ∨ ∃ a r ok, i = .doorBusReply a r ok false ∧
        (a ≠ x.leaf.number ∨ ok = false ∨ x.message.expects r = false)) →
      (x.attempt < 3 → exec i s = .next { s with car := { s.car with dor := { s.car.dor with
        exchange := some { x with attempt := x.attempt + 1, timer := some 0 } } } }) ∧
      (3 ≤ x.attempt → x.void = false → s.car.dor.deferred = [] →
        let r := s.car.dor.leaves.get x.leaf
        ∃ t, exec i s = .next t ∧ t.pending = s.pending ∧ t.car.dor.exchange = none ∧
          (∀ leaf, leaf ≠ x.leaf → t.car.dor.leaves.get leaf = s.car.dor.leaves.get leaf) ∧
          (r.state ≠ .unread → r.state ≠ .fault → r.state ≠ .isolated →
            t.car.dor.leaves.get x.leaf = { r with
              state := .fault, reason := some .bus, motion := none, pause := none, closeDue := false } ∧
            t.car.dor.slot x.leaf = none ∧ t.car.dor.proven = false ∧ t.car.brk.doorHold = true ∧
            ((t.car.evr.source 16).pending = true ∨ s.car.evr.sources.length ≤ 16)) ∧
          (r.state = .unread → t.car.dor.leaves.get x.leaf = { r with unreadFailure := true } ∧
            (r.unreadFailure = false → t.car.evr = s.car.evr.take s.car.now .doorFault (256 * x.leaf.number + 1)) ∧
            (r.unreadFailure = true → t.car.evr = s.car.evr)) ∧
          (r.state = .fault ∨ r.state = .isolated → t.car.dor.leaves.get x.leaf = r ∧ t.car.evr = s.car.evr) ∧
          t.car.lif = s.car.lif ∧ t.car.odo = s.car.odo ∧ t.car.tlf = s.car.tlf ∧ t.car.pst = s.car.pst))

/-- O43. The table of status replies: an answered poll is recorded as the leaf's last status reply and taken by the leaf state,
for every leaf state and every leaf position, for a reply that carries neither flag and a leaf with nothing deferred. What the
model chose and this rests on: notes/assumptions/41.md. -/
def Obligations.StatusRepliesMoveTheLeaf : Prop :=
  ∀ (x : Exchange) (p : LeafPosition) (s : State), Ready s → s.car.dor.exchange = some x → x.message = .status →
    x.void = false → s.car.dor.deferred = [] →
    let r := s.car.dor.leaves.get x.leaf
    let q : LeafRecord := { r with lastStatus := some ⟨p, false, false⟩ }
    ∃ t, exec (.doorBusReply x.leaf.number (.status ⟨p, false, false⟩) true false) s = .next t ∧ t.pending = s.pending ∧
      t.car.dor.exchange = none ∧
      (∀ leaf, leaf ≠ x.leaf → t.car.dor.leaves.get leaf = s.car.dor.leaves.get leaf) ∧
      t.car.lif = s.car.lif ∧ t.car.odo = s.car.odo ∧ t.car.tlf = s.car.tlf ∧ t.car.pst = s.car.pst ∧
      (let q' := t.car.dor.leaves.get x.leaf
      match r.state, p with
      | .isolated, _ => q' = r
      | .fault, _ => q' = q
      | _, .closedLocked => q' = { q with
          state := .locked, motion := none, pause := none, closeDue := false, obstacles := 0, unreadFailure := false }
      | .unread, .closedUnlocked => q' = { q with state := .unlocked, unreadFailure := false }
      | .unread, .opened => q' = { q with state := .opened, unreadFailure := false }
      | .locked, _ => q'.state = .fault ∧ q'.reason = some .statusMismatch ∧ q'.lastStatus = q.lastStatus
      | .unlocked, .moving => q'.state = .fault ∧ q'.reason = some .statusMismatch ∧ q'.lastStatus = q.lastStatus
      | .unlocked, .opened => q'.state = .fault ∧ q'.reason = some .statusMismatch ∧ q'.lastStatus = q.lastStatus
      | .opening, .opened => q' = { q with state := .opened, motion := none }
      | .opened, .closedUnlocked => q' = { q with state := .unlocked, closeDue := false } ∧
          (r.closeDue = true → t.car.dor.slot x.leaf = some .lock)
      | .reopening, .opened => q' = if r.halfWidth then q else { q with motion := none, pause := some 0, halfWidth := true }
      | _, _ => q' = q)

/-- O44. An acknowledged command takes effect on its leaf by its kind: UNLOCK to UNLOCKED, with OPEN placed while the side is
granted with auto-open outside fault stop; LOCK and CLOSE to CLOSING and REOPEN to REOPENING with the motion timer from 0; OPEN
to OPENING, or after a third obstacle to OPEN and obstructed; CHIME to nothing. Obstacles in CLOSING are counted: the first two
are answered with REOPEN, the third with OPEN and DOOR_OBSTRUCTED. MODEL'S CHOICE: outside fault stop one that finds the count
at 3 is answered as the third (notes/assumptions/64.md). The last CHIME of a side's due leaves to end passes its close step from
CHIMING to WARNING, the warning timer from 0. An open request at an UNLOCKED leaf of a granted side places OPEN, outside fault
stop. An exchange that ends, answered or failed, with a release or a close kept for its end does what it does without that act,
and then the act takes effect on the leaf as it then stands; with several kept, each in its order. What the model chose and this
rests on: notes/assumptions/22.md, notes/assumptions/23.md, notes/assumptions/41.md. -/
def Obligations.AcknowledgedCommandsTakeEffect : Prop :=
  (∀ (x : Exchange) (cmd : DoorCommand) (s : State), Ready s → s.car.dor.exchange = some x → x.message = .command cmd →
    x.void = false → s.car.dor.deferred = [] →
    (s.car.dor.leaves.get x.leaf).state ≠ .fault → (s.car.dor.leaves.get x.leaf).state ≠ .isolated →
    (s.car.dor.leaves.get x.leaf).state ≠ .unread →
    let r := s.car.dor.leaves.get x.leaf
    let side := s.car.dor.sides.get x.leaf.side
    ∃ t, exec (.doorBusReply x.leaf.number .ack true false) s = .next t ∧ t.pending = s.pending ∧
      t.car.dor.exchange = none ∧
      (∀ leaf, leaf ≠ x.leaf → t.car.dor.leaves.get leaf = s.car.dor.leaves.get leaf) ∧
      t.car.lif = s.car.lif ∧ t.car.odo = s.car.odo ∧ t.car.tlf = s.car.tlf ∧ t.car.pst = s.car.pst ∧
      (match cmd with
      | .unlock => t.car.dor.leaves.get x.leaf = { r with state := .unlocked } ∧
          (side.release ≠ none → side.autoOpen = true → s.car.brk.faultStop = false →
            t.car.dor.slot x.leaf = some (.openLeaf false)) ∧
          (side.release = none ∨ side.autoOpen = false ∨ s.car.brk.faultStop = true →
            t.car.dor.slot x.leaf = s.car.dor.slot x.leaf)
      | .lock => t.car.dor.leaves.get x.leaf = { r with state := .closing, motion := some 0 }
      | .openLeaf false => t.car.dor.leaves.get x.leaf = { r with state := .opening, motion := some 0, pause := none }
      | .openLeaf true => t.car.dor.leaves.get x.leaf = { r with state := .opened, obstructed := true, motion := none }
      | .close => t.car.dor.leaves.get x.leaf = { r with state := .closing, closeDue := false, motion := some 0 }
      | .reopen => t.car.dor.leaves.get x.leaf = { r with state := .reopening, motion := some 0, halfWidth := false }
      | .chime => t.car.dor.leaves.get x.leaf = r ∧
          (let waits := ∃ l : Leaf, l.side = x.leaf.side ∧ (s.car.dor.leaves.get l).closeDue = true ∧
            s.car.dor.slot l = some .chime
          (waits ∨ side.step ≠ .chiming → t.car.dor.sides.get x.leaf.side = side) ∧
          (¬ waits → side.step = .chiming →
            t.car.dor.sides.get x.leaf.side = { side with step := .warning, warning := some 0 })))) ∧
  (∀ (x : Exchange) (s : State), Ready s → s.car.dor.exchange = some x → x.message = .status → x.void = false →
    s.car.dor.deferred = [] → (s.car.dor.leaves.get x.leaf).state = .closing → s.car.dor.slot x.leaf = none →
    let r := s.car.dor.leaves.get x.leaf
    ∃ t, exec (.doorBusReply x.leaf.number (.status ⟨.moving, true, false⟩) true false) s = .next t ∧ t.pending = s.pending ∧
      t.car.dor.leaves.get x.leaf = { r with
        lastStatus := some ⟨.moving, true, false⟩, obstacles := min 3 (r.obstacles + 1) } ∧
      (r.obstacles < 2 ∨ s.car.brk.faultStop = true → t.car.dor.slot x.leaf = some .reopen ∧ t.car.evr = s.car.evr) ∧
      (2 ≤ r.obstacles → s.car.brk.faultStop = false → t.car.dor.slot x.leaf = some (.openLeaf true) ∧
        t.car.evr = s.car.evr.take s.car.now .doorObstructed x.leaf.number)) ∧
  (∀ (x : Exchange) (s : State), Ready s → s.car.dor.exchange = some x → x.message = .status → x.void = false →
    s.car.dor.deferred = [] → (s.car.dor.leaves.get x.leaf).state = .unlocked →
    let r := s.car.dor.leaves.get x.leaf
    let granted := (s.car.dor.sides.get x.leaf.side).release ≠ none
    ∃ t, exec (.doorBusReply x.leaf.number (.status ⟨.closedUnlocked, false, true⟩) true false) s = .next t ∧
      t.pending = s.pending ∧ t.car.dor.exchange = none ∧
      t.car.dor.leaves = s.car.dor.leaves.set x.leaf { r with lastStatus := some ⟨.closedUnlocked, false, true⟩ } ∧
      (granted → s.car.brk.faultStop = false → s.car.dor.slot x.leaf ≠ some (.openLeaf true) →
        t.car.dor.slot x.leaf = some (.openLeaf false)) ∧
      (¬ granted ∨ s.car.brk.faultStop = true → t.car.dor.slots = s.car.dor.slots) ∧
      t.car.evr = s.car.evr ∧ t.car.brk = s.car.brk ∧ t.car.odo = s.car.odo) ∧
  (∀ (x : Exchange) (i : Instr) (acts : List (Leaf × DeferredAct)) (act : DeferredAct) (s : State), Ready s →
    s.car.dor.exchange = some x → s.car.dor.deferred = acts ++ [(x.leaf, act)] →
    (∃ r, i = .doorBusReply x.leaf.number r true false ∧ x.message.expects r = true) ∨
      (3 ≤ x.attempt ∧ ((i = .doorReplyTimeout ∧ Timer.reached 2 x.timer = true) ∨ ∃ a r ok, i = .doorBusReply a r ok false ∧
        (a ≠ x.leaf.number ∨ ok = false ∨ x.message.expects r = false))) →
    ∃ u t, exec i ⟨{ s.car with dor := { s.car.dor with deferred := acts } }, s.pending⟩ = .next u ∧ exec i s = .next t ∧
      t.pending = s.pending ∧ t.car = { u.car with dor := t.car.dor } ∧
      t.car.dor.exchange = none ∧ t.car.dor.deferred = u.car.dor.deferred ∧
      (match act with
      | .release => Released (u.car.dor.sides.get x.leaf.side).autoOpen u.car.dor t.car.dor x.leaf
      | .close again => Closed again u.car.dor t.car.dor x.leaf) ∧
      (∀ leaf, leaf ≠ x.leaf → t.car.dor.leaves.get leaf = u.car.dor.leaves.get leaf ∧
        t.car.dor.slot leaf = u.car.dor.slot leaf) ∧
      ∀ side, side ≠ x.leaf.side → t.car.dor.sides.get side = u.car.dor.sides.get side)

/-- O45. Isolation, the motion timer and the warning timer: a contact that closes isolates its leaf from any state and one that
opens returns an ISOLATED leaf to UNREAD; a motion timer at 8 s in OPENING, CLOSING or REOPENING sends its leaf to FAULT with
reason MOTION_TIMEOUT; a warning timer at 2 s ends the close step and opens a close block of the side's due leaves with CLOSE
placed for each. The poll timer makes the DOU whose turn it is due and passes the turn, unless its leaf is ISOLATED or a poll is
still due; an expiry always starts the timer again. The pause timer's end at 2 s in REOPENING places CLOSE. An expiry of the
motion, warning or pause timer that finds it stopped or short of its limit changes nothing. What the model chose and this rests
on: notes/assumptions/6.md, notes/assumptions/41.md. -/
def Obligations.LeafTimersAndIsolation : Prop :=
  ∀ (leaf : Leaf) (side : Side) (s : State), Ready s →
    let r := s.car.dor.leaves.get leaf
    (∀ closed, r.contactClosed = closed → exec (.isolationContactChange leaf closed) s = .next s) ∧
    (r.contactClosed = false → ∃ t, exec (.isolationContactChange leaf true) s = .next t ∧ t.pending = s.pending ∧
      t.car.dor.leaves = s.car.dor.leaves.set leaf { r with
        state := .isolated, reason := none, closeDue := false, obstacles := 0, motion := none, pause := none,
        contactClosed := true, unreadFailure := false } ∧
      t.car.dor.slot leaf = none ∧ t.car.dor.due ≠ some leaf ∧
      (∀ b ∈ t.car.dor.blocks, leaf ∉ b.leaves) ∧
      (∀ x, s.car.dor.exchange = some x → x.leaf = leaf → t.car.dor.exchange = some { x with void := true }) ∧
      t.car.lif = s.car.lif ∧ t.car.odo = s.car.odo ∧ t.car.tlf = s.car.tlf ∧ t.car.pst = s.car.pst) ∧
    (r.contactClosed = true → ∃ t, exec (.isolationContactChange leaf false) s = .next t ∧ t.pending = s.pending ∧
      t.car.dor.leaves = s.car.dor.leaves.set leaf { r with
        contactClosed := false
        state := if r.state = .isolated then .unread else r.state
        unreadFailure := if r.state = .isolated then false else r.unreadFailure } ∧
      t.car.lif = s.car.lif ∧ t.car.odo = s.car.odo ∧ t.car.tlf = s.car.tlf ∧ t.car.pst = s.car.pst) ∧
    (Timer.reached 800 r.motion = false ∨ (r.state ≠ .opening ∧ r.state ≠ .closing ∧ r.state ≠ .reopening) →
      exec (.motionTimeout leaf) s = .next s) ∧
    (Timer.reached 800 r.motion = true → r.state = .opening ∨ r.state = .closing ∨ r.state = .reopening →
      ∃ t, exec (.motionTimeout leaf) s = .next t ∧ t.pending = s.pending ∧
        t.car.dor.leaves = s.car.dor.leaves.set leaf { r with
          state := .fault, reason := some .motionTimeout, motion := none, pause := none, closeDue := false } ∧
        t.car.dor.slot leaf = none ∧ t.car.evr = s.car.evr.take s.car.now .doorFault (256 * leaf.number + 2) ∧
        t.car.lif = s.car.lif ∧ t.car.odo = s.car.odo ∧ t.car.tlf = s.car.tlf ∧ t.car.pst = s.car.pst) ∧
    (Timer.reached 200 (s.car.dor.sides.get side).warning = false → exec (.warningTimerEnd side) s = .next s) ∧
    (Timer.reached 200 (s.car.dor.sides.get side).warning = true →
      ∃ t, exec (.warningTimerEnd side) s = .next t ∧ t.pending = s.pending ∧
        (t.car.dor.sides.get side).step = .none ∧ (t.car.dor.sides.get side).warning = none ∧
        t.car.dor.leaves = s.car.dor.leaves ∧
        (∀ l, l.side = side → (s.car.dor.leaves.get l).closeDue = true →
          (s.car.dor.leaves.get l).state.commanded = true →
          t.car.dor.slot l = some .close ∧ ∃ b ∈ t.car.dor.blocks, b.side = side ∧ l ∈ b.leaves) ∧
        t.car.lif = s.car.lif ∧ t.car.odo = s.car.odo ∧ t.car.evr = s.car.evr ∧ t.car.brk.causes = s.car.brk.causes) ∧
    (∀ l, s.car.dor.due = some l → exec .pollTimerExpiry s =
      .next { s with car := { s.car with dor := { s.car.dor with pollTimer := some 0 } } }) ∧
    (s.car.dor.due = none → exec .pollTimerExpiry s = .next { s with car := { s.car with dor := { s.car.dor with
      pollTimer := some 0
      due := if (s.car.dor.leaves.get s.car.dor.turn).state = .isolated then none else some s.car.dor.turn
      turn := match s.car.dor.turn with
        | .lh1 => .lh2
        | .lh2 => .rh1
        | .rh1 => .rh2
        | .rh2 => .lh1 } } }) ∧
    (Timer.reached 200 r.pause = false ∨ r.state ≠ .reopening → exec (.reopenPauseEnd leaf) s = .next s) ∧
    (Timer.reached 200 r.pause = true → r.state = .reopening →
      ∃ t, exec (.reopenPauseEnd leaf) s = .next t ∧ t.pending = s.pending ∧ t.car.dor.slot leaf = some .close ∧
        t.car.dor.leaves = s.car.dor.leaves.set leaf { r with pause := none } ∧
        t.car.dor.blocks = s.car.dor.blocks ∧ t.car.dor.exchange = s.car.dor.exchange ∧
        t.car.lif = s.car.lif ∧ t.car.brk = s.car.brk ∧ t.car.odo = s.car.odo ∧ t.car.evr = s.car.evr)

/-! ## The tooth loop front end -/

/-- O46. Levels above T2 in ACTIVE and FAULT: a rise truncates the word being received and begins a level under the T2 in force;
its end is a tooth pulse, an idle mark or a malformed pulse by its duration. A tooth pulse enters its samples, counts, restarts
the thresholds and the word receiver and, on a valid channel, is handed to the ODO with the idle flag it found; it ends
standstill and withdraws every granted door release. Otherwise nothing changes. What the model chose and this rests on:
notes/assumptions/7.md, notes/assumptions/17.md. -/
def Obligations.LevelsAreClassified : Prop :=
  ∀ (ch : LoopChannel) (since lowest duration highest : Nat) (s : State), Ready s →
    let r := s.car.tlf.get ch
    let o := s.car.odo.channels.get ch
    let decodes := r.state = .active ∨ r.state = .fault
    (¬ decodes → exec (.highLevelRise ch since lowest) s = .next s) ∧
    (decodes → r.receiver = none → exec (.highLevelRise ch since lowest) s = .next ⟨{ s.car with
      tlf := s.car.tlf.set ch { r with level := some ⟨r.t2, min 400 lowest⟩ } }, s.pending⟩) ∧
    (decodes → r.receiver ≠ none → exec (.highLevelRise ch since lowest) s = .next ⟨{ s.car with
      tlf := s.car.tlf.set ch { r with
        level := some ⟨r.t2, min 400 lowest⟩, receiver := none, rollRef := none,
        lastTruncated := ((List.range 8).filter fun k => decide (26 + 50 * k ≤ since)).length,
        counts := { r.counts with truncated := min 65535 (r.counts.truncated + 1) } } }, s.pending⟩) ∧
    (¬ decodes ∨ r.level = none → exec (.highLevelEnd ch duration highest) s = .next s) ∧
    (∀ l, decodes → r.level = some l →
      let tooth := 20 ≤ duration ∧ duration ≤ 200
      let idle := 1000 ≤ duration ∧ duration ≤ 3000
      let idled : TlfChannel := { r with level := none, lastIdle := some s.car.now, idleFlag := true }
      (¬ tooth → ¬ idle → exec (.highLevelEnd ch duration highest) s = .next ⟨{ s.car with
        tlf := s.car.tlf.set ch { r with
          level := none, counts := { r.counts with malformed := min 65535 (r.counts.malformed + 1) } } }, s.pending⟩) ∧
      (idle → r.state = .fault → exec (.highLevelEnd ch duration highest) s =
        .next ⟨{ s.car with tlf := s.car.tlf.set ch idled }, s.pending⟩) ∧
      (idle → r.state = .active → exec (.highLevelEnd ch duration highest) s = .next ⟨{ s.car with
        tlf := s.car.tlf.set ch idled
        odo := { s.car.odo with
          channels := s.car.odo.channels.set ch { o with window := [0, 0, 0, 0, 0], firstPulse := true } } }, s.pending⟩) ∧
      (tooth →
        let sampled : TlfChannel := { r with
          restList := pushSample 16 l.lowest r.restList
          toothList := pushSample 8 (min 400 highest) r.toothList
          lastTooth := some s.car.now
          idleFlag := false
          level := none
          counts := { r.counts with tooth := min 65535 (r.counts.tooth + 1) } }
        let n := sampled.rework s.car.lif.params ch
        ∃ t, exec (.highLevelEnd ch duration highest) s = .next t ∧ t.pending = s.pending ∧
          t.car.tlf = s.car.tlf.set ch { n with receiver := some ⟨n.t1, n.t2, 0⟩ } ∧
          t.car.lif = s.car.lif ∧ t.car.pst = s.car.pst ∧ t.car.ssv = s.car.ssv ∧ t.car.brk.causes = s.car.brk.causes ∧
          t.car.dor.leaves = s.car.dor.leaves ∧
          (n.satI0 = r.satI0 → n.satD1 = r.satD1 → n.satD2 = r.satD2 → t.car.evr = s.car.evr) ∧
          (r.state = .fault → t.car.odo = s.car.odo ∧ t.car.brk = s.car.brk ∧ t.car.dor = s.car.dor) ∧
          (r.state = .active → ∃ window : List Nat,
            (r.idleFlag = true ∨ o.firstPulse = true → window = o.window) ∧
            (r.idleFlag = false → o.firstPulse = false →
              ∀ a b c d e, o.window = [a, b, c, d, e] → window = [a, b, c, d, e + 1]) ∧
            t.car.odo = { s.car.odo with
              standstill := false
              channels := s.car.odo.channels.set ch { o with
                acc := min 4294967295 (o.acc + s.car.lif.params.pitch.get ch)
                lastPulse := some s.car.now
                window := window
                firstPulse := false } } ∧
            (s.car.odo.standstill = true → t.car.brk.standstillSince = none ∧
              t.car.dor.sides.left.release = none ∧ t.car.dor.sides.right.release = none ∧
              ∀ side : Side, (s.car.dor.sides.get side).release ≠ none →
                ∀ x ∈ t.car.dor.slots, x.1.side = side → x.2.opens = false) ∧
            (s.car.odo.standstill = false → t.car.brk = s.car.brk ∧ t.car.dor = s.car.dor))))

/-- O47. The adaptive quantities and the thresholds that follow a channel's lists: each quantity clamped to its range, or at its
initial value while its list is empty; the thresholds of the two modes; a saturation flag set by a clamp in adaptive mode and
never cleared here; nothing else of the record changed. Each flag that goes from clear to set makes SENSOR_SATURATION occur with
its quantity code, and nothing else does; FAULT READ, entry to SETTLING and both hardware resets clear the flags. -/
def Obligations.ThresholdsFollowTheLists : Prop :=
  (∀ (r : TlfChannel) (p : Params) (ch : LoopChannel),
    let q := r.rework p ch
    q = { r with i0 := q.i0, d1 := q.d1, d2 := q.d2, t1 := q.t1, t2 := q.t2, satI0 := q.satI0, satD1 := q.satD1,
                 satD2 := q.satD2 } ∧
    (r.restList = [] → q.i0 = p.i0Min) ∧ (r.dataList = [] → q.d1 = 30) ∧ (r.toothList = [] → q.d2 = 60) ∧
    (∀ m, m ∈ r.restList → (∀ x ∈ r.restList, m ≤ x) → q.i0 = max p.i0Min (min (p.i0Min + p.i0Span) m)) ∧
    (r.dataList ≠ [] → q.d1 = max 30 (min 70 (r.dataList.sum / r.dataList.length - q.i0))) ∧
    (r.toothList ≠ [] → q.d2 = max 60 (min 120 (r.toothList.sum / r.toothList.length - q.i0 - q.d1))) ∧
    (p.fixedMode.get ch = false → q.t1 = q.i0 + q.d1 / 2 ∧ q.t2 = min 390 (q.i0 + q.d1 + q.d2 / 2)) ∧
    (p.fixedMode.get ch = true → q.t1 = 30 + p.offsetF.get ch ∧ q.t2 = min 390 (q.t1 + 30 + p.offsetO.get ch) ∧
      q.satI0 = r.satI0 ∧ q.satD1 = r.satD1 ∧ q.satD2 = r.satD2 ∧
      (p.offsetF.get ch ≤ 150 → p.offsetO.get ch ≤ 150 → 30 ≤ q.t1 ∧ q.t1 ≤ 180 ∧ q.t1 + 30 ≤ q.t2)) ∧
    (p.fixedMode.get ch = false →
      (q.satI0 = true ↔ r.satI0 = true ∨ ∃ m ∈ r.restList, (∀ x ∈ r.restList, m ≤ x) ∧
        (m < p.i0Min ∨ p.i0Min + p.i0Span < m)) ∧
      (q.satD1 = true ↔ r.satD1 = true ∨ (r.dataList ≠ [] ∧
        (r.dataList.sum / r.dataList.length < q.i0 + 30 ∨ q.i0 + 70 < r.dataList.sum / r.dataList.length))) ∧
      (q.satD2 = true ↔ r.satD2 = true ∨ (r.toothList ≠ [] ∧
        (r.toothList.sum / r.toothList.length < q.i0 + q.d1 + 60 ∨
          q.i0 + q.d1 + 120 < r.toothList.sum / r.toothList.length))))) ∧
  (∀ (ch : LoopChannel) (r : TlfChannel) (c : Car),
    let q := r.rework c.lif.params ch
    let d := reworkLoop ch r c
    let hand (before after : Bool) (code : Nat) (e : Evr) : Evr :=
      if before = false ∧ after = true then e.take c.now .sensorSaturation (256 * ch.number + code) else e
    d = { c with tlf := c.tlf.set ch q, evr := d.evr, vrl := d.vrl } ∧
    d.evr = hand r.satD2 q.satD2 3 (hand r.satD1 q.satD1 2 (hand r.satI0 q.satI0 1 c.evr)) ∧
    (q.satI0 = r.satI0 → q.satD1 = r.satD1 → q.satD2 = r.satD2 → d.vrl = c.vrl)) ∧
  (∀ (r : TlfChannel) (p : Params) (ch : LoopChannel),
    let q := r.beginSettling p ch
    q.state = .settling ∧ q.satI0 = false ∧ q.satD1 = false ∧ q.satD2 = false) ∧
  (∀ (i : Instr) (via : Via) (strap : Bool) (s : State),
    i = .powerOnReset strap ∨ i = .resetLineReset strap ∨ (i = .faultRead via ∧ Ready s ∧ Reaches via .faultRead s.car) →
    ∃ t, exec i s = .next t ∧ ∀ ch,
      (t.car.tlf.get ch).satI0 = false ∧ (t.car.tlf.get ch).satD1 = false ∧ (t.car.tlf.get ch).satD2 = false)

/-- O48. A complete data word: an odd number of 1s is a word error that clears the rolling-count reference; a rolling count that
does not follow the reference is a word error and becomes the reference; otherwise the word is good and becomes the latest. Good
parity enters the data samples and works out the thresholds. A good word's sensor fault bit latches SENSOR and takes an ACTIVE
channel to FAULT; without it, a cog channel's word on rack enters the mesh history, with the flags and conditions that follow.
What the model chose and this rests on: notes/assumptions/7.md, notes/assumptions/18.md, notes/assumptions/34.md. -/
def Obligations.DataWordsAreReceived : Prop :=
  ∀ (ch : LoopChannel) (samples : List Nat) (s : State), Ready s → Intact s.car → samples.length = 9 →
    let r := s.car.tlf.get ch
    let o := s.car.odo.channels.get ch
    let decodes := r.state = .active ∨ r.state = .fault
    (¬ decodes ∨ r.receiver = none → exec (.dataWordComplete ch samples) s = .next s) ∧
    (∀ rx, decodes → r.receiver = some rx →
      let current (k : Nat) := min 400 (samples.getD k 0)
      let bit (k : Nat) : Bool := decide (rx.t1 < current k)
      let value (k : Nat) : Nat := if bit k then 1 else 0
      let ones := ((List.range 9).filter bit).length
      let word : DataWord := ⟨bit 0, value 1 + 2 * value 2 + 4 * value 3, bit 4, bit 5, value 6 + 2 * value 7⟩
      let good := ∀ n, r.rollRef = some n → word.rolling = (n + 1) % 4
      let judged : TlfChannel := { r with
        receiver := none
        dataList := (((List.range 9).filter bit).map current).foldl (fun l x => pushSample 8 x l) r.dataList
        rollRef := some word.rolling }
      (ones % 2 = 1 → exec (.dataWordComplete ch samples) s = .next ⟨{ s.car with
        tlf := s.car.tlf.set ch { r with
          receiver := none, rollRef := none
          counts := { r.counts with wordErrors := min 65535 (r.counts.wordErrors + 1) } } }, s.pending⟩) ∧
      (ones % 2 = 0 → ¬ good → ∃ t, exec (.dataWordComplete ch samples) s = .next t ∧ t.pending = s.pending ∧
        t.car = { s.car with tlf := t.car.tlf, evr := t.car.evr, vrl := t.car.vrl } ∧
        t.car.tlf = s.car.tlf.set ch (TlfChannel.rework { judged with
          counts := { r.counts with wordErrors := min 65535 (r.counts.wordErrors + 1) } } s.car.lif.params ch)) ∧
      (ones % 2 = 0 → good → ∃ t, exec (.dataWordComplete ch samples) s = .next t ∧ t.pending = s.pending ∧
        t.car.lif = s.car.lif ∧ t.car.pst = s.car.pst ∧
        (let n := TlfChannel.rework { judged with
          latest := some word
          counts := { r.counts with
            airGap := if word.airGap then min 65535 (r.counts.airGap + 1) else r.counts.airGap } } s.car.lif.params ch
        (word.sensorFault = false → t.car.tlf = s.car.tlf.set ch n) ∧
        (word.sensorFault = true → t.car.tlf = s.car.tlf.set ch
          { n with latches := { n.latches with sensor := true }, state := .fault } ∧
          t.car.odo = { s.car.odo with channels := if r.state = .active then s.car.odo.channels.set ch { o with
              valid := false, acc := 0, window := [0, 0, 0, 0, 0], speed := 0, firstPulse := true }
            else s.car.odo.channels } ∧
          (r.latches.sensor = false → (t.car.evr.source 9).pending = true ∨ s.car.evr.sources.length ≤ 9))) ∧
        (word.sensorFault = false →
          (r.state = .fault ∨ ch = .wheelA ∨ ch = .wheelB ∨
            (kindSet s.car.pst.readable s.car.odo.position s.car.lif.params.carLength).rack = false →
            t.car.odo = s.car.odo ∧ t.car.ssv = s.car.ssv ∧ t.car.brk = s.car.brk) ∧
          (r.state = .active → ch = .cogA ∨ ch = .cogB →
            (kindSet s.car.pst.readable s.car.odo.position s.car.lif.params.carLength).rack = true →
            let history := (o.mesh ++ [word.mesh]).drop (o.mesh.length + 1 - 3)
            let low := history.length = 3 ∧ ∀ m ∈ history, m ≤ 3
            let high := history.length = 3 ∧ ∀ m ∈ history, 4 ≤ m
            let q := t.car.odo.channels.get ch
            q.mesh = history ∧
            (high → q.shallow = false ∧ q.loss = false) ∧
            (low → q.shallow = true) ∧ (¬ low → ¬ high → q.shallow = o.shallow) ∧
            (¬ high → (q.loss = true ↔ o.loss = true ∨ word.mesh ≤ 1)) ∧
            (∀ other, other ≠ ch → t.car.odo.channels.get other = s.car.odo.channels.get other) ∧
            t.car.odo = { s.car.odo with
              channels := t.car.odo.channels
              meshShallow := t.car.odo.channels.cogA.shallow || t.car.odo.channels.cogB.shallow
              meshLoss := t.car.odo.channels.cogA.loss || t.car.odo.channels.cogB.loss } ∧
            (t.car.odo.meshShallow ≠ s.car.odo.meshShallow → t.car.ssv.waiting.cause = true) ∧
            (s.car.odo.meshLoss = false → t.car.odo.meshLoss = true →
              (t.car.brk.causes.meshLoss.map CauseRecord.present) = some true ∧
              (∀ c, (t.car.brk.channels.get c).command = .apply))))))

/-- O49. Loop faults and settling: a SHORT switches the supply off and takes the channel to OFF with its latch and SENSOR_FAULT;
an OPEN sets its latch, takes an ACTIVE channel to FAULT and makes SENSOR_FAULT occur once; both hand an ACTIVE channel's loss
of validity to the ODO and find nothing in OFF. The end of SETTLING enters the settling rest level, works out the thresholds and
takes the channel to ACTIVE with its gain of validity, or to FAULT when a latch is set. What the model chose and this rests on:
notes/assumptions/6.md, notes/assumptions/7.md. -/
def Obligations.LoopFaultsAndSettling : Prop :=
  ∀ (ch : LoopChannel) (lowest : Nat) (s : State), Ready s →
    let r := s.car.tlf.get ch
    let o := s.car.odo.channels.get ch
    let odoAs (valid : Bool) : Odo := { s.car.odo with channels := s.car.odo.channels.set ch { o with
      valid := valid, acc := 0, window := [0, 0, 0, 0, 0], speed := 0, firstPulse := true } }
    let lostOdo := if r.state = .active then odoAs false else s.car.odo
    let shortCar : Car := { s.car with
      tlf := s.car.tlf.set ch { r with
        state := .off, supply := false, latches := { r.latches with shortLoop := true }, level := none, receiver := none,
        settle := none }
      odo := lostOdo }
    let openCar : Car := { s.car with
      tlf := s.car.tlf.set ch { r with
        state := if r.state = .active then .fault else r.state
        latches := { r.latches with openLoop := true } }
      odo := lostOdo }
    (r.state = .off → exec (.shortDetected ch) s = .next s ∧ exec (.openDetected ch) s = .next s) ∧
    (r.state ≠ .off →
      exec (.shortDetected ch) s = .next ⟨occur .sensorFault (256 * ch.number + 2) shortCar, s.pending⟩ ∧
      (r.latches.openLoop = true → exec (.openDetected ch) s = .next ⟨openCar, s.pending⟩) ∧
      (r.latches.openLoop = false →
        exec (.openDetected ch) s = .next ⟨occur .sensorFault (256 * ch.number + 1) openCar, s.pending⟩)) ∧
    (r.state ≠ .settling ∨ Timer.reached 10 r.settle = false → exec (.settlingEnd ch lowest) s = .next s) ∧
    (r.state = .settling → Timer.reached 10 r.settle = true →
      let n := TlfChannel.rework { r with restList := pushSample 16 (min 400 lowest) r.restList, settle := none }
        s.car.lif.params ch
      let latched := r.latches ≠ ⟨false, false, false⟩
      ∃ t, exec (.settlingEnd ch lowest) s = .next t ∧ t.pending = s.pending ∧
        t.car = { s.car with tlf := t.car.tlf, odo := t.car.odo, evr := t.car.evr, vrl := t.car.vrl } ∧
        (latched → t.car.tlf = s.car.tlf.set ch { n with state := .fault } ∧ t.car.odo = s.car.odo) ∧
        (¬ latched → t.car.tlf = s.car.tlf.set ch { n with state := .active, idleFlag := true } ∧ t.car.odo = odoAs true) ∧
        (n.satI0 = r.satI0 → n.satD1 = r.satD1 → n.satD2 = r.satD2 → t.car.evr = s.car.evr ∧ t.car.vrl = s.car.vrl))

/-! ## Odometry and position -/

/-- O50. The odometry update, in the order of its steps: channel speeds, the active set, the fused speed and the advance, the
measured direction, the position record, standstill, the rollback distance, the mesh flags away from rack and the channel-count
conditions; then the coverage, a cause of evaluation that the comparisons follow, and the timebase watch and update timer from
0. The active set follows the kinds of track under the extent and whether it is wholly stored, for a table in the order of the
store's law. What the model chose and this rests on: notes/assumptions/6.md, notes/assumptions/15.md, notes/assumptions/21.md,
notes/assumptions/42.md, notes/assumptions/52.md, notes/assumptions/57.md. -/
def Obligations.OdometryUpdateTakesItsSteps : Prop :=
  ∀ s : State, Ready s → Intact s.car → (s.car.pst.table.Pairwise fun a b => a.low ≤ b.low) →
    let o := s.car.odo
    let params := s.car.lif.params
    let table := s.car.pst.table.filter fun x => !x.checkFailed
    let placed := o.position.state ≠ .unknown
    let low : Int := (o.position.pos : Int) - o.position.unc - (params.carLength / 2 : Nat)
    let high : Int := (o.position.pos : Int) + o.position.unc + (params.carLength / 2 : Nat)
    -- the kinds of track under the extent, and whether every position of it is stored
    let under (kind : TrackKind) : Prop := placed ∧ ∃ x ∈ table, x.kind = kind ∧ (x.low : Int) ≤ high ∧
      low ≤ (x.low : Int) + x.length - 1
    let stored := placed ∧ ∀ q : Int, low ≤ q → q ≤ high → ∃ x ∈ table, (x.low : Int) ≤ q ∧ q ≤ (x.low : Int) + x.length - 1
    let all := ¬ stored ∨ under .rackEntry ∨ (under .rack ↔ under .adhesion)
    let inUse (ch : LoopChannel) : Prop := (o.channels.get ch).valid = true ∧
      (all ∨ (under .rack ∧ (ch = .cogA ∨ ch = .cogB)) ∨ (under .adhesion ∧ (ch = .wheelA ∨ ch = .wheelB)))
    let speed (ch : LoopChannel) : Nat :=
      if (o.channels.get ch).valid then (o.channels.get ch).window.sum * params.pitch.get ch / 2500 else 0
    ∃ (t : State) (used : List LoopChannel) (advance : Nat), exec .odometryUpdate s = .next t ∧ t.pending = s.pending ∧
      (∀ ch, ch ∈ used ↔ inUse ch) ∧ used.Nodup ∧
      advance = (used.map fun ch => (o.channels.get ch).acc / 10000).sum / used.length ∧
      (let u := t.car.odo
      (∀ ch, u.channels.get ch = { u.channels.get ch with
        valid := (o.channels.get ch).valid
        acc := (o.channels.get ch).acc % 10000
        window := if (o.channels.get ch).valid then (o.channels.get ch).window.drop 1 ++ [0] else (o.channels.get ch).window
        firstPulse := (o.channels.get ch).firstPulse
        speed := speed ch
        lastPulse := (o.channels.get ch).lastPulse }) ∧
      (∀ ch, inUse ch → min 1500 (speed ch) ≤ u.fused) ∧ (u.fused = 0 ∨ ∃ ch, inUse ch ∧ u.fused = min 1500 (speed ch)) ∧
      (let names (ch : LoopChannel) (up : Bool) : Prop :=
        ∃ w, (s.car.tlf.get ch).latest = some w ∧ (w.direction != params.reversed.get ch) = up
      (used ≠ [] → (∀ ch ∈ used, names ch true) → u.measured = some .up) ∧
      (used ≠ [] → (∀ ch ∈ used, names ch false) → u.measured = some .down) ∧
      (used = [] ∨ (¬ ∀ ch ∈ used, names ch true) ∧ (¬ ∀ ch ∈ used, names ch false) → u.measured = o.measured)) ∧
      (o.position.state = .unknown → u.position = o.position) ∧
      (o.position.state ≠ .unknown →
        let p := o.position
        let travel := min 4294967295 (p.travel + advance)
        let fixUnc := if u.measured = none then min 1999999 (p.fixUnc + advance) else p.fixUnc
        let unc := min 1999999 (fixUnc + (travel * params.drift + 999) / 1000)
        let moved : Int := match u.measured with
          | some .up => (p.pos : Int) + advance
          | some .down => (p.pos : Int) - advance
          | none => p.pos
        let lost := p.state = .known ∧ (moved < 0 ∨ 1999999 < moved ∨ params.uMax < unc)
        u.position.travel = travel ∧ u.position.fixUnc = fixUnc ∧ u.position.unc = unc ∧
        (u.position.pos : Int) = max 0 (min 1999999 moved) ∧ u.position.conflicts = p.conflicts ∧
        u.position.lastFix = p.lastFix ∧ (lost → u.position.state = .lost) ∧ (¬ lost → u.position.state = p.state) ∧
        (lost → (t.car.evr.source 8).pending = true ∨ s.car.evr.sources.length ≤ 8)) ∧
      (let heard (ch : LoopChannel) : Prop :=
        (o.channels.get ch).valid = true ∨ ∀ other, (o.channels.get other).valid = false
      let quiet (ch : LoopChannel) : Nat := match (o.channels.get ch).lastPulse with
        | some x => since s.car.now x
        | none => s.car.now
      let begins := o.standstill = false ∧ u.fused = 0 ∧ ∀ ch, heard ch → 100 ≤ quiet ch
      let dist0 := match s.car.lif.demand.direction with
        | .neutral => advance
        | .up => if u.measured = some .up then 0 else advance
        | .down => if u.measured = some .down then 0 else advance
      (begins → u.standstill = true ∧ t.car.brk.standstillSince = some s.car.now ∧ u.rollbackDist = dist0 ∧
        (u.rollback = true ↔ 50 ≤ dist0)) ∧
      (¬ begins → u.standstill = o.standstill ∧ t.car.brk.standstillSince = s.car.brk.standstillSince ∧
        u.rollbackDist = o.rollbackDist + dist0 ∧ (u.rollback = true ↔ o.rollback = true ∨ 50 ≤ o.rollbackDist + dist0))) ∧
      (o.rollback = false → u.rollback = true → t.car.brk.causes.rollback.map CauseRecord.present = some true ∧
        ((t.car.evr.source 13).pending = true ∨ s.car.evr.sources.length ≤ 13)) ∧
      (¬ under .rack → ∀ ch, ch = .cogA ∨ ch = .cogB →
        (u.channels.get ch).mesh = [] ∧ (u.channels.get ch).shallow = false ∧ (u.channels.get ch).loss = false) ∧
      (under .rack → ∀ ch, (u.channels.get ch).mesh = (o.channels.get ch).mesh ∧
        (u.channels.get ch).shallow = (o.channels.get ch).shallow) ∧
      (u.degraded = true ↔ used.length = 1) ∧ (u.lost = true ↔ used = []) ∧
      (o.lost = false → used = [] → t.car.brk.causes.odometryLost.map CauseRecord.present = some true) ∧
      u.travelRef = o.travelRef ∧ u.markerErrors = o.markerErrors ∧ u.updateTimer = some 0) ∧
      t.car.brk.watch = some 0 ∧ t.car.ssv.waiting = ⟨true, true⟩ ∧ t.car.ssv.running = s.car.ssv.running ∧
      t.car.ssv.record.p = s.car.ssv.record.p ∧
      t.car.pst = { s.car.pst with
        coverage := coverageOf s.car.pst.readable t.car.odo.position params.carLength o.travelRef } ∧
      t.car.lif = s.car.lif ∧ t.car.tlf = s.car.tlf ∧ t.car.dor.leaves = s.car.dor.leaves ∧
      t.car.brk.faultStop = s.car.brk.faultStop ∧ t.car.brk.copy = s.car.brk.copy ∧
      (∀ cause, cause ≠ .rollback → cause ≠ .odometryLost → cause ≠ .meshLoss → cause ≠ .overspeed → cause ≠ .door →
        t.car.brk.causes.get cause = s.car.brk.causes.get cause)

/-- O51. Fixes. POSITION SET: RANGE above 1,999,999, NOT_STANDSTILL unless the car stands, and otherwise the position KNOWN at
the value carried. MARKER_READ: a failed check or an id outside 1 to 4,095 counts as a marker error; a marker not stored makes
MARKER_UNKNOWN occur; one outside the window of a KNOWN position is a conflict, and the second in a row makes the position LOST;
any other is a fix at its place with the marker tolerance. A fix discards the whole centimetres of every accumulator and causes
an evaluation. What the model chose and this rests on: notes/assumptions/55.md. -/
def Obligations.FixesSetThePosition : Prop :=
  ∀ (via : Via) (position id : Nat) (ok : Bool) (s : State), Ready s → Intact s.car →
    let o := s.car.odo
    let p := o.position
    let params := s.car.lif.params
    let moved (t : State) (record : PositionRecord) : Prop :=
      t.pending = s.pending ∧
      t.car.odo = { o with
        position := record
        channels := o.channels.map fun r => { r with acc := r.acc % 10000 } } ∧
      t.car.pst = { s.car.pst with coverage := coverageOf s.car.pst.readable record params.carLength o.travelRef } ∧
      t.car.ssv = { s.car.ssv with waiting := ⟨true, s.car.ssv.waiting.update⟩ } ∧
      t.car.tlf = s.car.tlf ∧ t.car.brk = s.car.brk ∧ t.car.dor = s.car.dor ∧ t.car.lif.params = params ∧
      t.car.lif.demand = s.car.lif.demand ∧ t.car.lif.carNumber = s.car.lif.carNumber
    (Reaches via (.positionSet position) s.car →
      (1999999 < position → exec (.positionSet via position) s = .next ⟨replied via 3 .range [.none] s.car, s.pending⟩) ∧
      (position ≤ 1999999 → o.standstill = false →
        exec (.positionSet via position) s = .next ⟨replied via 3 .notStandstill [.none] s.car, s.pending⟩) ∧
      (position ≤ 1999999 → o.standstill = true → ∃ t, exec (.positionSet via position) s = .next t ∧
        moved t ⟨.known, position, params.setUnc, params.setUnc, 0, 0, some (.set s.car.now)⟩ ∧
        t.car.evr = s.car.evr ∧ t.car.lif.frames = s.car.lif.frames ++ answerFrames via 3 .accepted [.none])) ∧
    (ok = false ∨ id < 1 ∨ 4095 < id → exec (.markerRead id ok) s =
      .next ⟨{ s.car with odo := { o with markerErrors := min 65535 (o.markerErrors + 1) } }, s.pending⟩) ∧
    (ok = true → 1 ≤ id → id ≤ 4095 →
      (∀ g ∈ s.car.pst.table, g.checkFailed = false → ∀ m ∈ g.markers, m.id ≠ id) →
      exec (.markerRead id ok) s = .next ⟨occur .markerUnknown id s.car, s.pending⟩) ∧
    (∀ (g : Segment) (m : MarkerField), ok = true → 1 ≤ id → id ≤ 4095 → g ∈ s.car.pst.table → g.checkFailed = false →
      m ∈ g.markers → m.id = id →
      (∀ g' ∈ s.car.pst.table, g'.checkFailed = false → ∀ m' ∈ g'.markers, m'.id = id → g'.low + m'.offset = g.low + m.offset) →
      let mp := g.low + m.offset
      let off := ((mp : Int) - p.pos).natAbs
      (p.state = .known → p.unc + params.markerTol < off → p.conflicts = 0 →
        exec (.markerRead id ok) s = .next ⟨{ occur .markerConflict id s.car with
          odo := { o with position := { p with conflicts := 1 } } }, s.pending⟩) ∧
      (p.state = .known → p.unc + params.markerTol < off → p.conflicts ≠ 0 →
        ∃ t, exec (.markerRead id ok) s = .next t ∧ t.pending = s.pending ∧
          t.car.odo = { o with position := { p with conflicts := 0, state := .lost } } ∧
          t.car.pst = { s.car.pst with coverage := none } ∧ t.car.ssv.waiting.cause = true ∧
          t.car.evr = (s.car.evr.take s.car.now .markerConflict id).take s.car.now .positionLost 3 ∧
          t.car.tlf = s.car.tlf ∧ t.car.brk = s.car.brk ∧ t.car.dor = s.car.dor ∧ t.car.lif = s.car.lif) ∧
      (p.state ≠ .known ∨ off ≤ p.unc + params.markerTol →
        ∃ t, exec (.markerRead id ok) s = .next t ∧ t.car.lif = s.car.lif ∧ t.car.evr = s.car.evr ∧
          moved t ⟨.known, mp, params.markerTol, params.markerTol, 0, 0, some (.marker s.car.now id)⟩))

/-- O52. The shadow test, made at an odometry update, at a POSITION SET taken and at a marker that is a fix or loses the
position: in the radio car it is true exactly when a shadow segment overlaps the extent of a position that is not UNKNOWN; found
true it takes a LINKED link to SHADOW, stops the supervision timer and starts the shadow timer from 0; found false it takes a
SHADOW link to LINKED, stops the shadow timer and starts the supervision timer from 0, each with its parameter as limit;
otherwise the link state and both timers stay. A follower makes no test. What the model chose and this rests on:
notes/assumptions/6.md, notes/assumptions/29.md. -/
def Obligations.ShadowIsTested : Prop :=
  ∀ (i : Instr) (via : Via) (position id : Nat) (s : State), Ready s → Intact s.car →
    let p := s.car.odo.position
    let params := s.car.lif.params
    i = .odometryUpdate ∨
      (i = .positionSet via position ∧ Reaches via (.positionSet position) s.car ∧ position ≤ 1999999 ∧
        s.car.odo.standstill = true) ∨
      (i = .markerRead id true ∧ 1 ≤ id ∧ id ≤ 4095 ∧ ∃ mp g, findMarker s.car.pst.readable id = some (mp, g) ∧
        (p.state ≠ .known ∨ ((mp : Int) - p.pos).natAbs ≤ p.unc + params.markerTol ∨ p.conflicts ≠ 0)) →
    ∃ t, exec i s = .next t ∧ t.pending = s.pending ∧
      (let v := s.car.vrl
      let r := t.car.vrl
      let q := t.car.odo.position
      let half : Int := (params.carLength / 2 : Nat)
      let stands := q.state ≠ .unknown ∧ ∃ x ∈ s.car.pst.table, x.checkFailed = false ∧ x.shadow = true ∧
        (x.low : Int) ≤ (q.pos : Int) + q.unc + half ∧ (q.pos : Int) - q.unc - half ≤ (x.low : Int) + x.length - 1
      (v.role = .follower → r = v) ∧
      (v.role = .radio →
        (r.shadowStands = true ↔ stands) ∧
        (v.link = .linked → stands →
          r.link = .shadow ∧ r.supervision = none ∧ r.shadow = some ⟨0, params.tShadowMax⟩) ∧
        (v.link = .shadow → ¬ stands →
          r.link = .linked ∧ r.supervision = some ⟨0, params.tRs⟩ ∧ r.shadow = none) ∧
        (¬ (v.link = .linked ∧ stands) → ¬ (v.link = .shadow ∧ ¬ stands) →
          r.link = v.link ∧ r.supervision = v.supervision ∧ r.shadow = v.shadow) ∧
        r.role = .radio ∧ r.station = v.station ∧ r.stopNumber = v.stopNumber ∧ r.recent = v.recent ∧
        r.statusTimer = v.statusTimer ∧ r.reportTimer = v.reportTimer ∧ r.invalidFrames = v.invalidFrames))

/-! ## The profile store -/

/-- O53. Segment arrival by SEGMENT LOAD: RANGE, DUP_MARKER, OVERLAP and STORE_FULL in the order of the validation; otherwise
the record replaces the one of its id or is added in increasing order of low, evicting from a full table the unpinned record
furthest behind a KNOWN position, with its pinned flag by the pin windows and the limit of 48 and its check word computed.
SEGMENT REMOVE and PIN WINDOW SET with their refusals. An arrival or a removal recomputes the coverage and discards an
evaluation that runs. The coverage is empty unless the position is KNOWN, a direction has been seen and a record holds rear_min;
it starts with that record, runs through each record that abuts the last one ahead, and ends at the far edge of the last. The
check word is the CRC over the record's fields as bytes, bit by bit, most significant first, from a register of ones. -/
def Obligations.StoreTakesSegments : Prop :=
  (∀ (t : List Segment) (p : PositionRecord) (carLength : Nat) (dir : Sense),
    coverageOf t p carLength none = none ∧
    (p.state ≠ .known → coverageOf t p carLength (some dir) = none) ∧
    (p.state = .known → (t.Pairwise fun a b => a.low + a.length ≤ b.low) → (∀ x ∈ t, 0 < x.length) →
      let rear : Int := match dir with
        | .up => (p.pos : Int) - p.unc - (carLength / 2 : Nat)
        | .down => (p.pos : Int) + p.unc + (carLength / 2 : Nat)
      let holds (x : Segment) := (x.low : Int) ≤ rear ∧ rear ≤ (x.low : Int) + x.length - 1
      let abuts (next last : Segment) := match dir with
        | .up => next.low = last.low + last.length
        | .down => next.low + next.length = last.low
      ((∀ x ∈ t, ¬ holds x) → coverageOf t p carLength (some dir) = none) ∧
      (∀ first ∈ t, holds first → ∃ (run : List Segment) (last : Segment), (∀ x ∈ run, x ∈ t) ∧ run.head? = some first ∧
        run.getLast? = some last ∧ (∀ n x y, run[n]? = some x → run[n + 1]? = some y → abuts y x) ∧ (∀ x ∈ t, ¬ abuts x last) ∧
        coverageOf t p carLength (some dir) = some (match dir with
          | .up => last.low + last.length
          | .down => last.low)))) ∧
  (∀ l : List Byte, crc l = BitVec.ofNat 16 ((l.flatMap fun b => (List.range 8).map fun k => b.toNat.testBit (7 - k)).foldl
    (fun r bit => if r.testBit 15 != bit then (2 * r % 65536) ^^^ 0x1021 else 2 * r % 65536) 65535)) ∧
  (∀ x : Segment, -480 ≤ x.gradient → x.gradient ≤ 480 →
    let bytes (k n : Nat) : List Nat := (List.range k).map fun i => n / 256 ^ (k - 1 - i) % 256
    let flag (b : Bool) : Nat := if b = true then 1 else 0
    x.bytes.map BitVec.toNat = bytes 2 x.id ++ bytes 4 x.low ++ bytes 4 x.length ++
      [match x.kind with
        | .rack => 0
        | .adhesion => 1
        | .rackEntry => 2] ++
      bytes 2 (if 0 ≤ x.gradient then x.gradient.toNat else (65536 + x.gradient).toNat) ++
      [x.upLimit % 256, x.downLimit % 256, flag x.shadow] ++
      (match x.platform with
        | none => [0]
        | some q => [1, match q.side with
            | .left => 0
            | .right => 1
            | .both => 2] ++ bytes 4 q.low ++ bytes 4 q.high) ++
      [x.markers.length % 256] ++ (x.markers.flatMap fun m => bytes 2 m.id ++ bytes 4 m.offset) ++ [flag x.pinned]) ∧
  ∀ (via : Via) (b : SegmentBody) (id window value mask : Nat) (valid : Bool) (s : State), Ready s → Intact s.car →
    let p := s.car.odo.position
    let params := s.car.lif.params
    let half : Int := (params.carLength / 2 : Nat)
    let refused (i : Instr) (kind : Nat) (result : Result) := exec i s = .next ⟨replied via kind result [.none] s.car, s.pending⟩
    let fits := b.id ≤ 1023 ∧ b.low ≤ 1999999 ∧ 100 ≤ b.length ∧ b.length ≤ 200000 ∧ b.low + b.length ≤ 2000000 ∧
      b.kindByte < 32 ∧ b.kindByte % 4 ≠ 3 ∧ -480 ≤ b.gradient ∧ b.gradient ≤ 480 ∧ b.upLimit ≤ 40 ∧ b.downLimit ≤ 40 ∧
      (b.kindByte / 8 % 4 ≠ 0 → b.platformLow ≤ b.platformHigh ∧ b.platformHigh < b.length) ∧ b.markers.length ≤ 4 ∧
      (∀ m ∈ b.markers, 1 ≤ m.id ∧ m.id ≤ 4095 ∧ m.offset < b.length) ∧ (b.markers.map MarkerField.offset).Nodup
    let others := s.car.pst.table.filter fun x => !(x.id == b.id)
    let overlaps := ∃ x ∈ others, x.low < b.low + b.length ∧ b.low < x.low + x.length
    let dup := ∃ x ∈ others, ∃ m ∈ x.markers, ∃ n ∈ b.markers, n.id = m.id
    let behind (x : Segment) : Option Int := match p.state, s.car.odo.travelRef with
      | .known, some .up => some ((p.pos : Int) - p.unc - half - (x.low + x.length - 1))
      | .known, some .down => some (x.low - ((p.pos : Int) + p.unc + half))
      | _, _ => none
    let candidate (x : Segment) := x ∈ others ∧ x.pinned = false ∧ ∃ d, behind x = some d ∧ (params.uMax + 1000 : Nat) < d
    let hits := s.car.pst.windows.any fun w => w.valid && (b.id &&& w.mask == w.value &&& w.mask)
    let taken (kept : List Segment) :=
      let room := (kept.filter Segment.pinned).length < 48
      ∃ (t : State) (x : Segment), exec (.segmentLoad via b) s = .next t ∧ t.pending = s.pending ∧
      (∀ y, y ∈ t.car.pst.table ↔ y = x ∨ y ∈ kept) ∧ t.car.pst.table.length = kept.length + 1 ∧
      ((s.car.pst.table.Pairwise fun a b => a.low ≤ b.low) → t.car.pst.table.Pairwise fun a b => a.low ≤ b.low) ∧
      x.id = b.id ∧ x.low = b.low ∧ x.length = b.length ∧ x.gradient = b.gradient ∧ x.upLimit = b.upLimit ∧
      x.downLimit = b.downLimit ∧ x.markers = b.markers ∧ x.shadow = b.kindByte.testBit 2 ∧
      x.kind = (match b.kindByte % 4 with
        | 0 => .rack
        | 1 => .adhesion
        | _ => .rackEntry) ∧
      x.platform = (match b.kindByte / 8 % 4 with
        | 0 => none
        | 1 => some ⟨.left, b.low + b.platformLow, b.low + b.platformHigh⟩
        | 2 => some ⟨.right, b.low + b.platformLow, b.low + b.platformHigh⟩
        | _ => some ⟨.both, b.low + b.platformLow, b.low + b.platformHigh⟩) ∧
      (x.pinned = true ↔ hits = true ∧ room) ∧ x.check = crc x.bytes ∧ x.checkFailed = false ∧
      t.car.pst.windows = s.car.pst.windows ∧
      t.car.pst.coverage = coverageOf t.car.pst.readable p params.carLength s.car.odo.travelRef ∧
      t.car.ssv.running = none ∧ t.car.ssv.waiting.cause = true ∧ t.car.ssv.record = s.car.ssv.record ∧
      t.car.lif = s.car.lif.answered s.car.vrl.link via 20 .accepted [.none] ∧
      t.car.evr = (if hits = true ∧ ¬ room then s.car.evr.take s.car.now .pinFull b.id else s.car.evr) ∧
      t.car.odo = s.car.odo ∧ t.car.tlf = s.car.tlf ∧ t.car.brk = s.car.brk ∧ t.car.dor = s.car.dor
    (Reaches via (.segmentLoad b) s.car →
      (¬ fits → refused (.segmentLoad via b) 20 .range) ∧
      (fits → ¬ (b.markers.map MarkerField.id).Nodup → refused (.segmentLoad via b) 20 .dupMarker) ∧
      (fits → (b.markers.map MarkerField.id).Nodup → overlaps → refused (.segmentLoad via b) 20 .overlap) ∧
      (fits → (b.markers.map MarkerField.id).Nodup → ¬ overlaps → dup → refused (.segmentLoad via b) 20 .dupMarker) ∧
      (fits → (b.markers.map MarkerField.id).Nodup → ¬ overlaps → ¬ dup →
        (others.length < 64 → taken others) ∧
        (64 ≤ others.length → (¬ ∃ x, candidate x) → exec (.segmentLoad via b) s =
          .next ⟨replied via 20 .storeFull [.none] (occur .storeFull b.id s.car), s.pending⟩) ∧
        (64 ≤ others.length → (∃ x, candidate x) → ∃ old, candidate old ∧
          (∀ x d e, candidate x → behind x = some d → behind old = some e → d ≤ e) ∧
          taken (others.filter fun y => !(y.id == old.id))))) ∧
    (Reaches via (.segmentRemove id) s.car →
      (1023 < id → refused (.segmentRemove via id) 21 .range) ∧
      (id ≤ 1023 → (∀ x ∈ s.car.pst.table, x.id ≠ id) → refused (.segmentRemove via id) 21 .notFound) ∧
      (∀ x, id ≤ 1023 → (s.car.pst.table.find? fun y => y.id == id) = some x →
        let stands := p.state = .known ∧ (x.low : Int) ≤ p.pos + p.unc + half ∧
          (p.pos : Int) - p.unc - half ≤ (x.low : Int) + x.length - 1
        (stands → refused (.segmentRemove via id) 21 .inUse) ∧
        (¬ stands → ∃ table : List Segment, table = (s.car.pst.table.filter fun y => !(y.id == id)) ∧
          exec (.segmentRemove via id) s = .next ⟨replied via 21 .accepted [.none] { s.car with
            pst := { s.car.pst with
              table := table
              coverage := coverageOf (table.filter fun y => !y.checkFailed) p params.carLength s.car.odo.travelRef }
            ssv := { s.car.ssv with
              running := none
              waiting := ⟨true, s.car.ssv.waiting.update || s.car.ssv.running.any EvalCopy.byUpdate⟩ } }, s.pending⟩))) ∧
    (Reaches via (.pinWindowSet window valid value mask) s.car →
      let i := Instr.pinWindowSet via window valid value mask
      let ws := s.car.pst.windows.set (window - 1) ⟨valid, value, mask⟩
      let matching (n : Nat) : Bool := ws.any fun w => w.valid && (n &&& w.mask == w.value &&& w.mask)
      let pinnedAs (x : Segment) : Segment := { x with pinned := matching x.id }
      (window < 1 ∨ 4 < window ∨ 1023 < value ∨ 1023 < mask → refused i 22 .range) ∧
      (1 ≤ window → window ≤ 4 → value ≤ 1023 → mask ≤ 1023 →
        (48 < (s.car.pst.table.filter fun x => matching x.id).length → refused i 22 .pinLimit) ∧
        ((s.car.pst.table.filter fun x => matching x.id).length ≤ 48 →
          exec i s = .next ⟨replied via 22 .accepted [.none] { s.car with pst := { s.car.pst with
            windows := ws
            table := s.car.pst.table.map fun x => if x.pinned = matching x.id then x
              else { pinnedAs x with check := crc (pinnedAs x).bytes, checkFailed := false } } }, s.pending⟩)))

/-- O54. A check word that a read finds wrong. Each failing record has its check-failed flag set and is reported once: fault
stop is entered with cause PROFILE_CHECK, or, for every further failure and under fault stop, a later cause is counted; the
record's other fields and the rest of the table stay, and no failing record is left to be reported again. A SEGMENT LOAD of a
valid body, a SEGMENT REMOVE or a PIN WINDOW SET that finds one is abandoned and answered FAULT_STOP; a marker read, and an
odometry update at a position that is not UNKNOWN, go on. What the model chose and this rests on: notes/assumptions/6.md,
notes/assumptions/20.md. -/
def Obligations.CheckFailuresStopTheCar : Prop :=
  ∀ (i : Instr) (via : Via) (b : SegmentBody) (id window value mask : Nat) (valid : Bool) (s : State), Ready s →
    let failing := s.car.pst.table.filter Segment.mismatch
    let load := i = .segmentLoad via b ∧ Reaches via (.segmentLoad b) s.car ∧ bodySegment b ≠ none ∧
      (b.markers.map MarkerField.id).Nodup
    let remove := i = .segmentRemove via id ∧ Reaches via (.segmentRemove id) s.car ∧ id ≤ 1023
    let repin := i = .pinWindowSet via window valid value mask ∧ Reaches via (.pinWindowSet window valid value mask) s.car ∧
      1 ≤ window ∧ window ≤ 4 ∧ value ≤ 1023 ∧ mask ≤ 1023
    let marker := i = .markerRead id true ∧ 1 ≤ id ∧ id ≤ 4095
    let update := i = .odometryUpdate ∧ s.car.odo.position.state ≠ .unknown
    failing ≠ [] → load ∨ remove ∨ repin ∨ marker ∨ update →
    ∃ t, exec i s = .next t ∧ t.pending = s.pending ∧
      t.car.pst.table = (s.car.pst.table.map fun x => if x.mismatch then { x with checkFailed := true } else x) ∧
      t.car.pst.windows = s.car.pst.windows ∧ Intact t.car ∧ t.car.brk.faultStop = true ∧
      (∀ ch, (t.car.brk.channels.get ch).command = .apply ∧ (t.car.brk.channels.get ch).holder = .faultStop) ∧
      (s.car.brk.faultStop = false → ∃ f, t.car.brk.faultRecord = some f ∧ f.cause = .profileCheck ∧ f.stamp = s.car.now ∧
        f.laterCount = min 255 (failing.length - 1) ∧ f.laterMask = if failing.length = 1 then 0 else 1) ∧
      (∀ f, s.car.brk.faultStop = true → s.car.brk.faultRecord = some f → t.car.brk.faultRecord = some { f with
        laterCount := min 255 (f.laterCount + failing.length), laterMask := f.laterMask ||| 1 }) ∧
      ((t.car.evr.source 0).pending = true ∨ s.car.evr.sources.length = 0) ∧
      t.car.ssv.running = s.car.ssv.running ∧ t.car.lif.params = s.car.lif.params ∧ t.car.tlf = s.car.tlf ∧
      (load → ∃ l, t.car.lif.frames = l ++ answerFrames via 20 .faultStop [.none]) ∧
      (remove → ∃ l, t.car.lif.frames = l ++ answerFrames via 21 .faultStop [.none]) ∧
      (repin → ∃ l, t.car.lif.frames = l ++ answerFrames via 22 .faultStop [.none]) ∧
      (load ∨ remove ∨ repin → t.car.pst.coverage = s.car.pst.coverage ∧ t.car.odo = s.car.odo)

/-! ## Restrictions and supervision -/

/-- O55. RESTRICTION ADD: RANGE for a field out of range; otherwise the request replaces the entry of its id or takes a place
among the 16, with its speed clamped to 40 and any overflow entry of its id removed; with the list full it is LIST_FULL and
leaves its mark in the overflow list, which is capped at four entries by the saturated flag. RESTRICTION CANCEL removes an id
from both lists, or is NOT_FOUND. A change is a cause of evaluation, and RESTRICTION_OVERFLOW starts and ends with the overflow
list. What the model chose and this rests on: notes/assumptions/40.md. -/
def Obligations.RestrictionsAreListed : Prop :=
  ∀ (via : Via) (id low high speed appliesTo : Nat) (s : State), Ready s →
    let q := s.car.ssv
    let kmh := min 40 speed
    let left := q.overflow.filter fun e => !(e.id == id)
    let saturatedAfter := q.saturated && !left.isEmpty
    let ended (t : State) : Prop := t.car.evr =
      if q.overflow ≠ [] ∧ left = [] then s.car.evr.modify 24 (fun r => { r with pending := false }) else s.car.evr
    let framed (t : State) (kind : Nat) (result : Result) : Prop := t.pending = s.pending ∧
      t.car.lif = s.car.lif.answered s.car.vrl.link via kind result [.none] ∧ t.car.odo = s.car.odo ∧ t.car.tlf = s.car.tlf ∧
      t.car.pst = s.car.pst ∧ t.car.brk = s.car.brk ∧ t.car.dor = s.car.dor ∧
      t.car.ssv.record = q.record ∧ t.car.ssv.running = q.running ∧ t.car.ssv.waiting.update = q.waiting.update
    (Reaches via (.restrictionAdd id low high speed appliesTo) s.car →
      let i := Instr.restrictionAdd via id low high speed appliesTo
      let inRange := 1 ≤ id ∧ id ≤ 255 ∧ low ≤ 1999999 ∧ high ≤ 1999999 ∧ low ≤ high
      (¬ inRange ∨ AppliesTo.ofCode appliesTo = none → exec i s = .next ⟨replied via 24 .range [.none] s.car, s.pending⟩) ∧
      (∀ a, inRange → AppliesTo.ofCode appliesTo = some a →
        ((∃ r ∈ q.restrictions, r.id = id) ∨ q.restrictions.length < 16 → ∃ t, exec i s = .next t ∧
          framed t 24 (if speed ≤ 40 then .accepted else .acceptedClamped) ∧ ended t ∧ t.car.vrl = s.car.vrl ∧
          (∀ r, r ∈ t.car.ssv.restrictions ↔ r = ⟨id, low, high, kmh, a, .cab⟩ ∨ (r ∈ q.restrictions ∧ r.id ≠ id)) ∧
          t.car.ssv.overflow = left ∧ t.car.ssv.saturated = saturatedAfter ∧ t.car.ssv.waiting.cause = true) ∧
        ((∀ r ∈ q.restrictions, r.id ≠ id) → 16 ≤ q.restrictions.length → ∃ t, exec i s = .next t ∧
          framed t 24 .listFull ∧ t.car.ssv.restrictions = q.restrictions ∧
          ((∃ e ∈ q.overflow, e.id = id) → t.car.ssv.saturated = q.saturated ∧ t.car.ssv.overflow =
            q.overflow.map fun e => if e.id = id then ⟨e.id, min e.speed kmh⟩ else e) ∧
          ((∀ e ∈ q.overflow, e.id ≠ id) → q.overflow.length < 4 →
            t.car.ssv.overflow = q.overflow ++ [⟨id, kmh⟩] ∧ t.car.ssv.saturated = q.saturated) ∧
          ((∀ e ∈ q.overflow, e.id ≠ id) → 4 ≤ q.overflow.length →
            t.car.ssv.overflow = q.overflow ∧ t.car.ssv.saturated = true) ∧
          (t.car.ssv.overflow ≠ q.overflow ∨ t.car.ssv.saturated ≠ q.saturated → t.car.ssv.waiting.cause = true) ∧
          (t.car.ssv.overflow = q.overflow → t.car.ssv.saturated = q.saturated → t.car.ssv.waiting = q.waiting) ∧
          t.car.evr = (if q.overflow = [] then s.car.evr.take s.car.now .restrictionOverflow id else s.car.evr)))) ∧
    (Reaches via (.restrictionCancel id) s.car →
      (id < 1 ∨ 255 < id → exec (.restrictionCancel via id) s = .next ⟨replied via 25 .range [.none] s.car, s.pending⟩) ∧
      (1 ≤ id → id ≤ 255 → (∀ r ∈ q.restrictions, r.id ≠ id) → (∀ e ∈ q.overflow, e.id ≠ id) →
        exec (.restrictionCancel via id) s = .next ⟨replied via 25 .notFound [.none] s.car, s.pending⟩) ∧
      (1 ≤ id → id ≤ 255 → (∃ r ∈ q.restrictions, r.id = id) ∨ (∃ e ∈ q.overflow, e.id = id) →
        ∃ t, exec (.restrictionCancel via id) s = .next t ∧ framed t 25 .accepted ∧ ended t ∧ t.car.vrl = s.car.vrl ∧
          t.car.ssv.restrictions = (q.restrictions.filter fun r => !(r.id == id)) ∧ t.car.ssv.overflow = left ∧
          t.car.ssv.saturated = saturatedAfter ∧ t.car.ssv.waiting.cause = true))

/-- O56. An evaluation: it starts on a fixed copy of its inputs when a cause waits and none runs; at its end the two lanes agree
whatever the copy and the store, P is recorded with W, I and E above it and keeps the law of the permitted speed, and the
comparisons follow when an update caused it. At a LOST position P is a limit over the car or a cap, and the limiting source a
limit that gives it, or else the first cap of the table that does. A lane B that a failure of integrity has changed is a
CROSSCHECK: fault stop, with the record as it was. What the model chose and this rests on: notes/assumptions/8.md,
notes/assumptions/25.md, notes/assumptions/30.md, notes/assumptions/34.md. -/
def Obligations.EvaluationsBoundTheSpeed : Prop :=
  (∀ (e : EvalCopy) (table : List Segment), (assess e table).p = laneB e table) ∧
  (∀ s : State, Ready s →
    (s.car.ssv.waiting.cause = false ∨ s.car.ssv.running ≠ none → exec .evaluationStart s = .next s) ∧
    (s.car.ssv.waiting.cause = true → s.car.ssv.running = none → exec .evaluationStart s = .next ⟨{ s.car with
      ssv := { s.car.ssv with
        waiting := ⟨false, false⟩
        running := some {
          v := s.car.odo.fused
          direction := s.car.lif.demand.direction
          load := s.car.lif.demand.load
          position := s.car.odo.position
          available := s.car.brk.available
          radioLost := s.car.vrl.link == .lost
          meshShallow := s.car.odo.meshShallow
          degraded := s.car.odo.degraded
          restrictions := s.car.ssv.restrictions
          overflow := s.car.ssv.overflow
          saturated := s.car.ssv.saturated
          coverage := s.car.pst.coverage
          params := s.car.lif.params
          byUpdate := s.car.ssv.waiting.update } } }, s.pending⟩) ∧
    (∀ upset, s.car.ssv.running = none → exec (.evaluationEnd upset) s = .next s)) ∧
  (∀ (e : EvalCopy) (s : State), Ready s → Intact s.car → s.car.ssv.running = some e →
    let low : Int := (e.position.pos : Int) - e.position.unc - (e.params.carLength / 2 : Nat)
    let high : Int := (e.position.pos : Int) + e.position.unc + (e.params.carLength / 2 : Nat)
    let before := s.car.ssv.record
    ∃ t, exec (.evaluationEnd none) s = .next t ∧ t.pending = s.pending ∧
      (let r := t.car.ssv.record
      r.w = r.p + e.params.marginW ∧ r.i = r.p + e.params.marginI ∧ r.e = r.p + e.params.marginE ∧
      (e.direction = .neutral → r.p = 0 ∧ r.source = .neutral) ∧
      (e.direction ≠ .neutral → e.position.state = .unknown → r.p = 0 ∧ r.source = .unknown) ∧
      (e.direction ≠ .neutral → e.position.state ≠ .unknown → e.available = 0 → r.p = 0 ∧ r.source = .noChannel) ∧
      (e.direction = .neutral ∨ e.position.state = .unknown ∨ e.available = 0 →
        r.targets = 0 ∧ r.capabilityShort = false ∧ r.coverageShort = false) ∧
      (e.direction ≠ .neutral → e.position.state = .known → e.available ≠ 0 →
        covered s.car.pst.readable low high = false → r.p = 0 ∧ r.source = .uncovered ∧ r.coverageShort = true) ∧
      (∀ d, e.direction.sense = some d →
        (∀ x ∈ s.car.pst.readable, (x.low : Int) ≤ high → low ≤ (x.low : Int) + x.length - 1 →
          r.p ≤ cms (match d with | .up => x.upLimit | .down => x.downLimit)) ∧
        (∀ x ∈ e.restrictions, (x.appliesTo = .both ∨ (x.appliesTo = .up ∧ d = .up) ∨ (x.appliesTo = .down ∧ d = .down)) →
          (x.low : Int) ≤ high → low ≤ x.high → r.p ≤ cms x.speed)) ∧
      (e.radioLost = true → r.p ≤ cms e.params.radioCap) ∧ (e.meshShallow = true → r.p ≤ cms e.params.meshCap) ∧
      (e.degraded = true → r.p ≤ cms e.params.degradedCap) ∧ (e.position.state = .lost → r.p ≤ cms e.params.lostCap) ∧
      (e.saturated = true → e.overflow ≠ [] → r.p = 0) ∧ (∀ x ∈ e.overflow, r.p ≤ cms x.speed) ∧
      (e.position.state ≠ .lost → r.p ≤ 1200) ∧
      (∀ d, e.direction.sense = some d → e.position.state = .lost → e.available ≠ 0 →
        let limits (source : LimitingSource) : Prop :=
          (∃ x ∈ s.car.pst.readable, (x.low : Int) ≤ high ∧ low ≤ (x.low : Int) + x.length - 1 ∧
            r.p = cms (match d with | .up => x.upLimit | .down => x.downLimit) ∧ source = .limitSegment x.id) ∨
          (∃ x ∈ e.restrictions, (x.appliesTo = .both ∨ (x.appliesTo = .up ∧ d = .up) ∨ (x.appliesTo = .down ∧ d = .down)) ∧
            (x.low : Int) ≤ high ∧ low ≤ x.high ∧ r.p = cms x.speed ∧ source = .limitRestriction x.id)
        let caps : List (CapName × Option Nat) := [
          (.radioLoss, if e.radioLost = true then some (cms e.params.radioCap) else none),
          (.mesh, if e.meshShallow = true then some (cms e.params.meshCap) else none),
          (.degradedOdometry, if e.degraded = true then some (cms e.params.degradedCap) else none),
          (.lostPosition, some (cms e.params.lostCap)),
          (.overflow, (overflowCap e.overflow e.saturated).map cms)]
        r.targets = 0 ∧ r.capabilityShort = false ∧ r.coverageShort = false ∧
        ((∃ source, limits source) → limits r.source) ∧
        ((¬ ∃ source, limits source) → ∃ a c b, caps = a ++ c :: b ∧ c.2 = some r.p ∧ (∀ y ∈ a, y.2 ≠ some r.p) ∧
          r.source = .cap c.1)) ∧
      (∀ n, e.direction ≠ .neutral → e.position.state = .known → e.available ≠ 0 → e.coverage = some n →
        covered s.car.pst.readable low high = true →
        let ahead : Nat := ((n : Int) - (if e.direction = .up then high else low)).natAbs
        (r.coverageShort = true ↔ ahead ≤ e.params.horizon) ∧
        (ahead ≤ e.params.horizon → ahead ≤ e.v * e.params.reactionTime / 10 → r.p = 0)) ∧
      (e.byUpdate = false → r.warning = before.warning ∧ r.intervention = before.intervention ∧
        r.overspeed = before.overspeed ∧ r.hold = before.hold ∧ t.car.brk.intervention = s.car.brk.intervention) ∧
      (e.byUpdate = true →
        (r.warning = true ↔ r.w < e.v) ∧
        (r.intervention = true ↔ (before.intervention = true ∧ r.p < e.v) ∨ (before.intervention = false ∧ r.i < e.v)) ∧
        (t.car.brk.intervention = true ↔ r.intervention = true ∧
          (s.car.brk.intervention = true ∨ (before.intervention = false ∧ s.car.brk.faultStop = false))) ∧
        (r.overspeed = true ↔ before.overspeed = true ∨ r.e < e.v) ∧
        (r.hold = true ↔ r.p = 0 ∧ (before.hold = true ∨ (s.car.odo.standstill = true ∧ s.car.brk.faultStop = false))) ∧
        (before.overspeed = false → r.e < e.v →
          t.car.brk.causes.overspeed.map CauseRecord.present = some true ∧
          ∀ ch, (t.car.brk.channels.get ch).command = .apply) ∧
        (t.car.brk.intervention = true → 7 ≤ t.car.brk.svcLevel ∧ t.car.brk.tractionOk = false)) ∧
      (∀ n, n = r.p → exec (.evaluationEnd (some n)) s = .next t) ∧
      (∀ n, n ≠ r.p → ∃ u, exec (.evaluationEnd (some n)) s = .next u ∧ u.car.brk.faultStop = true ∧
        u.car.ssv.running = none ∧ u.car.ssv.record = before ∧
        (s.car.brk.faultStop = false → ∃ f, u.car.brk.faultRecord = some f ∧ f.cause = .crosscheck ∧ f.p = before.p) ∧
        (∀ f, s.car.brk.faultStop = true → s.car.brk.faultRecord = some f → u.car.brk.faultRecord = some { f with
          laterCount := min 255 (f.laterCount + 1), laterMask := f.laterMask ||| 2 }))) ∧
      t.car.ssv.running = none ∧ t.car.ssv.waiting = s.car.ssv.waiting ∧ t.car.ssv.restrictions = s.car.ssv.restrictions ∧
      t.car.lif = s.car.lif ∧ t.car.odo = s.car.odo ∧ t.car.tlf = s.car.tlf ∧ t.car.pst = s.car.pst ∧ t.car.dor = s.car.dor ∧
      t.car.brk.faultStop = s.car.brk.faultStop)

/-- O57. The targets and the braking curve of an evaluation at a KNOWN position with a covered extent. The targets are the
segments and the restrictions for the direction wholly ahead within the horizon and the coverage, and the coverage end within
the horizon, and their number is recorded. A target no further than the reaction distance has its own speed as curve speed; any
other the whole square root of that speed squared and the floored credit of every piece of its stretch, by the capability of the
piece's kind, the load class and the available channels less the downhill pull, and 1,200 from a square of 1,440,000 on. P is
the lowest of the limits over the car, the caps, the curve speeds and 1,200, its limiting source a limit over the car that gives
it, else the first cap of the table that does, else a nearest target whose curve does, else the ceiling, and CAPABILITY_SHORT
says that some piece of a stretch gives no deceleration. What the model chose and this rests on: notes/assumptions/8.md,
notes/assumptions/34.md. -/
def Obligations.CurvesAndTargets : Prop :=
  ∀ (e : EvalCopy) (dir : Sense) (n : Nat) (s : State), Ready s → Intact s.car → s.car.ssv.running = some e →
    let table := s.car.pst.table.filter fun x => !x.checkFailed
    let low : Int := (e.position.pos : Int) - e.position.unc - (e.params.carLength / 2 : Nat)
    let high : Int := (e.position.pos : Int) + e.position.unc + (e.params.carLength / 2 : Nat)
    e.direction.sense = some dir → e.position.state = .known → e.available ≠ 0 → e.coverage = some n →
    covered table low high = true →
    let front : Int := match dir with | .up => high | .down => low
    let de := ((n : Int) - front).natAbs
    let reaction := e.v * e.params.reactionTime / 10
    let limit (x : Segment) := match dir with | .up => x.upLimit | .down => x.downLimit
    let applies (r : Restriction) : Bool := match dir with
      | .up => r.appliesTo == .up || r.appliesTo == .both
      | .down => r.appliesTo == .down || r.appliesTo == .both
    -- what lies wholly ahead, from its first position to the one past its last, as a distance, an edge and a speed
    let ahead (first past : Int) (speed : Nat) (source : LimitingSource) : Option (Nat × Int × Nat × LimitingSource) :=
      match dir with
      | .up => if front < first then some ((first - front).toNat, first, speed, source) else none
      | .down => if past ≤ front then some ((front - past).toNat, past, speed, source) else none
    let targets : List (Nat × Int × Nat × LimitingSource) :=
      (table.filterMap fun x => ahead x.low ((x.low : Int) + x.length) (cms (limit x)) (.targetSegment x.id)).filter
        (fun q => decide (q.1 ≤ min e.params.horizon de)) ++
      ((e.restrictions.filter applies).filterMap fun r =>
        ahead r.low ((r.high : Int) + 1) (cms r.speed) (.targetRestriction r.id)).filter
        (fun q => decide (q.1 ≤ min e.params.horizon de)) ++
      (if de ≤ e.params.horizon then [(de, (n : Int), 0, .targetCoverageEnd)] else [])
    let piece (q : Nat × Int × Nat × LimitingSource) (x : Segment) : Nat := match dir with
      | .up => (min q.2.1 ((x.low : Int) + x.length) - max (front + reaction) x.low).toNat
      | .down => (min (front - reaction) ((x.low : Int) + x.length) - max q.2.1 x.low).toNat
    let whole (q : Nat × Int × Nat × LimitingSource) : Int := match dir with
      | .up => q.2.1 - (front + reaction)
      | .down => front - reaction - q.2.1
    let cap (x : Segment) : Nat :=
      if x.kind = .rack then (if e.available = 1 then e.params.rack1 else e.params.rack2).get e.load
      else (if e.available = 1 then e.params.adhesion1 else e.params.adhesion2).get e.load
    let downhill (x : Segment) : Nat := (max 0 (match dir with | .up => -x.gradient | .down => x.gradient)).toNat
    let brakes (x : Segment) : Int := (cap x : Int) - ((9807 * downhill x + 999) / 1000 : Nat)
    let square (q : Nat × Int × Nat × LimitingSource) : Nat :=
      q.2.2.1 * q.2.2.1 + (table.map fun x => (brakes x).toNat * piece q x / 5).sum
    let curve (q : Nat × Int × Nat × LimitingSource) (v : Nat) : Prop :=
      if q.1 ≤ reaction ∨ ((table.map (piece q)).sum : Int) < whole q then v = q.2.2.1
      else if 1440000 ≤ square q then v = 1200
      else v * v ≤ square q ∧ square q < (v + 1) * (v + 1)
    ∃ t, exec (.evaluationEnd none) s = .next t ∧ t.pending = s.pending ∧
      (let r := t.car.ssv.record
      -- the limits over the car that give P, and the caps in the order of their table
      let limits (source : LimitingSource) : Prop :=
        (∃ x ∈ table, (x.low : Int) ≤ high ∧ low ≤ (x.low : Int) + x.length - 1 ∧ r.p = cms (limit x) ∧
          source = .limitSegment x.id) ∨
        (∃ x ∈ e.restrictions, applies x = true ∧ (x.low : Int) ≤ high ∧ low ≤ x.high ∧ r.p = cms x.speed ∧
          source = .limitRestriction x.id)
      let caps : List (CapName × Option Nat) := [
        (.radioLoss, if e.radioLost = true then some (cms e.params.radioCap) else none),
        (.mesh, if e.meshShallow = true then some (cms e.params.meshCap) else none),
        (.degradedOdometry, if e.degraded = true then some (cms e.params.degradedCap) else none),
        (.overflow, (overflowCap e.overflow e.saturated).map cms)]
      let limited := ∃ source, limits source
      let capped := ∃ c ∈ caps, c.2 = some r.p
      let bounded := limited ∨ capped
      r.targets = targets.length ∧
      (∀ q ∈ targets, ∃ v, curve q v ∧ r.p ≤ v) ∧ r.p ≤ 1200 ∧
      (bounded ∨ r.p = 1200 ∨ ∃ q ∈ targets, curve q r.p) ∧
      (limited → limits r.source) ∧
      (¬ limited → ∀ a c b, caps = a ++ c :: b → c.2 = some r.p → (∀ y ∈ a, y.2 ≠ some r.p) → r.source = .cap c.1) ∧
      (¬ bounded → (∃ q ∈ targets, curve q r.p) → ∃ q ∈ targets, curve q r.p ∧ r.source = q.2.2.2 ∧
        ∀ q' ∈ targets, curve q' r.p → q.1 ≤ q'.1) ∧
      (r.source = .ceiling ↔ ¬ bounded ∧ ∀ q ∈ targets, ¬ curve q r.p) ∧
      (r.capabilityShort = true ↔ ∃ q ∈ targets, reaction < q.1 ∧ ∃ x ∈ table, 0 < piece q x ∧ brakes x ≤ 0) ∧
      (r.coverageShort = true ↔ de ≤ e.params.horizon)) ∧
      t.car.odo = s.car.odo ∧ t.car.pst = s.car.pst ∧ t.car.dor = s.car.dor

/-! ## The valley radio link -/

/-- O58. RADIO_FRAME_RECEIVED: a follower takes none; an invalid frame counts; a valid one moves link supervision and names the
station. Outside fault stop the radio car takes an order in every link state, with any report queue and modem: one of an unknown
kind, of a known number, or with a body that does not fit is acknowledged without being executed, and a known number whose relay
was DROPPED has it placed again. The six orders of a new number are executed, entered in the recent orders list, relayed but for
the poll, and acknowledged with the result of their block before ORDER_EXECUTED occurs; a relay the originate queue refuses is
DROPPED, with ORIGINATE_FULL. What the model chose and this rests on: notes/assumptions/14.md, notes/assumptions/27.md,
notes/assumptions/29.md, notes/assumptions/43.md, notes/assumptions/55.md. -/
def Obligations.RadioFramesAreTaken : Prop :=
  ∀ (bytes : List Byte) (s : State), Ready s → Intact s.car →
    let v := s.car.vrl
    let train := s.car.lif.params.trainId
    let i := Instr.radioFrameReceived bytes
    (v.role = .follower → exec i s = .next s) ∧
    (v.role = .radio → parseRadio bytes = none ∨
        (∃ f, parseRadio bytes = some f ∧ (f.train ≠ train ∨ train = 0 ∨ f.station < 1 ∨ 4 < f.station)) →
      exec i s = .next ⟨{ s.car with vrl := { v with invalidFrames := min 65535 (v.invalidFrames + 1) } }, s.pending⟩) ∧
    (∀ f, v.role = .radio → parseRadio bytes = some f → f.train = train → train ≠ 0 → 1 ≤ f.station → f.station ≤ 4 →
      let supervised : Option LimitedTimer := some ⟨0, s.car.lif.params.tRs⟩
      let linked := occur .radioLinked f.station
        { s.car with vrl := { v with station := f.station, link := .linked, supervision := supervised } }
      let heard : Car := match v.link with
        | .lost => { s.car with
            vrl := { v with station := f.station, link := .linking, supervision := supervised }
            ssv := { s.car.ssv with waiting := ⟨true, s.car.ssv.waiting.update⟩ } }
        | .linking => if v.shadowStands = false then linked else { linked with vrl := { linked.vrl with
            link := .shadow, supervision := none, shadow := some ⟨0, s.car.lif.params.tShadowMax⟩ } }
        | .linked => { s.car with vrl := { v with station := f.station, supervision := supervised } }
        | .shadow => { s.car with vrl := { v with station := f.station } }
      (f.kind ∈ [16, 32, 33, 34] ∨ f.number = 0 ∨ s.car.brk.faultStop = true → exec i s = .next ⟨heard, s.pending⟩) ∧
      (s.car.brk.faultStop = false → f.number ≠ 0 →
        let send (r : Report) (c : Car) : Car := { c with vrl := c.vrl.queueReport train r }
        let entered (result : Result) (relay : RelayState) :=
          (v.recent ++ [(⟨f.number, f.kind, f.body, result, relay⟩ : OrderEntry)]).drop (v.recent.length + 1 - 8)
        let new := ∀ e ∈ v.recent, e.number ≠ f.number
        let known (e : OrderEntry) := e ∈ v.recent ∧ e.number = f.number ∧ ∀ x ∈ v.recent, x.number = f.number → x = e
        let succeeds (kind : Nat) (result : Result) : Bool :=
          decide (result = .accepted ∨ result = .acceptedClamped ∨ (result = .notFound ∧ (kind = 2 ∨ kind = 4)))
        let room := s.car.lif.nonReplyRoom
        let relay : RelayState := if room = true then .placed else .dropped
        let placed (kind number : Nat) (body : List Byte) : Car :=
          if room = true then { heard with lif := s.car.lif.append heard.vrl.link [.radioRelay kind number body] }
          else occur .originateFull 556 heard
        let relayed := placed f.kind f.number f.body
        let executed (c : Car) (r : Report) : Vrl := (occur .orderExecuted f.number (send r c)).vrl
        let done (result : Result) (stop : Option Nat) : Vrl :=
          executed { relayed with vrl := { relayed.vrl with recent := entered result relay, stopNumber := stop } }
            (.ack f.number result (succeeds f.kind result) false relay)
        let doneAfter (result : Result) (stop : Option Nat) (t : State) : Prop :=
          (∃ w : Vrl, w.role = .radio ∧ w.recent = entered result relay ∧ w.stopNumber = stop ∧
            t.car.vrl = executed { relayed with vrl := w } (.ack f.number result (succeeds f.kind result) false relay)) ∧
          (v.transmit ≠ none → v.reports.length < 4 →
            .ack f.number result (succeeds f.kind result) false relay ∈ t.car.vrl.reports)
        let framed (t : State) : Prop := t.pending = s.pending ∧ t.car.lif = relayed.lif ∧ t.car.tlf = s.car.tlf ∧
          t.car.odo = s.car.odo ∧ t.car.pst = s.car.pst ∧ t.car.dor = s.car.dor ∧ t.car.vrl.link = heard.vrl.link ∧
          ((t.car.evr.source 23).pending = true ∨ s.car.evr.sources.length ≤ 23) ∧
          (room = false → (t.car.evr.source 30).pending = true ∨ s.car.evr.sources.length ≤ 30)
        (f.kind ∉ [1, 2, 3, 4, 5, 6, 16, 32, 33, 34] →
          exec i s = .next ⟨send (.ack f.number .unknownKind false false .none) heard, s.pending⟩) ∧
        (1 ≤ f.kind → f.kind ≤ 6 → new → parseOrder f.kind f.body = none → exec i s = .next
          ⟨send (.ack f.number .range false false .none)
            { heard with vrl := { heard.vrl with recent := entered .range .none } }, s.pending⟩) ∧
        (∀ e, 1 ≤ f.kind → f.kind ≤ 6 → known e → e.relay ≠ .dropped → exec i s = .next
          ⟨send (.ack e.number e.result (succeeds e.kind e.result) true e.relay) heard, s.pending⟩) ∧
        (∀ e, 1 ≤ f.kind → f.kind ≤ 6 → known e → e.relay = .dropped →
          let again := placed e.kind e.number e.body
          exec i s = .next ⟨send (.ack e.number e.result (succeeds e.kind e.result) true relay) { again with
            vrl := { again.vrl with
              recent := v.recent.map fun x => if x.number = e.number then { x with relay := relay } else x } }, s.pending⟩) ∧
        (f.kind = 3 → f.body = [] → new → ∃ t, exec i s = .next t ∧ framed t ∧ t.car.brk.conditions.radioStop = true ∧
          (s.car.brk.conditions.radioStop = true → t.car.vrl = done .accepted (some f.number) ∧ t.car.brk = s.car.brk) ∧
          (s.car.brk.conditions.radioStop = false → doneAfter .accepted (some f.number) t ∧
            t.car.brk.causes.radioStop.map CauseRecord.present = some true ∧
            ∀ ch, (t.car.brk.channels.get ch).command = .apply)) ∧
        (∀ n, f.kind = 4 → n < 65536 → f.body = beBytes 2 n → new → ∃ t, exec i s = .next t ∧ framed t ∧
          t.car.ssv = heard.ssv ∧
          (s.car.brk.conditions.radioStop = false → t.car.vrl = done .notFound v.stopNumber ∧ t.car.brk = s.car.brk) ∧
          (s.car.brk.conditions.radioStop = true → v.stopNumber ≠ some n →
            t.car.vrl = done .state v.stopNumber ∧ t.car.brk = s.car.brk) ∧
          (s.car.brk.conditions.radioStop = true → v.stopNumber = some n → t.car.vrl = done .accepted none ∧
            t.car.brk.conditions.radioStop = false ∧
            t.car.brk.causes.radioStop = s.car.brk.causes.radioStop.map fun r => { r with present := false })) ∧
        (∀ id low high speed appliesTo, f.kind = 1 →
          parseOrder 1 f.body = some (.restrictionAdd id low high speed appliesTo) → new →
          let fits := 1 ≤ id ∧ id ≤ 255 ∧ low ≤ high ∧ high ≤ 1999999 ∧ AppliesTo.ofCode appliesTo ≠ none
          ∃ t, exec i s = .next t ∧ framed t ∧ t.car.brk = s.car.brk ∧
            (¬ fits → t.car.vrl = done .range v.stopNumber ∧ t.car.ssv = heard.ssv) ∧
            (∀ a, fits → AppliesTo.ofCode appliesTo = some a →
              s.car.ssv.restrictions.length < 16 ∨ (∃ r ∈ s.car.ssv.restrictions, r.id = id) →
              t.car.vrl = done (if speed ≤ 40 then .accepted else .acceptedClamped) v.stopNumber ∧
              (∀ r, r ∈ t.car.ssv.restrictions ↔ r = ⟨id, low, high, min 40 speed, a, .radio f.number⟩ ∨
                (r ∈ s.car.ssv.restrictions ∧ r.id ≠ id)) ∧ t.car.ssv.waiting.cause = true) ∧
            (fits → 16 ≤ s.car.ssv.restrictions.length → (∀ r ∈ s.car.ssv.restrictions, r.id ≠ id) →
              doneAfter .listFull v.stopNumber t ∧ t.car.ssv.restrictions = s.car.ssv.restrictions ∧
              ((∃ x ∈ t.car.ssv.overflow, x.id = id ∧ x.speed ≤ min 40 speed) ∨ t.car.ssv.saturated = true))) ∧
        (∀ id, f.kind = 2 → parseOrder 2 f.body = some (.restrictionCancel id) → new →
          let held := (∃ r ∈ s.car.ssv.restrictions, r.id = id) ∨ ∃ x ∈ s.car.ssv.overflow, x.id = id
          ∃ t, exec i s = .next t ∧ framed t ∧ t.car.brk = s.car.brk ∧
            (id = 0 → t.car.vrl = done .range v.stopNumber ∧ t.car.ssv = heard.ssv) ∧
            (id ≠ 0 → ¬ held → t.car.vrl = done .notFound v.stopNumber ∧ t.car.ssv = heard.ssv) ∧
            (id ≠ 0 → held → t.car.vrl = done .accepted v.stopNumber ∧ t.car.ssv.waiting.cause = true ∧
              t.car.ssv.restrictions = (s.car.ssv.restrictions.filter fun r => !(r.id == id)) ∧
              t.car.ssv.overflow = (s.car.ssv.overflow.filter fun x => !(x.id == id)))) ∧
        (∀ b, f.kind = 5 → parseOrder 5 f.body = some (.segmentDelivery b) → new →
          let arrival := segmentArrival b heard
          ∃ t, exec i s = .next t ∧ t.pending = s.pending ∧ t.car.lif = relayed.lif ∧ t.car.pst = arrival.2.pst ∧
            t.car.ssv = arrival.2.ssv ∧ doneAfter arrival.1 v.stopNumber t ∧ t.car.vrl.link = heard.vrl.link ∧
            t.car.odo = s.car.odo ∧ t.car.tlf = s.car.tlf ∧ t.car.brk = s.car.brk ∧ t.car.dor = s.car.dor ∧
            ((t.car.evr.source 23).pending = true ∨ s.car.evr.sources.length ≤ 23)) ∧
        (f.kind = 6 → f.body = [] → new → ∃ t, exec i s = .next t ∧ t.pending = s.pending ∧
          t.car = { heard with vrl := t.car.vrl, evr := t.car.evr } ∧
          ((t.car.evr.source 23).pending = true ∨ s.car.evr.sources.length ≤ 23) ∧
          let polled := heard.vrl.queueReport train (.position {
            number := f.number
            carNumber := s.car.lif.carNumber.getD 0
            stamp := s.car.now
            pos := s.car.odo.position.pos
            positionState := s.car.odo.position.state
            unc := s.car.odo.position.unc
            lastFix := s.car.odo.position.lastFix
            fused := s.car.odo.fused
            measured := s.car.odo.measured
            commanded := s.car.lif.demand.direction
            segment := containing s.car.pst.readable s.car.odo.position
            causeMask := causeMask s.car.brk.causes
            link := heard.vrl.link
            faultStop := false })
          t.car.vrl = executed { heard with vrl := { polled with recent := entered .accepted .none } }
            (.ack f.number .accepted true false .none))))

/-- O59. What a follower hears: a RADIO RELAY of a known number, of a body that does not fit or of a POSITION POLL does nothing;
a REMOTE STOP, STOP RELEASE, RESTRICTION ADD, RESTRICTION CANCEL or SEGMENT DELIVERY of a new number is executed and entered
with the follower's own result (RANGE for a restriction out of range, LIST_FULL for a new id that finds the list full), without
an acknowledgement; a RADIO STATUS gives the follower its link state and station and starts the follower timer, whose expiry at
3 s makes the link LOST; one that finds the timer stopped or short of 3 s, as after a RADIO STATUS taken first, changes nothing.
The radio car takes neither telegram. What the model chose and this rests on: notes/assumptions/5.md, notes/assumptions/6.md. -/
def Obligations.FollowersFollowTheRadioCar : Prop :=
  ∀ (via : Via) (kind number link station : Nat) (body : List Byte) (s : State), Ready s → Intact s.car →
    let v := s.car.vrl
    (Reaches via (.radioRelay kind number body) s.car →
      let i := Instr.radioRelay via kind number body
      let new := ∀ e ∈ v.recent, e.number ≠ number
      let entered (result : Result) := (v.recent ++ [(⟨number, kind, [], result, .none⟩ : OrderEntry)]).drop (v.recent.length + 1 - 8)
      let framed (t : State) : Prop := t.pending = s.pending ∧ t.car.lif = s.car.lif ∧ t.car.tlf = s.car.tlf ∧
        t.car.odo = s.car.odo ∧ t.car.pst = s.car.pst ∧ t.car.dor = s.car.dor ∧ t.car.vrl.reports = v.reports ∧
        ((t.car.evr.source 23).pending = true ∨ s.car.evr.sources.length ≤ 23)
      (v.role = .radio ∨ ¬ new ∨ parseOrder kind body = none ∨ kind = 6 → exec i s = .next s) ∧
      (v.role = .follower → new → kind = 3 → body = [] → ∃ t, exec i s = .next t ∧ framed t ∧
        t.car.vrl = { v with stopNumber := some number, recent := entered .accepted } ∧
        t.car.brk.conditions.radioStop = true ∧
        (s.car.brk.conditions.radioStop = false → t.car.brk.causes.radioStop.map CauseRecord.present = some true ∧
          ∀ ch, (t.car.brk.channels.get ch).command = .apply)) ∧
      (∀ n, v.role = .follower → new → kind = 4 → n < 65536 → body = beBytes 2 n → ∃ t, exec i s = .next t ∧ framed t ∧
        (s.car.brk.conditions.radioStop = true ∧ v.stopNumber = some n →
          t.car.vrl = { v with stopNumber := none, recent := entered .accepted } ∧
          t.car.brk.conditions.radioStop = false ∧
          t.car.brk.causes.radioStop = s.car.brk.causes.radioStop.map fun r => { r with present := false }) ∧
        (s.car.brk.conditions.radioStop = true ∧ v.stopNumber ≠ some n →
          t.car.vrl = { v with recent := entered .state } ∧ t.car.brk = s.car.brk) ∧
        (s.car.brk.conditions.radioStop = false →
          t.car.vrl = { v with recent := entered .notFound } ∧ t.car.brk = s.car.brk)) ∧
      (∀ id low high speed appliesTo, v.role = .follower → new → kind = 1 →
        parseOrder 1 body = some (.restrictionAdd id low high speed appliesTo) →
        let fits := 1 ≤ id ∧ id ≤ 255 ∧ low ≤ high ∧ high ≤ 1999999 ∧ AppliesTo.ofCode appliesTo ≠ none
        ∃ t, exec i s = .next t ∧ framed t ∧ t.car.brk = s.car.brk ∧
          (¬ fits → t.car.vrl = { v with recent := entered .range } ∧ t.car.ssv = s.car.ssv) ∧
          (∀ a, fits → AppliesTo.ofCode appliesTo = some a →
            s.car.ssv.restrictions.length < 16 ∨ (∃ r ∈ s.car.ssv.restrictions, r.id = id) →
            t.car.vrl = { v with recent := entered (if speed ≤ 40 then .accepted else .acceptedClamped) } ∧
            (∀ r, r ∈ t.car.ssv.restrictions ↔ r = ⟨id, low, high, min 40 speed, a, .radio number⟩ ∨
              (r ∈ s.car.ssv.restrictions ∧ r.id ≠ id)) ∧ t.car.ssv.waiting.cause = true) ∧
          (fits → 16 ≤ s.car.ssv.restrictions.length → (∀ r ∈ s.car.ssv.restrictions, r.id ≠ id) →
            t.car.vrl = { v with recent := entered .listFull } ∧ t.car.ssv.restrictions = s.car.ssv.restrictions ∧
            ((∃ x ∈ t.car.ssv.overflow, x.id = id ∧ x.speed ≤ min 40 speed) ∨ t.car.ssv.saturated = true))) ∧
      (∀ id, v.role = .follower → new → kind = 2 → parseOrder 2 body = some (.restrictionCancel id) →
        let held := (∃ r ∈ s.car.ssv.restrictions, r.id = id) ∨ ∃ x ∈ s.car.ssv.overflow, x.id = id
        ∃ t, exec i s = .next t ∧ framed t ∧ t.car.brk = s.car.brk ∧
          (id = 0 → t.car.vrl = { v with recent := entered .range } ∧ t.car.ssv = s.car.ssv) ∧
          (id ≠ 0 → ¬ held → t.car.vrl = { v with recent := entered .notFound } ∧ t.car.ssv = s.car.ssv) ∧
          (id ≠ 0 → held → t.car.vrl = { v with recent := entered .accepted } ∧ t.car.ssv.waiting.cause = true ∧
            t.car.ssv.restrictions = (s.car.ssv.restrictions.filter fun r => !(r.id == id)) ∧
            t.car.ssv.overflow = (s.car.ssv.overflow.filter fun x => !(x.id == id)))) ∧
      (∀ b, v.role = .follower → new → kind = 5 → parseOrder 5 body = some (.segmentDelivery b) →
        let arrival := segmentArrival b s.car
        ∃ t, exec i s = .next t ∧ t.pending = s.pending ∧ t.car.pst = arrival.2.pst ∧ t.car.ssv = arrival.2.ssv ∧
          t.car.vrl = { v with recent := entered arrival.1 } ∧ t.car.lif = s.car.lif ∧ t.car.odo = s.car.odo ∧
          t.car.tlf = s.car.tlf ∧ t.car.brk = s.car.brk ∧ t.car.dor = s.car.dor ∧
          ((t.car.evr.source 23).pending = true ∨ s.car.evr.sources.length ≤ 23))) ∧
    (Reaches via (.radioStatus link station) s.car →
      (v.role = .radio → exec (.radioStatus via link station) s = .next s) ∧
      (v.role = .follower → ∃ t, exec (.radioStatus via link station) s = .next t ∧ t.pending = s.pending ∧
        t.car.vrl = { v with link := LinkState.ofCode link, station := station, follower := some 0 } ∧
        t.car.ssv = (if (v.link = .lost ↔ LinkState.ofCode link = .lost) then s.car.ssv
          else { s.car.ssv with waiting := ⟨true, s.car.ssv.waiting.update⟩ }) ∧
        t.car.evr = (if LinkState.ofCode link = .lost ∧ v.link ≠ .lost then s.car.evr.take s.car.now .radioLost 5
          else if LinkState.ofCode link = .linked ∧ (v.link = .lost ∨ v.link = .linking) then
            s.car.evr.take s.car.now .radioLinked station
          else s.car.evr) ∧
        t.car.lif = s.car.lif ∧ t.car.tlf = s.car.tlf ∧ t.car.odo = s.car.odo ∧ t.car.pst = s.car.pst ∧
        t.car.brk = s.car.brk ∧ t.car.dor = s.car.dor ∧ exec .followerTimerExpiry t = .next t)) ∧
    (Timer.reached 300 v.follower = false → exec .followerTimerExpiry s = .next s) ∧
    (Timer.reached 300 v.follower = true → ∃ t, exec .followerTimerExpiry s = .next t ∧ t.pending = s.pending ∧
      t.car.vrl.link = .lost ∧ t.car.vrl.follower = none ∧ t.car.vrl.station = v.station ∧
      (v.link = .lost → t.car.evr = s.car.evr ∧ t.car.ssv = s.car.ssv) ∧
      (v.link ≠ .lost → t.car.evr = s.car.evr.take s.car.now .radioLost 4 ∧
        t.car.ssv = { s.car.ssv with waiting := ⟨true, s.car.ssv.waiting.update⟩ }) ∧
      t.car.lif = s.car.lif ∧ t.car.tlf = s.car.tlf ∧ t.car.odo = s.car.odo ∧ t.car.pst = s.car.pst ∧
      t.car.brk = s.car.brk ∧ t.car.dor = s.car.dor)

/-- O60. The modem and the timers of the radio car, whose expiries have their effect at the limit alone: a send confirmation of
the frame in flight, or 2 s without one, frees the transmit and writes the next report; supervision of a LINKING or LINKED link
and the shadow timer end in LOST with RADIO_LOST and its detail; the status timer places a RADIO STATUS unless one waits or
fault stop is in force; the report timer queues a POSITION_REPORT of number 0, in fault stop too. A report that joins a queue
with room goes to the tail, and with the modem FREE the head is written at once; one that meets eight waiting reports displaces
the oldest of the kind its rule names or is discarded, and one more report is lost. What the model chose and this rests on:
notes/assumptions/6.md, notes/assumptions/14.md, notes/assumptions/33.md, notes/assumptions/36.md, notes/assumptions/43.md,
notes/assumptions/46.md, notes/assumptions/55.md, notes/assumptions/66.md. -/
def Obligations.RadioTimersAndModem : Prop :=
  (∀ s : State, Ready s → Intact s.car →
    let v := s.car.vrl
    let same (t : State) : Prop := t.pending = s.pending ∧ t.car.lif = s.car.lif ∧ t.car.tlf = s.car.tlf ∧
      t.car.odo = s.car.odo ∧ t.car.pst = s.car.pst ∧ t.car.brk = s.car.brk ∧ t.car.dor = s.car.dor
    let waiting : Ssv := { s.car.ssv with waiting := ⟨true, s.car.ssv.waiting.update⟩ }
    let freed (n : Nat) : State := ⟨{ s.car with vrl := { v with
      modemTimeouts := n
      reports := v.reports.drop 1
      transmit := v.reports.head?.map fun r => ⟨radioBytes (reportFrame v.station s.car.lif.params.trainId r), 0⟩ } }, s.pending⟩
    (∀ stale, stale = true ∨ v.transmit = none → exec (.sendConfirmation stale) s = .next s) ∧
    (v.transmit ≠ none → exec (.sendConfirmation false) s = .next (freed v.modemTimeouts)) ∧
    ((∀ x, v.transmit = some x → x.elapsed < 200) → exec .modemTimeout s = .next s) ∧
    (∀ x, v.transmit = some x → 200 ≤ x.elapsed → exec .modemTimeout s = .next (freed (min 65535 (v.modemTimeouts + 1)))) ∧
    ((∀ x, v.supervision = some x → x.elapsed < x.limit * 100) ∨ v.link = .lost ∨ v.link = .shadow → exec .supervisionTimerExpiry s = .next s) ∧
    (∀ x, v.supervision = some x → x.limit * 100 ≤ x.elapsed → v.link = .linking ∨ v.link = .linked →
      ∃ t, exec .supervisionTimerExpiry s = .next t ∧ same t ∧ t.car.vrl.link = .lost ∧ t.car.vrl.supervision = none ∧
        t.car.ssv = waiting ∧
        t.car.evr = s.car.evr.take s.car.now .radioLost (if v.link = .linked then 1 else 3)) ∧
    ((∀ x, v.shadow = some x → x.elapsed < x.limit * 100) ∨ v.link ≠ .shadow → exec .shadowTimerExpiry s = .next s) ∧
    (∀ x, v.shadow = some x → x.limit * 100 ≤ x.elapsed → v.link = .shadow →
      ∃ t, exec .shadowTimerExpiry s = .next t ∧ same t ∧ t.car.vrl.link = .lost ∧ t.car.vrl.shadow = none ∧
        t.car.ssv = waiting ∧
        t.car.evr = (s.car.evr.take s.car.now .shadowExceeded x.limit).take s.car.now .radioLost 2) ∧
    (v.role = .follower ∨ Timer.reached 100 v.statusTimer = false → exec .statusTimerExpiry s = .next s) ∧
    (v.role = .follower ∨ Timer.reached 1000 v.reportTimer = false → exec .reportTimerExpiry s = .next s) ∧
    (v.role = .radio → Timer.reached 100 v.statusTimer = true →
      let restarted : Car := { s.car with vrl := { v with statusTimer := some 0 } }
      let waits := s.car.lif.queue.any fun q => q.frame.isRadioStatus
      (s.car.brk.faultStop = true ∨ waits = true → exec .statusTimerExpiry s = .next ⟨restarted, s.pending⟩) ∧
      (s.car.brk.faultStop = false → waits = false → s.car.lif.nonReplyRoom = true → exec .statusTimerExpiry s =
        .next ⟨{ restarted with lif := s.car.lif.append v.link [.radioStatus v.station] }, s.pending⟩) ∧
      (s.car.brk.faultStop = false → waits = false → s.car.lif.nonReplyRoom = false → exec .statusTimerExpiry s =
        .next ⟨occur .originateFull 557 restarted, s.pending⟩)) ∧
    (v.role = .radio → Timer.reached 1000 v.reportTimer = true →
      let timed : Vrl := { v with reportTimer := some 0 }
      let reported : Vrl := timed.queueReport s.car.lif.params.trainId (.position {
          number := 0
          carNumber := s.car.lif.carNumber.getD 0
          stamp := s.car.now
          pos := s.car.odo.position.pos
          positionState := s.car.odo.position.state
          unc := s.car.odo.position.unc
          lastFix := s.car.odo.position.lastFix
          fused := s.car.odo.fused
          measured := s.car.odo.measured
          commanded := s.car.lif.demand.direction
          segment := containing s.car.pst.readable s.car.odo.position
          causeMask := causeMask s.car.brk.causes
          link := v.link
          faultStop := s.car.brk.faultStop })
      exec .reportTimerExpiry s = .next ⟨{ s.car with vrl := reported }, s.pending⟩)) ∧
  (∀ (v : Vrl) (train : Nat) (r : Report),
    let after := v.queueReport train r
    let full := v.reports.length = 8
    let lost := min 65535 (v.lostReports + 1)
    (v.role = .follower → after = v) ∧
    (v.role = .radio → v.transmit ≠ none → v.reports.length < 8 → after = { v with reports := v.reports ++ [r] }) ∧
    (∀ first rest, v.role = .radio → v.transmit = none → v.reports.length < 8 → v.reports ++ [r] = first :: rest →
      after = { v with reports := rest, transmit := some ⟨radioBytes (reportFrame v.station train first), 0⟩ }) ∧
    (v.role = .radio → v.transmit ≠ none → full → r.isAck = false →
      r.isPosition = false ∨ (∀ q ∈ v.reports, q.isPosition = false) → after = { v with lostReports := lost }) ∧
    (∀ a q b, v.role = .radio → v.transmit ≠ none → full → v.reports = a ++ q :: b → r.isPosition = true →
      q.isPosition = true → (∀ x ∈ a, x.isPosition = false) → after = { v with reports := a ++ b ++ [r], lostReports := lost }) ∧
    (∀ a q b, v.role = .radio → v.transmit ≠ none → full → v.reports = a ++ q :: b → r.isAck = true →
      q.isAck = false → (∀ x ∈ a, x.isAck = true) → after = { v with reports := a ++ b ++ [r], lostReports := lost }) ∧
    (v.role = .radio → v.transmit ≠ none → full → r.isAck = true → (∀ q ∈ v.reports, q.isAck = true) →
      after = { v with reports := v.reports.drop 1 ++ [r], lostReports := lost }))
end

