-- ==== Sys2Proof/Laws/State.lean ====
section
/-! SUPPORT. What each shared update leaves as it was, one lemma per field, so that no later proof unfolds a record update. -/

namespace Sys2Proof.Machine

/-! ## Timers -/

@[simp] theorem Timer.reached_none (limit : Nat) : Timer.reached limit none = false := rfl
@[simp] theorem Timer.reached_some (limit n : Nat) : Timer.reached limit (some n) = decide (limit ≤ n) := rfl

theorem Timer.reached_iff (limit : Nat) (t : Timer) : Timer.reached limit t = true ↔ ∃ n, t = some n ∧ limit ≤ n := by
  cases t <;> simp

/-- A timer that has just started has not reached its limit. -/
theorem Timer.reached_start {limit : Nat} (h : 0 < limit) : Timer.reached limit (some 0) = false := by
  simp; omega

/-- A timer at its limit waits there for its expiry. -/
theorem Timer.reached_tick {limit : Nat} {t : Timer} (h : Timer.reached limit t = true) :
    Timer.reached limit (Timer.tick limit t) = true := by
  obtain ⟨n, rfl, hn⟩ := (Timer.reached_iff limit t).1 h
  simp [Timer.tick]
  omega

/-- A timer one tick short of its limit reaches it at the next tick. -/
theorem Timer.tick_reaches (n : Nat) : Timer.reached (n + 1) (Timer.tick (n + 1) (some n)) = true := by
  simp [Timer.tick]

variable (c : Car)

@[simp] theorem occur_inReset (src : Source) (detail : Nat) : (occur src detail c).inReset = c.inReset := rfl
@[simp] theorem occur_now (src : Source) (detail : Nat) : (occur src detail c).now = c.now := rfl
@[simp] theorem occur_lif (src : Source) (detail : Nat) : (occur src detail c).lif = c.lif := rfl
@[simp] theorem occur_tlf (src : Source) (detail : Nat) : (occur src detail c).tlf = c.tlf := rfl
@[simp] theorem occur_odo (src : Source) (detail : Nat) : (occur src detail c).odo = c.odo := rfl
@[simp] theorem occur_pst (src : Source) (detail : Nat) : (occur src detail c).pst = c.pst := rfl
@[simp] theorem occur_ssv (src : Source) (detail : Nat) : (occur src detail c).ssv = c.ssv := rfl
@[simp] theorem occur_brk (src : Source) (detail : Nat) : (occur src detail c).brk = c.brk := rfl
@[simp] theorem occur_dor (src : Source) (detail : Nat) : (occur src detail c).dor = c.dor := rfl

@[simp] theorem conditionEnd_inReset (src : Source) : (conditionEnd src c).inReset = c.inReset := rfl
@[simp] theorem conditionEnd_now (src : Source) : (conditionEnd src c).now = c.now := rfl
@[simp] theorem conditionEnd_lif (src : Source) : (conditionEnd src c).lif = c.lif := rfl
@[simp] theorem conditionEnd_tlf (src : Source) : (conditionEnd src c).tlf = c.tlf := rfl
@[simp] theorem conditionEnd_odo (src : Source) : (conditionEnd src c).odo = c.odo := rfl
@[simp] theorem conditionEnd_pst (src : Source) : (conditionEnd src c).pst = c.pst := rfl
@[simp] theorem conditionEnd_ssv (src : Source) : (conditionEnd src c).ssv = c.ssv := rfl
@[simp] theorem conditionEnd_brk (src : Source) : (conditionEnd src c).brk = c.brk := rfl
@[simp] theorem conditionEnd_dor (src : Source) : (conditionEnd src c).dor = c.dor := rfl
@[simp] theorem conditionEnd_vrl (src : Source) : (conditionEnd src c).vrl = c.vrl := rfl

@[simp] theorem ssvCause_inReset : (ssvCause c).inReset = c.inReset := rfl
@[simp] theorem ssvCause_now : (ssvCause c).now = c.now := rfl
@[simp] theorem ssvCause_lif : (ssvCause c).lif = c.lif := rfl
@[simp] theorem ssvCause_tlf : (ssvCause c).tlf = c.tlf := rfl
@[simp] theorem ssvCause_odo : (ssvCause c).odo = c.odo := rfl
@[simp] theorem ssvCause_pst : (ssvCause c).pst = c.pst := rfl
@[simp] theorem ssvCause_brk : (ssvCause c).brk = c.brk := rfl
@[simp] theorem ssvCause_dor : (ssvCause c).dor = c.dor := rfl
@[simp] theorem ssvCause_vrl : (ssvCause c).vrl = c.vrl := rfl
@[simp] theorem ssvCause_evr : (ssvCause c).evr = c.evr := rfl

@[simp] theorem levelChange_inReset (src : Source) (before after : Bool) (detail : Nat) : (levelChange src before after detail c).inReset = c.inReset := by
  unfold levelChange; split <;> [skip; split] <;> rfl
@[simp] theorem levelChange_now (src : Source) (before after : Bool) (detail : Nat) : (levelChange src before after detail c).now = c.now := by
  unfold levelChange; split <;> [skip; split] <;> rfl
@[simp] theorem levelChange_lif (src : Source) (before after : Bool) (detail : Nat) : (levelChange src before after detail c).lif = c.lif := by
  unfold levelChange; split <;> [skip; split] <;> rfl
@[simp] theorem levelChange_tlf (src : Source) (before after : Bool) (detail : Nat) : (levelChange src before after detail c).tlf = c.tlf := by
  unfold levelChange; split <;> [skip; split] <;> rfl
@[simp] theorem levelChange_odo (src : Source) (before after : Bool) (detail : Nat) : (levelChange src before after detail c).odo = c.odo := by
  unfold levelChange; split <;> [skip; split] <;> rfl
@[simp] theorem levelChange_pst (src : Source) (before after : Bool) (detail : Nat) : (levelChange src before after detail c).pst = c.pst := by
  unfold levelChange; split <;> [skip; split] <;> rfl
@[simp] theorem levelChange_ssv (src : Source) (before after : Bool) (detail : Nat) : (levelChange src before after detail c).ssv = c.ssv := by
  unfold levelChange; split <;> [skip; split] <;> rfl
@[simp] theorem levelChange_brk (src : Source) (before after : Bool) (detail : Nat) : (levelChange src before after detail c).brk = c.brk := by
  unfold levelChange; split <;> [skip; split] <;> rfl
@[simp] theorem levelChange_dor (src : Source) (before after : Bool) (detail : Nat) : (levelChange src before after detail c).dor = c.dor := by
  unfold levelChange; split <;> [skip; split] <;> rfl

@[simp] theorem causeEnd_inReset (cause : Cause) : (causeEnd cause c).inReset = c.inReset := rfl
@[simp] theorem causeEnd_now (cause : Cause) : (causeEnd cause c).now = c.now := rfl
@[simp] theorem causeEnd_lif (cause : Cause) : (causeEnd cause c).lif = c.lif := rfl
@[simp] theorem causeEnd_tlf (cause : Cause) : (causeEnd cause c).tlf = c.tlf := rfl
@[simp] theorem causeEnd_odo (cause : Cause) : (causeEnd cause c).odo = c.odo := rfl
@[simp] theorem causeEnd_pst (cause : Cause) : (causeEnd cause c).pst = c.pst := rfl
@[simp] theorem causeEnd_ssv (cause : Cause) : (causeEnd cause c).ssv = c.ssv := rfl
@[simp] theorem causeEnd_dor (cause : Cause) : (causeEnd cause c).dor = c.dor := rfl
@[simp] theorem causeEnd_vrl (cause : Cause) : (causeEnd cause c).vrl = c.vrl := rfl
@[simp] theorem causeEnd_evr (cause : Cause) : (causeEnd cause c).evr = c.evr := rfl

@[simp] theorem abortTest_inReset : (abortTest c).inReset = c.inReset := by
  unfold abortTest; split <;> rfl
@[simp] theorem abortTest_now : (abortTest c).now = c.now := by
  unfold abortTest; split <;> rfl
@[simp] theorem abortTest_lif : (abortTest c).lif = c.lif := by
  unfold abortTest; split <;> rfl
@[simp] theorem abortTest_tlf : (abortTest c).tlf = c.tlf := by
  unfold abortTest; split <;> rfl
@[simp] theorem abortTest_odo : (abortTest c).odo = c.odo := by
  unfold abortTest; split <;> rfl
@[simp] theorem abortTest_pst : (abortTest c).pst = c.pst := by
  unfold abortTest; split <;> rfl
@[simp] theorem abortTest_ssv : (abortTest c).ssv = c.ssv := by
  unfold abortTest; split <;> rfl
@[simp] theorem abortTest_dor : (abortTest c).dor = c.dor := by
  unfold abortTest; split <;> rfl

@[simp] theorem addCause_inReset (cause : Cause) (present : Bool) : (addCause cause present c).inReset = c.inReset := by
  unfold addCause; split <;> [rfl; (dsimp only; split <;> simp)]
@[simp] theorem addCause_now (cause : Cause) (present : Bool) : (addCause cause present c).now = c.now := by
  unfold addCause; split <;> [rfl; (dsimp only; split <;> simp)]
@[simp] theorem addCause_lif (cause : Cause) (present : Bool) : (addCause cause present c).lif = c.lif := by
  unfold addCause; split <;> [rfl; (dsimp only; split <;> simp)]
@[simp] theorem addCause_tlf (cause : Cause) (present : Bool) : (addCause cause present c).tlf = c.tlf := by
  unfold addCause; split <;> [rfl; (dsimp only; split <;> simp)]
@[simp] theorem addCause_odo (cause : Cause) (present : Bool) : (addCause cause present c).odo = c.odo := by
  unfold addCause; split <;> [rfl; (dsimp only; split <;> simp)]
@[simp] theorem addCause_pst (cause : Cause) (present : Bool) : (addCause cause present c).pst = c.pst := by
  unfold addCause; split <;> [rfl; (dsimp only; split <;> simp)]
@[simp] theorem addCause_ssv (cause : Cause) (present : Bool) : (addCause cause present c).ssv = c.ssv := by
  unfold addCause; split <;> [rfl; (dsimp only; split <;> simp)]
@[simp] theorem addCause_dor (cause : Cause) (present : Bool) : (addCause cause present c).dor = c.dor := by
  unfold addCause; split <;> [rfl; (dsimp only; split <;> simp)]

@[simp] theorem causeStart_inReset (cause : Cause) : (causeStart cause c).inReset = c.inReset := by
  simp [causeStart]
@[simp] theorem causeStart_now (cause : Cause) : (causeStart cause c).now = c.now := by
  simp [causeStart]
@[simp] theorem causeStart_lif (cause : Cause) : (causeStart cause c).lif = c.lif := by
  simp [causeStart]
@[simp] theorem causeStart_tlf (cause : Cause) : (causeStart cause c).tlf = c.tlf := by
  simp [causeStart]
@[simp] theorem causeStart_odo (cause : Cause) : (causeStart cause c).odo = c.odo := by
  simp [causeStart]
@[simp] theorem causeStart_pst (cause : Cause) : (causeStart cause c).pst = c.pst := by
  simp [causeStart]
@[simp] theorem causeStart_ssv (cause : Cause) : (causeStart cause c).ssv = c.ssv := by
  simp [causeStart]
@[simp] theorem causeStart_dor (cause : Cause) : (causeStart cause c).dor = c.dor := by
  simp [causeStart]

@[simp] theorem causeChange_inReset (cause : Cause) (before after : Bool) : (causeChange cause before after c).inReset = c.inReset := by
  unfold causeChange; split <;> [skip; split] <;> simp
@[simp] theorem causeChange_now (cause : Cause) (before after : Bool) : (causeChange cause before after c).now = c.now := by
  unfold causeChange; split <;> [skip; split] <;> simp
@[simp] theorem causeChange_lif (cause : Cause) (before after : Bool) : (causeChange cause before after c).lif = c.lif := by
  unfold causeChange; split <;> [skip; split] <;> simp
@[simp] theorem causeChange_tlf (cause : Cause) (before after : Bool) : (causeChange cause before after c).tlf = c.tlf := by
  unfold causeChange; split <;> [skip; split] <;> simp
@[simp] theorem causeChange_odo (cause : Cause) (before after : Bool) : (causeChange cause before after c).odo = c.odo := by
  unfold causeChange; split <;> [skip; split] <;> simp
@[simp] theorem causeChange_pst (cause : Cause) (before after : Bool) : (causeChange cause before after c).pst = c.pst := by
  unfold causeChange; split <;> [skip; split] <;> simp
@[simp] theorem causeChange_ssv (cause : Cause) (before after : Bool) : (causeChange cause before after c).ssv = c.ssv := by
  unfold causeChange; split <;> [skip; split] <;> simp
@[simp] theorem causeChange_dor (cause : Cause) (before after : Bool) : (causeChange cause before after c).dor = c.dor := by
  unfold causeChange; split <;> [skip; split] <;> simp

@[simp] theorem handDoor_inReset (before after : Bool) : (handDoor before after c).inReset = c.inReset := by
  unfold handDoor; split <;> [skip; split] <;> simp
@[simp] theorem handDoor_now (before after : Bool) : (handDoor before after c).now = c.now := by
  unfold handDoor; split <;> [skip; split] <;> simp
@[simp] theorem handDoor_lif (before after : Bool) : (handDoor before after c).lif = c.lif := by
  unfold handDoor; split <;> [skip; split] <;> simp
@[simp] theorem handDoor_tlf (before after : Bool) : (handDoor before after c).tlf = c.tlf := by
  unfold handDoor; split <;> [skip; split] <;> simp
@[simp] theorem handDoor_odo (before after : Bool) : (handDoor before after c).odo = c.odo := by
  unfold handDoor; split <;> [skip; split] <;> simp
@[simp] theorem handDoor_pst (before after : Bool) : (handDoor before after c).pst = c.pst := by
  unfold handDoor; split <;> [skip; split] <;> simp
@[simp] theorem handDoor_ssv (before after : Bool) : (handDoor before after c).ssv = c.ssv := by
  unfold handDoor; split <;> [skip; split] <;> simp
@[simp] theorem handDoor_dor (before after : Bool) : (handDoor before after c).dor = c.dor := by
  unfold handDoor; split <;> [skip; split] <;> simp

@[simp] theorem brkJudge_inReset : (brkJudge c).inReset = c.inReset := rfl
@[simp] theorem brkJudge_now : (brkJudge c).now = c.now := rfl
@[simp] theorem brkJudge_lif : (brkJudge c).lif = c.lif := rfl
@[simp] theorem brkJudge_tlf : (brkJudge c).tlf = c.tlf := rfl
@[simp] theorem brkJudge_odo : (brkJudge c).odo = c.odo := rfl
@[simp] theorem brkJudge_pst : (brkJudge c).pst = c.pst := rfl
@[simp] theorem brkJudge_dor : (brkJudge c).dor = c.dor := rfl
@[simp] theorem brkJudge_vrl : (brkJudge c).vrl = c.vrl := rfl
@[simp] theorem brkJudge_evr : (brkJudge c).evr = c.evr := rfl

@[simp] theorem dorJudge_inReset : (dorJudge c).inReset = c.inReset := by
  simp [dorJudge]
@[simp] theorem dorJudge_now : (dorJudge c).now = c.now := by
  simp [dorJudge]
@[simp] theorem dorJudge_lif : (dorJudge c).lif = c.lif := by
  simp [dorJudge]
@[simp] theorem dorJudge_tlf : (dorJudge c).tlf = c.tlf := by
  simp [dorJudge]
@[simp] theorem dorJudge_odo : (dorJudge c).odo = c.odo := by
  simp [dorJudge]
@[simp] theorem dorJudge_pst : (dorJudge c).pst = c.pst := by
  simp [dorJudge]
@[simp] theorem dorJudge_ssv : (dorJudge c).ssv = c.ssv := by
  simp [dorJudge]

@[simp] theorem settle_inReset : (settle c).inReset = c.inReset := by
  simp [settle]
@[simp] theorem settle_now : (settle c).now = c.now := by
  simp [settle]
@[simp] theorem settle_lif : (settle c).lif = c.lif := by
  simp [settle]
@[simp] theorem settle_tlf : (settle c).tlf = c.tlf := by
  simp [settle]
@[simp] theorem settle_odo : (settle c).odo = c.odo := by
  simp [settle]
@[simp] theorem settle_pst : (settle c).pst = c.pst := by
  simp [settle]

/-! ## Fields inside a block -/

@[simp] theorem WordReception.sampledBy_t1 (rx : WordReception) (n : Nat) : (rx.sampledBy n).t1 = rx.t1 := rfl
@[simp] theorem WordReception.sampledBy_t2 (rx : WordReception) (n : Nat) : (rx.sampledBy n).t2 = rx.t2 := rfl
@[simp] theorem WordReception.sampledBy_slots (rx : WordReception) (n : Nat) :
    (rx.sampledBy n).slots = slotsBefore n := rfl
@[simp] theorem Dor.chiming_leaves (d : Dor) (side : Side) : (d.chiming side).leaves = d.leaves := rfl
@[simp] theorem Dor.chiming_slots (d : Dor) (side : Side) : (d.chiming side).slots = d.slots := rfl
@[simp] theorem Dor.chiming_exchange (d : Dor) (side : Side) : (d.chiming side).exchange = d.exchange := rfl
@[simp] theorem Dor.chiming_blocks (d : Dor) (side : Side) : (d.chiming side).blocks = d.blocks := rfl
@[simp] theorem Dor.chiming_deferred (d : Dor) (side : Side) : (d.chiming side).deferred = d.deferred := rfl

@[simp] theorem ssvCause_record : (ssvCause c).ssv.record = c.ssv.record := rfl
@[simp] theorem ssvCause_restrictions : (ssvCause c).ssv.restrictions = c.ssv.restrictions := rfl
@[simp] theorem ssvCause_overflow : (ssvCause c).ssv.overflow = c.ssv.overflow := rfl
@[simp] theorem ssvCause_saturated : (ssvCause c).ssv.saturated = c.ssv.saturated := rfl
@[simp] theorem ssvCause_running : (ssvCause c).ssv.running = c.ssv.running := rfl
@[simp] theorem ssvCause_waiting : (ssvCause c).ssv.waiting = ⟨true, c.ssv.waiting.update⟩ := rfl

/-! ## Fields of the BRK -/

@[simp] theorem Selection.endTiming_channels (s : Selection) (b : Brk) (time : TestTime) : (s.endTiming b time).channels = b.channels := by
  unfold Selection.endTiming; split <;> rfl
@[simp] theorem abortTest_channels : (abortTest c).brk.channels = c.brk.channels := by
  unfold abortTest; split <;> simp
@[simp] theorem Selection.endTiming_standstillSince (s : Selection) (b : Brk) (time : TestTime) : (s.endTiming b time).standstillSince = b.standstillSince := by
  unfold Selection.endTiming; split <;> rfl
@[simp] theorem abortTest_standstillSince : (abortTest c).brk.standstillSince = c.brk.standstillSince := by
  unfold abortTest; split <;> simp
@[simp] theorem Selection.endTiming_copy (s : Selection) (b : Brk) (time : TestTime) : (s.endTiming b time).copy = b.copy := by
  unfold Selection.endTiming; split <;> rfl
@[simp] theorem abortTest_copy : (abortTest c).brk.copy = c.brk.copy := by
  unfold abortTest; split <;> simp
@[simp] theorem Selection.endTiming_doorsProven (s : Selection) (b : Brk) (time : TestTime) : (s.endTiming b time).doorsProven = b.doorsProven := by
  unfold Selection.endTiming; split <;> rfl
@[simp] theorem abortTest_doorsProven : (abortTest c).brk.doorsProven = c.brk.doorsProven := by
  unfold abortTest; split <;> simp
@[simp] theorem Selection.endTiming_doorHold (s : Selection) (b : Brk) (time : TestTime) : (s.endTiming b time).doorHold = b.doorHold := by
  unfold Selection.endTiming; split <;> rfl
@[simp] theorem Selection.endTiming_intervention (s : Selection) (b : Brk) (time : TestTime) : (s.endTiming b time).intervention = b.intervention := by
  unfold Selection.endTiming; split <;> rfl
@[simp] theorem abortTest_doorHold : (abortTest c).brk.doorHold = c.brk.doorHold := by
  unfold abortTest; split <;> simp
@[simp] theorem abortTest_intervention : (abortTest c).brk.intervention = c.brk.intervention := by
  unfold abortTest; split <;> simp
@[simp] theorem Selection.endTiming_holdPending (s : Selection) (b : Brk) (time : TestTime) : (s.endTiming b time).holdPending = b.holdPending := by
  unfold Selection.endTiming; split <;> rfl
@[simp] theorem abortTest_holdPending : (abortTest c).brk.holdPending = c.brk.holdPending := by
  unfold abortTest; split <;> simp
@[simp] theorem Selection.endTiming_available (s : Selection) (b : Brk) (time : TestTime) : (s.endTiming b time).available = b.available := by
  unfold Selection.endTiming; split <;> rfl
@[simp] theorem abortTest_available : (abortTest c).brk.available = c.brk.available := by
  unfold abortTest; split <;> simp
@[simp] theorem Selection.endTiming_svcValid (s : Selection) (b : Brk) (time : TestTime) : (s.endTiming b time).svcValid = b.svcValid := by
  unfold Selection.endTiming; split <;> rfl
@[simp] theorem abortTest_svcValid : (abortTest c).brk.svcValid = c.brk.svcValid := by
  unfold abortTest; split <;> simp
@[simp] theorem Selection.endTiming_svcLevel (s : Selection) (b : Brk) (time : TestTime) : (s.endTiming b time).svcLevel = b.svcLevel := by
  unfold Selection.endTiming; split <;> rfl
@[simp] theorem abortTest_svcLevel : (abortTest c).brk.svcLevel = c.brk.svcLevel := by
  unfold abortTest; split <;> simp
@[simp] theorem Selection.endTiming_tractionOk (s : Selection) (b : Brk) (time : TestTime) : (s.endTiming b time).tractionOk = b.tractionOk := by
  unfold Selection.endTiming; split <;> rfl
@[simp] theorem abortTest_tractionOk : (abortTest c).brk.tractionOk = c.brk.tractionOk := by
  unfold abortTest; split <;> simp
@[simp] theorem Selection.endTiming_faultStop (s : Selection) (b : Brk) (time : TestTime) : (s.endTiming b time).faultStop = b.faultStop := by
  unfold Selection.endTiming; split <;> rfl
@[simp] theorem abortTest_faultStop : (abortTest c).brk.faultStop = c.brk.faultStop := by
  unfold abortTest; split <;> simp
@[simp] theorem Selection.endTiming_faultRecord (s : Selection) (b : Brk) (time : TestTime) : (s.endTiming b time).faultRecord = b.faultRecord := by
  unfold Selection.endTiming; split <;> rfl
@[simp] theorem abortTest_faultRecord : (abortTest c).brk.faultRecord = c.brk.faultRecord := by
  unfold abortTest; split <;> simp
@[simp] theorem Selection.endTiming_watch (s : Selection) (b : Brk) (time : TestTime) : (s.endTiming b time).watch = b.watch := by
  unfold Selection.endTiming; split <;> rfl
@[simp] theorem abortTest_watch : (abortTest c).brk.watch = c.brk.watch := by
  unfold abortTest; split <;> simp
@[simp] theorem Selection.endTiming_broadcastTimer (s : Selection) (b : Brk) (time : TestTime) : (s.endTiming b time).broadcastTimer = b.broadcastTimer := by
  unfold Selection.endTiming; split <;> rfl
@[simp] theorem abortTest_broadcastTimer : (abortTest c).brk.broadcastTimer = c.brk.broadcastTimer := by
  unfold abortTest; split <;> simp
@[simp] theorem Selection.endTiming_causes (s : Selection) (b : Brk) (time : TestTime) : (s.endTiming b time).causes = b.causes := by
  unfold Selection.endTiming; split <;> rfl
@[simp] theorem abortTest_causes : (abortTest c).brk.causes = c.brk.causes := by
  unfold abortTest; split <;> simp
@[simp] theorem Selection.endTiming_conditions (s : Selection) (b : Brk) (time : TestTime) : (s.endTiming b time).conditions = b.conditions := by
  unfold Selection.endTiming; split <;> rfl
@[simp] theorem abortTest_conditions : (abortTest c).brk.conditions = c.brk.conditions := by
  unfold abortTest; split <;> simp
@[simp] theorem abortTest_test : (abortTest c).brk.test = .off := by
  unfold abortTest; split <;> first | assumption | rfl

@[simp] theorem addCause_channels (cause : Cause) (present : Bool) : (addCause cause present c).brk.channels = c.brk.channels := by
  unfold addCause; split <;> [rfl; (dsimp only; split <;> simp)]
@[simp] theorem addCause_standstillSince (cause : Cause) (present : Bool) : (addCause cause present c).brk.standstillSince = c.brk.standstillSince := by
  unfold addCause; split <;> [rfl; (dsimp only; split <;> simp)]
@[simp] theorem addCause_copy (cause : Cause) (present : Bool) : (addCause cause present c).brk.copy = c.brk.copy := by
  unfold addCause; split <;> [rfl; (dsimp only; split <;> simp)]
@[simp] theorem addCause_doorsProven (cause : Cause) (present : Bool) : (addCause cause present c).brk.doorsProven = c.brk.doorsProven := by
  unfold addCause; split <;> [rfl; (dsimp only; split <;> simp)]
@[simp] theorem addCause_doorHold (cause : Cause) (present : Bool) : (addCause cause present c).brk.doorHold = c.brk.doorHold := by
  unfold addCause; split <;> [rfl; (dsimp only; split <;> simp)]
@[simp] theorem addCause_intervention (cause : Cause) (present : Bool) : (addCause cause present c).brk.intervention = c.brk.intervention := by
  unfold addCause; split <;> [rfl; (dsimp only; split <;> simp)]
@[simp] theorem addCause_holdPending (cause : Cause) (present : Bool) : (addCause cause present c).brk.holdPending = c.brk.holdPending := by
  unfold addCause; split <;> [rfl; (dsimp only; split <;> simp)]
@[simp] theorem addCause_available (cause : Cause) (present : Bool) : (addCause cause present c).brk.available = c.brk.available := by
  unfold addCause; split <;> [rfl; (dsimp only; split <;> simp)]
@[simp] theorem addCause_svcValid (cause : Cause) (present : Bool) : (addCause cause present c).brk.svcValid = c.brk.svcValid := by
  unfold addCause; split <;> [rfl; (dsimp only; split <;> simp)]
@[simp] theorem addCause_svcLevel (cause : Cause) (present : Bool) : (addCause cause present c).brk.svcLevel = c.brk.svcLevel := by
  unfold addCause; split <;> [rfl; (dsimp only; split <;> simp)]
@[simp] theorem addCause_tractionOk (cause : Cause) (present : Bool) : (addCause cause present c).brk.tractionOk = c.brk.tractionOk := by
  unfold addCause; split <;> [rfl; (dsimp only; split <;> simp)]
@[simp] theorem addCause_faultStop (cause : Cause) (present : Bool) : (addCause cause present c).brk.faultStop = c.brk.faultStop := by
  unfold addCause; split <;> [rfl; (dsimp only; split <;> simp)]
@[simp] theorem addCause_faultRecord (cause : Cause) (present : Bool) : (addCause cause present c).brk.faultRecord = c.brk.faultRecord := by
  unfold addCause; split <;> [rfl; (dsimp only; split <;> simp)]
@[simp] theorem addCause_watch (cause : Cause) (present : Bool) : (addCause cause present c).brk.watch = c.brk.watch := by
  unfold addCause; split <;> [rfl; (dsimp only; split <;> simp)]
@[simp] theorem addCause_broadcastTimer (cause : Cause) (present : Bool) : (addCause cause present c).brk.broadcastTimer = c.brk.broadcastTimer := by
  unfold addCause; split <;> [rfl; (dsimp only; split <;> simp)]
@[simp] theorem addCause_conditions (cause : Cause) (present : Bool) : (addCause cause present c).brk.conditions = c.brk.conditions := by
  unfold addCause; split <;> [rfl; (dsimp only; split <;> simp)]
@[simp] theorem causeStart_channels (cause : Cause) : (causeStart cause c).brk.channels = c.brk.channels := by simp [causeStart]
@[simp] theorem causeEnd_channels (cause : Cause) : (causeEnd cause c).brk.channels = c.brk.channels := rfl
@[simp] theorem causeChange_channels (cause : Cause) (before after : Bool) :
    (causeChange cause before after c).brk.channels = c.brk.channels := by
  unfold causeChange; split <;> [skip; split] <;> simp
@[simp] theorem handDoor_channels (before after : Bool) : (handDoor before after c).brk.channels = c.brk.channels := by
  unfold handDoor; split <;> [skip; split] <;> simp
@[simp] theorem causeStart_standstillSince (cause : Cause) : (causeStart cause c).brk.standstillSince = c.brk.standstillSince := by simp [causeStart]
@[simp] theorem causeEnd_standstillSince (cause : Cause) : (causeEnd cause c).brk.standstillSince = c.brk.standstillSince := rfl
@[simp] theorem causeChange_standstillSince (cause : Cause) (before after : Bool) :
    (causeChange cause before after c).brk.standstillSince = c.brk.standstillSince := by
  unfold causeChange; split <;> [skip; split] <;> simp
@[simp] theorem handDoor_standstillSince (before after : Bool) : (handDoor before after c).brk.standstillSince = c.brk.standstillSince := by
  unfold handDoor; split <;> [skip; split] <;> simp
@[simp] theorem causeStart_copy (cause : Cause) : (causeStart cause c).brk.copy = c.brk.copy := by simp [causeStart]
@[simp] theorem causeEnd_copy (cause : Cause) : (causeEnd cause c).brk.copy = c.brk.copy := rfl
@[simp] theorem causeChange_copy (cause : Cause) (before after : Bool) :
    (causeChange cause before after c).brk.copy = c.brk.copy := by
  unfold causeChange; split <;> [skip; split] <;> simp
@[simp] theorem handDoor_copy (before after : Bool) : (handDoor before after c).brk.copy = c.brk.copy := by
  unfold handDoor; split <;> [skip; split] <;> simp
@[simp] theorem causeStart_doorsProven (cause : Cause) : (causeStart cause c).brk.doorsProven = c.brk.doorsProven := by simp [causeStart]
@[simp] theorem causeEnd_doorsProven (cause : Cause) : (causeEnd cause c).brk.doorsProven = c.brk.doorsProven := rfl
@[simp] theorem causeChange_doorsProven (cause : Cause) (before after : Bool) :
    (causeChange cause before after c).brk.doorsProven = c.brk.doorsProven := by
  unfold causeChange; split <;> [skip; split] <;> simp
@[simp] theorem handDoor_doorsProven (before after : Bool) : (handDoor before after c).brk.doorsProven = c.brk.doorsProven := by
  unfold handDoor; split <;> [skip; split] <;> simp
@[simp] theorem causeStart_doorHold (cause : Cause) : (causeStart cause c).brk.doorHold = c.brk.doorHold := by simp [causeStart]
@[simp] theorem causeStart_intervention (cause : Cause) : (causeStart cause c).brk.intervention = c.brk.intervention := by simp [causeStart]
@[simp] theorem causeEnd_doorHold (cause : Cause) : (causeEnd cause c).brk.doorHold = c.brk.doorHold := rfl
@[simp] theorem causeEnd_intervention (cause : Cause) : (causeEnd cause c).brk.intervention = c.brk.intervention := rfl
@[simp] theorem causeChange_doorHold (cause : Cause) (before after : Bool) :
    (causeChange cause before after c).brk.doorHold = c.brk.doorHold := by
  unfold causeChange; split <;> [skip; split] <;> simp
@[simp] theorem causeChange_intervention (cause : Cause) (before after : Bool) :
    (causeChange cause before after c).brk.intervention = c.brk.intervention := by
  unfold causeChange; split <;> [skip; split] <;> simp
@[simp] theorem handDoor_doorHold (before after : Bool) : (handDoor before after c).brk.doorHold = c.brk.doorHold := by
  unfold handDoor; split <;> [skip; split] <;> simp
@[simp] theorem handDoor_intervention (before after : Bool) : (handDoor before after c).brk.intervention = c.brk.intervention := by
  unfold handDoor; split <;> [skip; split] <;> simp
@[simp] theorem causeStart_holdPending (cause : Cause) : (causeStart cause c).brk.holdPending = c.brk.holdPending := by simp [causeStart]
@[simp] theorem causeEnd_holdPending (cause : Cause) : (causeEnd cause c).brk.holdPending = c.brk.holdPending := rfl
@[simp] theorem causeChange_holdPending (cause : Cause) (before after : Bool) :
    (causeChange cause before after c).brk.holdPending = c.brk.holdPending := by
  unfold causeChange; split <;> [skip; split] <;> simp
@[simp] theorem handDoor_holdPending (before after : Bool) : (handDoor before after c).brk.holdPending = c.brk.holdPending := by
  unfold handDoor; split <;> [skip; split] <;> simp
@[simp] theorem causeStart_available (cause : Cause) : (causeStart cause c).brk.available = c.brk.available := by simp [causeStart]
@[simp] theorem causeEnd_available (cause : Cause) : (causeEnd cause c).brk.available = c.brk.available := rfl
@[simp] theorem causeChange_available (cause : Cause) (before after : Bool) :
    (causeChange cause before after c).brk.available = c.brk.available := by
  unfold causeChange; split <;> [skip; split] <;> simp
@[simp] theorem handDoor_available (before after : Bool) : (handDoor before after c).brk.available = c.brk.available := by
  unfold handDoor; split <;> [skip; split] <;> simp
@[simp] theorem causeStart_svcValid (cause : Cause) : (causeStart cause c).brk.svcValid = c.brk.svcValid := by simp [causeStart]
@[simp] theorem causeEnd_svcValid (cause : Cause) : (causeEnd cause c).brk.svcValid = c.brk.svcValid := rfl
@[simp] theorem causeChange_svcValid (cause : Cause) (before after : Bool) :
    (causeChange cause before after c).brk.svcValid = c.brk.svcValid := by
  unfold causeChange; split <;> [skip; split] <;> simp
@[simp] theorem handDoor_svcValid (before after : Bool) : (handDoor before after c).brk.svcValid = c.brk.svcValid := by
  unfold handDoor; split <;> [skip; split] <;> simp
@[simp] theorem causeStart_svcLevel (cause : Cause) : (causeStart cause c).brk.svcLevel = c.brk.svcLevel := by simp [causeStart]
@[simp] theorem causeEnd_svcLevel (cause : Cause) : (causeEnd cause c).brk.svcLevel = c.brk.svcLevel := rfl
@[simp] theorem causeChange_svcLevel (cause : Cause) (before after : Bool) :
    (causeChange cause before after c).brk.svcLevel = c.brk.svcLevel := by
  unfold causeChange; split <;> [skip; split] <;> simp
@[simp] theorem handDoor_svcLevel (before after : Bool) : (handDoor before after c).brk.svcLevel = c.brk.svcLevel := by
  unfold handDoor; split <;> [skip; split] <;> simp
@[simp] theorem causeStart_tractionOk (cause : Cause) : (causeStart cause c).brk.tractionOk = c.brk.tractionOk := by simp [causeStart]
@[simp] theorem causeEnd_tractionOk (cause : Cause) : (causeEnd cause c).brk.tractionOk = c.brk.tractionOk := rfl
@[simp] theorem causeChange_tractionOk (cause : Cause) (before after : Bool) :
    (causeChange cause before after c).brk.tractionOk = c.brk.tractionOk := by
  unfold causeChange; split <;> [skip; split] <;> simp
@[simp] theorem handDoor_tractionOk (before after : Bool) : (handDoor before after c).brk.tractionOk = c.brk.tractionOk := by
  unfold handDoor; split <;> [skip; split] <;> simp
@[simp] theorem causeStart_faultStop (cause : Cause) : (causeStart cause c).brk.faultStop = c.brk.faultStop := by simp [causeStart]
@[simp] theorem causeEnd_faultStop (cause : Cause) : (causeEnd cause c).brk.faultStop = c.brk.faultStop := rfl
@[simp] theorem causeChange_faultStop (cause : Cause) (before after : Bool) :
    (causeChange cause before after c).brk.faultStop = c.brk.faultStop := by
  unfold causeChange; split <;> [skip; split] <;> simp
@[simp] theorem handDoor_faultStop (before after : Bool) : (handDoor before after c).brk.faultStop = c.brk.faultStop := by
  unfold handDoor; split <;> [skip; split] <;> simp
@[simp] theorem causeStart_faultRecord (cause : Cause) : (causeStart cause c).brk.faultRecord = c.brk.faultRecord := by simp [causeStart]
@[simp] theorem causeEnd_faultRecord (cause : Cause) : (causeEnd cause c).brk.faultRecord = c.brk.faultRecord := rfl
@[simp] theorem causeChange_faultRecord (cause : Cause) (before after : Bool) :
    (causeChange cause before after c).brk.faultRecord = c.brk.faultRecord := by
  unfold causeChange; split <;> [skip; split] <;> simp
@[simp] theorem handDoor_faultRecord (before after : Bool) : (handDoor before after c).brk.faultRecord = c.brk.faultRecord := by
  unfold handDoor; split <;> [skip; split] <;> simp
@[simp] theorem causeStart_watch (cause : Cause) : (causeStart cause c).brk.watch = c.brk.watch := by simp [causeStart]
@[simp] theorem causeEnd_watch (cause : Cause) : (causeEnd cause c).brk.watch = c.brk.watch := rfl
@[simp] theorem causeChange_watch (cause : Cause) (before after : Bool) :
    (causeChange cause before after c).brk.watch = c.brk.watch := by
  unfold causeChange; split <;> [skip; split] <;> simp
@[simp] theorem handDoor_watch (before after : Bool) : (handDoor before after c).brk.watch = c.brk.watch := by
  unfold handDoor; split <;> [skip; split] <;> simp
@[simp] theorem causeStart_broadcastTimer (cause : Cause) : (causeStart cause c).brk.broadcastTimer = c.brk.broadcastTimer := by simp [causeStart]
@[simp] theorem causeEnd_broadcastTimer (cause : Cause) : (causeEnd cause c).brk.broadcastTimer = c.brk.broadcastTimer := rfl
@[simp] theorem causeChange_broadcastTimer (cause : Cause) (before after : Bool) :
    (causeChange cause before after c).brk.broadcastTimer = c.brk.broadcastTimer := by
  unfold causeChange; split <;> [skip; split] <;> simp
@[simp] theorem handDoor_broadcastTimer (before after : Bool) : (handDoor before after c).brk.broadcastTimer = c.brk.broadcastTimer := by
  unfold handDoor; split <;> [skip; split] <;> simp

end Sys2Proof.Machine
end

