-- ==== Sys2Proof/Laws/Settle.lean ====
section
/-! SUPPORT. What `settle` decides: the door judgement and the brake judgement each decide from what they leave as it was, so
that a settled part is one where some equations hold, and a command that leaves those inputs alone leaves it settled. -/

namespace Sys2Proof.Machine

/-! ## Getting and setting -/

@[simp] theorem PerCog.get_set_self {α : Type} (q : PerCog α) (ch : CogChannel) (x : α) : (q.set ch x).get ch = x := by
  cases ch <;> rfl
@[simp] theorem PerCause.get_set_self {α : Type} (q : PerCause α) (a : Cause) (x : α) : (q.set a x).get a = x := by
  cases a <;> rfl
theorem PerCause.get_set_ne {α : Type} (q : PerCause α) {a b : Cause} (x : α) (h : b ≠ a) : (q.set a x).get b = q.get b := by
  cases a <;> cases b <;> first | rfl | exact absurd rfl h
@[simp] theorem PerCause.set_get {α : Type} (q : PerCause α) (a : Cause) : q.set a (q.get a) = q := by cases a <;> rfl
@[simp] theorem PerCog.set_get {α : Type} (q : PerCog α) (ch : CogChannel) : q.set ch (q.get ch) = q := by cases ch <;> rfl
@[simp] theorem PerLeaf.set_get {α : Type} (q : PerLeaf α) (l : Leaf) : q.set l (q.get l) = q := by cases l <;> rfl
@[simp] theorem PerLeaf.get_set_self {α : Type} (q : PerLeaf α) (l : Leaf) (x : α) : (q.set l x).get l = x := by
  cases l <;> rfl
@[simp] theorem PerLoop.get_set_self {α : Type} (q : PerLoop α) (ch : LoopChannel) (x : α) : (q.set ch x).get ch = x := by
  cases ch <;> rfl
@[simp] theorem PerLoop.set_get {α : Type} (q : PerLoop α) (ch : LoopChannel) : q.set ch (q.get ch) = q := by cases ch <;> rfl
@[simp] theorem PerPort.get_set_self {α : Type} (q : PerPort α) (p : Port) (x : α) : (q.set p x).get p = x := by
  cases p <;> rfl

/-! ## The door judgement -/

/-- What the door judgement leaves alone (R147, R148): the equations of a part it changes nothing of. -/
structure DoorsSettled (c : Car) : Prop where
  judged : c.dor.judge c.odo.fused = c.dor
  handedProven : c.brk.doorsProven = c.dor.proven
  handedHold : c.brk.doorHold = c.dor.hold
  handedCondition : c.dor.condition = true → c.brk.conditions.door = true
  cause : c.dor.condition = true → ∃ r, c.brk.causes.door = some r ∧ r.present = true

/-- What the brake judgement leaves alone (R101 to R108). -/
structure BrakesSettled (c : Car) : Prop where
  channels : ∀ ch, judgeChannel c ch = c.brk.channels.get ch
  holdPending : c.brk.holdPending = (c.brk.test.isSelected && holdPlaced c)
  available : c.brk.available = availableCount c.brk.channels
  svcValid : c.brk.svcValid = true
  svcLevel : c.brk.svcLevel = serviceLevel c
  tractionOk : c.brk.tractionOk = tractionPermitted c c.brk.channels

theorem brkJudge_eq_self_iff (c : Car) : brkJudge c = c ↔ BrakesSettled c := by
  constructor
  · intro h
    have hb : (brkJudge c).brk = c.brk := by rw [h]
    have hch : (brkJudge c).brk.channels = c.brk.channels := by rw [hb]
    simp only [brkJudge] at hb hch
    rw [hch] at hb
    refine ⟨fun ch => ?_, ?_, ?_, ?_, ?_, ?_⟩
    · rw [← hch]; cases ch <;> rfl
    · rw [← hb]
    · rw [← hb]
    · rw [← hb]
    · rw [← hb]
    · exact (congrArg Brk.tractionOk hb).symm
  · intro h
    have hch : (⟨judgeChannel c .cbA, judgeChannel c .cbB⟩ : PerCog CogRecord) = c.brk.channels := by
      rw [h.channels, h.channels]; rfl
    simp only [brkJudge, hch, ← h.holdPending, ← h.available, ← h.svcLevel, ← h.tractionOk, ← h.svcValid, if_true]

theorem causeStart_of_present {c : Car} {cause : Cause} {r : CauseRecord} (hc : c.brk.conditions.get cause = true)
    (hr : c.brk.causes.get cause = some r) (hp : r.present = true) : causeStart cause c = c := by
  have h1 : c.brk.conditions.set cause true = c.brk.conditions := by rw [← hc]; simp
  have h2 : c.brk.causes.set cause (some { r with present := true }) = c.brk.causes := by
    have : ({ r with present := true } : CauseRecord) = r := by rw [← hp]
    rw [this, ← hr]; simp
  simp [causeStart, addCause, h1, hr, hp]
  have : c.brk.causes.set cause (some { stamp := r.stamp, present := true }) = c.brk.causes := h2
  rw [this]

theorem dorJudge_eq_self_of {c : Car} (h : DoorsSettled c) : dorJudge c = c := by
  have hb : ({ c.brk with doorsProven := c.dor.proven, doorHold := c.dor.hold } : Brk) = c.brk := by
    rw [← h.handedHold, ← h.handedProven]
  simp only [dorJudge, h.judged, hb, levelChange, if_true, handDoor]
  cases hcond : c.dor.condition
  · simp
  · obtain ⟨r, hr, hp⟩ := h.cause hcond
    simpa using causeStart_of_present (cause := .door) (h.handedCondition hcond) hr hp

/-! ## Judging twice -/

theorem Dor.judge_openBlocks (fused : Nat) (d : Dor) : (d.judge fused).openBlocks = d.openBlocks := by
  have key : ∀ (f : Leaf → Bool) (l : List CloseBlock),
      ((((l.map fun b => { b with leaves := b.leaves.filter f }).filter fun b => !b.leaves.isEmpty).map
        fun b => { b with leaves := b.leaves.filter f }).filter fun b => !b.leaves.isEmpty) =
      (l.map fun b => { b with leaves := b.leaves.filter f }).filter fun b => !b.leaves.isEmpty := by
    intro f l
    induction l with
    | nil => rfl
    | cons b l ih =>
      by_cases hb : (b.leaves.filter f).isEmpty
      · simp [hb] at ih ⊢; exact ih
      · simp [hb, List.filter_filter] at ih ⊢; exact ih
  exact key d.inBlock d.blocks

theorem Dor.passed_release (d : Dor) (side : Side) : (d.passed side).release = (d.sides.get side).release := by
  simp only [Dor.passed]; split <;> rfl

theorem Dor.judge_passed (fused : Nat) (d : Dor) (side : Side) : (d.judge fused).passed side = d.passed side := by
  have hs : (d.judge fused).sides.get side = d.passed side := by cases side <;> rfl
  have hc : (d.judge fused).chimed side = d.chimed side := rfl
  by_cases h : (d.sides.get side).step = .chiming ∧ d.chimed side = true
  · have hp : d.passed side = { d.sides.get side with step := .warning, warning := some 0 } := by simp only [Dor.passed, h]; rfl
    simp only [Dor.passed] at hs ⊢
    rw [hs]; simp [h.1, h.2]
  · have hp : d.passed side = d.sides.get side := by simp only [Dor.passed, h]; rfl
    rw [hp] at hs ⊢
    simp only [Dor.passed, hs, hc, h]
    rfl

theorem Dor.judge_anyGranted (fused : Nat) (d : Dor) : (d.judge fused).anyGranted = d.anyGranted := by
  show ((d.passed .left).release.isSome || (d.passed .right).release.isSome) = _
  rw [Dor.passed_release, Dor.passed_release]; rfl

theorem Dor.judge_judge (fused : Nat) (d : Dor) : (d.judge fused).judge fused = d.judge fused := by
  show { (d.judge fused) with
    blocks := (d.judge fused).openBlocks
    sides := ⟨(d.judge fused).passed .left, (d.judge fused).passed .right⟩
    proven := d.allSafe
    hold := (d.judge fused).anyGranted || !d.allSafe
    condition := !d.allSafe && decide (25 < fused) } = d.judge fused
  rw [Dor.judge_openBlocks, Dor.judge_passed, Dor.judge_passed, Dor.judge_anyGranted]
  rfl

/-! ## What each judgement leaves -/

theorem PerCause.set_self {α : Type} {q : PerCause α} {a : Cause} {x : α} (h : q.get a = x) : q.set a x = q := by
  rw [← h]; simp

theorem causeStart_conditions (cause : Cause) (c : Car) :
    (causeStart cause c).brk.conditions = c.brk.conditions.set cause true := by simp [causeStart]

/-- A cause added leaves its record in the set, with its flag set when its condition is present. -/
theorem addCause_record (cause : Cause) (present : Bool) (c : Car) :
    ∃ r, (addCause cause present c).brk.causes.get cause = some r ∧ (present = true → r.present = true) := by
  unfold addCause
  split
  · exact ⟨_, by simp; rfl, fun h => by simp [h]⟩
  · dsimp only
    split <;> exact ⟨_, by simp; rfl, fun h => h⟩

theorem causeStart_record (cause : Cause) (c : Car) :
    ∃ r, (causeStart cause c).brk.causes.get cause = some r ∧ r.present = true := by
  obtain ⟨r, h, hp⟩ := addCause_record cause true { c with brk := { c.brk with conditions := c.brk.conditions.set cause true } }
  exact ⟨r, h, hp rfl⟩

theorem dorJudge_dor (c : Car) : (dorJudge c).dor = c.dor.judge c.odo.fused := by simp [dorJudge]
theorem dorJudge_doorsProven (c : Car) : (dorJudge c).brk.doorsProven = (c.dor.judge c.odo.fused).proven := by simp [dorJudge]
theorem dorJudge_doorHold (c : Car) : (dorJudge c).brk.doorHold = (c.dor.judge c.odo.fused).hold := by simp [dorJudge]

theorem dorJudge_settled (c : Car) : DoorsSettled (dorJudge c) := by
  refine ⟨?_, ?_, ?_, ?_, ?_⟩
  · rw [dorJudge_dor, dorJudge_odo, Dor.judge_judge]
  · rw [dorJudge_dor, dorJudge_doorsProven]
  · rw [dorJudge_dor, dorJudge_doorHold]
  · intro h
    rw [dorJudge_dor] at h
    simp only [dorJudge, handDoor, h, if_true, causeStart_conditions]
    rfl
  · intro h
    rw [dorJudge_dor] at h
    simp only [dorJudge, handDoor, h, if_true]
    exact causeStart_record .door _

theorem CogRecord.settleReading_holder (r : CogRecord) : r.settleReading.holder = r.holder := by
  unfold CogRecord.settleReading; split <;> rfl

/-! ### The driven output and its readback -/

section Drive
variable (r : CogRecord) (value : Bool)

@[simp] theorem CogRecord.drive_state : (r.drive value).state = r.state := by unfold CogRecord.drive; split <;> rfl
@[simp] theorem CogRecord.drive_command : (r.drive value).command = r.command := by unfold CogRecord.drive; split <;> rfl
@[simp] theorem CogRecord.drive_holder : (r.drive value).holder = r.holder := by unfold CogRecord.drive; split <;> rfl
@[simp] theorem CogRecord.drive_energised : (r.drive value).energised = value := by unfold CogRecord.drive; split <;> rfl
@[simp] theorem CogRecord.drive_reading : (r.drive value).reading = r.reading := by unfold CogRecord.drive; split <;> rfl
@[simp] theorem CogRecord.drive_transit : (r.drive value).transit = r.transit := by unfold CogRecord.drive; split <;> rfl
@[simp] theorem CogRecord.drive_departure : (r.drive value).departure = r.departure := by unfold CogRecord.drive; split <;> rfl
@[simp] theorem CogRecord.drive_readsBack : (r.drive value).readsBack = r.readsBack := by unfold CogRecord.drive; split <;> rfl
@[simp] theorem CogRecord.drive_reason : (r.drive value).reason = r.reason := by unfold CogRecord.drive; split <;> rfl
@[simp] theorem CogRecord.drive_drives (test : Option BrakeCommand) : (r.drive value).drives test = r.drives test := by
  simp [CogRecord.drives]

/-- The readback timer and the reported flag after the comparison of R100. -/
theorem CogRecord.drive_readback :
    (r.drive value).readback = (if r.readsBack = value then none else some (r.readback.getD 0)) ∧
    (r.drive value).reported = (if r.readsBack = value then false else r.reported) := by
  unfold CogRecord.drive; split <;> exact ⟨rfl, rfl⟩

/-- A value driven again changes nothing (R100). -/
@[simp] theorem CogRecord.drive_drive : (r.drive value).drive value = r.drive value := by
  by_cases h : r.readsBack = value <;> simp [CogRecord.drive, h]

end Drive

/-- A channel that has taken a command takes it again without a change, whatever its reading (R96, R99). -/
theorem CogRecord.takeCommand_again (r : CogRecord) (holder : Holder) (cmd : BrakeCommand) (value : Bool) :
    ((r.takeCommand holder cmd).drive value).takeCommand holder cmd = (r.takeCommand holder cmd).drive value := by
  obtain ⟨state, command, h, en, reading, tr, de, pin, rb, rep, reason⟩ := r
  unfold CogRecord.drive
  cases cmd <;> cases state <;> cases reading <;> split <;> rfl

theorem CogRecord.takeCommand_fault (r : CogRecord) (holder : Holder) (cmd : BrakeCommand) :
    ((r.takeCommand holder cmd).state = .fault) ↔ (r.state = .fault) := by
  obtain ⟨state, command, h, en, reading, tr, de, pin, rb, rep, reason⟩ := r
  cases cmd <;> cases state <;> cases reading <;> simp [CogRecord.takeCommand, CogRecord.settleReading]

theorem brkJudge_channel (c : Car) (ch : CogChannel) : (brkJudge c).brk.channels.get ch = judgeChannel c ch := by
  cases ch <;> rfl

theorem judgeChannel_state_fault (c : Car) (ch : CogChannel) :
    ((judgeChannel c ch).state == .fault) = ((c.brk.channels.get ch).state == .fault) := by
  rw [Bool.eq_iff_iff]; simp only [beq_iff_eq, judgeChannel, CogRecord.drive_state]
  exact CogRecord.takeCommand_fault _ _ _

theorem brkJudge_record (c : Car) : (brkJudge c).ssv.record = c.ssv.record := by
  simp only [brkJudge]; split <;> rfl

theorem brkJudge_arbitrate (c : Car) (ch : CogChannel) : arbitrate (brkJudge c) ch = arbitrate c ch := by
  have hh : holdPlaced (brkJudge c) = holdPlaced c := by simp only [holdPlaced, brkJudge_record]; rfl
  have hr : releasePresent (brkJudge c).brk ch = releasePresent c.brk ch := by
    simp only [releasePresent, brkJudge_channel, judgeChannel_state_fault]; rfl
  simp only [arbitrate, hh, hr]
  rfl

theorem brkJudge_settled (c : Car) : BrakesSettled (brkJudge c) := by
  refine ⟨fun ch => ?_, ?_, rfl, rfl, ?_, ?_⟩
  · rw [brkJudge_channel]
    have ha := brkJudge_arbitrate c ch
    have ht : (brkJudge c).brk.test = c.brk.test := rfl
    simp only [judgeChannel, ha, ht, brkJudge_channel, CogRecord.takeCommand_again, CogRecord.drive_drives, CogRecord.drive_drive]
  · show _ = (c.brk.test.isSelected && holdPlaced (brkJudge c))
    simp only [holdPlaced, brkJudge_record]; rfl
  · show serviceLevel c = serviceLevel (brkJudge c)
    rfl
  · show tractionPermitted c _ = tractionPermitted (brkJudge c) _
    rfl

/-- What a settled part and a command's effect on it turn on: a part with the same doors and brakes, the same supervision
hold and the same fused speed is settled too. -/
theorem DoorsSettled.transfer {c d : Car} (h : DoorsSettled c) (hd : d.dor = c.dor) (hb : d.brk = c.brk)
    (hf : d.odo.fused = c.odo.fused) : DoorsSettled d := by
  obtain ⟨h1, h2, h3, h4, h5⟩ := h
  exact ⟨by rw [hd, hf, h1], by rw [hb, hd, h2], by rw [hb, hd, h3], by rw [hb, hd]; exact h4, by rw [hb, hd]; exact h5⟩

theorem BrakesSettled.transfer {c d : Car} (h : BrakesSettled c) (hb : d.brk = c.brk)
    (hr : d.ssv.record.hold = c.ssv.record.hold) : BrakesSettled d := by
  have hh : holdPlaced d = holdPlaced c := by simp only [holdPlaced, hr, hb]
  have ha : ∀ ch, arbitrate d ch = arbitrate c ch := fun ch => by simp only [arbitrate, hh, hb]
  obtain ⟨h1, h2, h3, h4, h5, h6⟩ := h
  refine ⟨fun ch => ?_, ?_, ?_, ?_, ?_, ?_⟩
  · rw [hb, ← h1 ch]; simp only [judgeChannel, ha, hb]
  · rw [hb, hh, h2]
  · rw [hb, h3]
  · rw [hb, h4]
  · rw [hb, h5]; simp only [serviceLevel, hb]
  · rw [hb, h6]; simp only [tractionPermitted, hb]

theorem settle_eq_self_of {c : Car} (hd : DoorsSettled c) (hb : BrakesSettled c) : settle c = c := by
  rw [settle, dorJudge_eq_self_of hd, (brkJudge_eq_self_iff c).2 hb]

theorem settle_doorsSettled (c : Car) : DoorsSettled (settle c) := by
  obtain ⟨h1, h2, h3, h4, h5⟩ := dorJudge_settled c
  exact ⟨h1, h2, h3, h4, h5⟩

theorem settle_brakesSettled (c : Car) : BrakesSettled (settle c) := brkJudge_settled _

/-- A part is settled exactly when both judgements change nothing. -/
theorem settle_eq_self_iff (c : Car) : settle c = c ↔ DoorsSettled c ∧ BrakesSettled c :=
  ⟨fun h => h ▸ ⟨settle_doorsSettled c, settle_brakesSettled c⟩, fun h => settle_eq_self_of h.1 h.2⟩

@[simp] theorem settle_settle (c : Car) : settle (settle c) = settle c :=
  settle_eq_self_of (settle_doorsSettled c) (settle_brakesSettled c)

/-- A settled part stays settled under a change that leaves alone the doors, the brakes, the hold and the fused speed. -/
theorem settle_transfer {c d : Car} (h : settle c = c) (hd : d.dor = c.dor) (hb : d.brk = c.brk)
    (hf : d.odo.fused = c.odo.fused) (hr : d.ssv.record.hold = c.ssv.record.hold) : settle d = d :=
  have hs := (settle_eq_self_iff c).1 h
  settle_eq_self_of (hs.1.transfer hd hb hf) (hs.2.transfer hb hr)

end Sys2Proof.Machine
end

