-- ==== Sys2Proof/Laws/Acceptance.lean ====
section
/-! SUPPORT. What a telegram command does, said once: every telegram command runs `take`, a telegram that reaches its block is
delivered with its reply places reserved, and an answer placed from them is the answer of `replied`. -/

namespace Sys2Proof.Machine

/-- Every telegram command hands its telegram to telegram acceptance and settles the part. -/
theorem exec_of_telegram {i : Instr} {via : Via} {t : Telegram} (h : i.telegram = some (via, t)) (s : State) :
    exec i s = .next (s.run (take via t)) := by
  cases i <;> simp only [Instr.telegram, Option.some.injEq, Prod.mk.injEq, reduceCtorEq] at h <;>
    (obtain ⟨rfl, rfl⟩ := h; rfl)

/-- A command on a part that is out of reset. -/
theorem State.run_of_ready {s : State} (h : s.car.inReset = false) (f : Car → Car) :
    s.run f = { s with car := settle (f s.car) } := by simp [State.run, h]

/-- The part with some reply places reserved. -/
def Car.reserving (n : Nat) (c : Car) : Car := { c with lif := { c.lif with reservedReplies := n } }

/-- An answer placed from reserved places is the answer placed, whatever the number reserved. -/
theorem answer_reserving (via : Via) (kind : Nat) (result : Result) (parts : List ReplyData) (n : Nat) {c : Car}
    (h : c.lif.reservedReplies = 0) (hb : c.lif.reservedBatch = 0) (ha : via.addressing = .car) :
    answer via kind result parts (c.reserving n) = replied via kind result parts c := by
  have hl : ({ c.lif with reservedReplies := 0, reservedBatch := 0 } : Lif) = c.lif := by
    generalize c.lif = l at h hb
    cases l
    simp only at h hb
    rw [h, hb]
  simp [answer, replied, Lif.answered, ha, Car.reserving, hl]

theorem answer_train (via : Via) (kind : Nat) (result : Result) (parts : List ReplyData) (c : Car)
    (ha : via.addressing ≠ .car) : answer via kind result parts c = replied via kind result parts c := by
  simp [answer, replied, Lif.answered, ha]

theorem knownKind_telegramKind (t : Telegram) : knownKind (telegramKind t) = true := by cases t <;> rfl

theorem relayedOnly_telegramKind (t : Telegram) : relayedOnly (telegramKind t) = false := by cases t <;> rfl

/-- A telegram by group or broadcast that reaches its block is delivered as it is. -/
theorem take_train {via : Via} {t : Telegram} {c : Car} (h : Reaches via t c) (ha : via.addressing ≠ .car) :
    take via t c = deliver via t c := by
  obtain ⟨hn, hf, hk, -⟩ := h
  have hn' : c.lif.carNumber.isNone = false := by rw [← Option.not_isSome, hn]; rfl
  unfold take accept
  rw [if_neg (by simp [hn', relayedOnly_telegramKind])]
  cases hv : via.addressing with
  | car => exact absurd hv ha
  | group => simp [hf, acceptTrain, hv ▸ hk, hv]
  | broadcast => simp [hf, acceptTrain, hv ▸ hk, hv]

/-- A telegram addressed to the car that reaches its block is delivered with its reply places reserved. -/
theorem take_car {via : Via} {t : Telegram} {c : Car} (h : Reaches via t c) (h0 : c.lif.reservedReplies = 0)
    (ha : via.addressing = .car) (hp : telegramKind t ≠ 40) :
    take via t c = deliver via t (c.reserving (placesFor (telegramKind t))) := by
  obtain ⟨hn, hf, hk, hr⟩ := h
  have hn' : c.lif.carNumber.isNone = false := by rw [← Option.not_isSome, hn]; rfl
  have hr := hr ha
  rw [if_neg hp] at hr
  have hk : takenByCar (telegramKind t) = true := by simpa [takenUnder, ha] using hk
  unfold take accept
  rw [if_neg (by simp [hn', relayedOnly_telegramKind])]
  simp [ha, reserve, hp, hr, shutOut, hf, acceptCar, knownKind_telegramKind, hk, h0, Car.reserving]

/-- A telegram command other than NOTICE POLL that reaches its block delivers its telegram, with reply places reserved when it is
addressed to the car and none otherwise, and settles the part. -/
theorem exec_of_reaches {i : Instr} {via : Via} {t : Telegram} (hi : i.telegram = some (via, t)) {s : State} (hr : Ready s)
    (h : Reaches via t s.car) (hp : telegramKind t ≠ 40) :
    ∃ n, exec i s = .next { s with car := settle (deliver via t (s.car.reserving n)) } ∧ (via.addressing ≠ .car → n = 0) := by
  rw [exec_of_telegram hi, State.run_of_ready hr.1]
  by_cases ha : via.addressing = .car
  · exact ⟨_, by rw [take_car h hr.2.2.1 ha hp], fun hn => absurd ha hn⟩
  · have h0 : s.car.reserving 0 = s.car := by rw [Car.reserving, ← hr.2.2.1]
    exact ⟨0, by rw [take_train h ha, h0], fun _ => rfl⟩

/-- The answer of such a telegram, whatever its addressing. -/
theorem answer_of_reaches (via : Via) (kind : Nat) (result : Result) (parts : List ReplyData) {n : Nat} {c : Car}
    (h : c.lif.reservedReplies = 0) (hb : c.lif.reservedBatch = 0) (hn : via.addressing ≠ .car → n = 0) :
    answer via kind result parts (c.reserving n) = replied via kind result parts c := by
  by_cases ha : via.addressing = .car
  · exact answer_reserving via kind result parts n h hb ha
  · have h0 : c.reserving n = c := by rw [hn ha, Car.reserving, ← h]
    rw [h0, answer_train _ _ _ _ _ ha]

/-- An answer placed leaves a settled part settled. -/
theorem settle_replied {c : Car} (h : settle c = c) (via : Via) (kind : Nat) (result : Result) (parts : List ReplyData) :
    settle (replied via kind result parts c) = replied via kind result parts c :=
  settle_transfer h rfl rfl rfl rfl

end Sys2Proof.Machine
end

