-- ==== Sys2Proof/Tests/Slice0.lean ====
section
/-! SUPPORT. The model's own tests: the smoke test of WellFormed, the manual's worked examples, and for every statement with
hypotheses a concrete state and operands that meet them, clause by clause. The expected values are the manual's. -/

namespace Sys2Proof.Tests

open Sys2Proof Sys2Proof.Machine

set_option Elab.async false

/-! ## Helpers -/

/-- The state an outcome leads to. -/
def after : Host.Outcome State Fault Refusal → State
  | .next s => s
  | .fault _ => State.reset
  | .refused _ => State.reset

/-- A state with the part's outputs decided and nothing waiting. -/
def fit (c : Car) : State := ⟨settle c, []⟩

/-- A telegram to the car's number, and one to the whole train. -/
def toCar : Via := ⟨.car, 7⟩
def toAll : Via := ⟨.broadcast, 7⟩

/-- Car 3 of a numbered train, right after power-on. -/
def numbered : Car := { State.reset.car with lif := { State.reset.car.lif with carNumber := some 3, cabSide := some .a } }

/-- Car 3 standing with its doors locked and an empty cause set. -/
def standing : Car := { numbered with
  odo := { numbered.odo with standstill := true }
  dor := { numbered.dor with leaves := .all { LeafRecord.reset false with state := .locked, lastStatus := none } }
  brk := { numbered.brk with causes := .all none, standstillSince := some 0, doorsProven := true, doorHold := false } }

def stand : State := fit standing

/-- Car 3 moving, with the release demanded and both cog brakes released. -/
def driving : Car := { standing with
  lif := { standing.lif with demand := ⟨.down, 0, true, .full⟩ }
  odo := { standing.odo with standstill := false, fused := 400 }
  brk := { standing.brk with
    copy := ⟨0, true⟩
    channels := .all { CogRecord.reset .released true with state := .released, command := .release, holder := .release, transit := none } } }

def drive : State := fit driving

/-- A timer at a limit, when it runs. -/
def atLimit (limit : Nat) (t : Timer) : Timer := t.map fun _ => limit

/-- A state with every timer that runs at its limit: the manual's times in units of 10 ms, 75 ms rounded up. -/
def ripe (s : State) : State := ⟨{ s.car with
  lif := { s.car.lif with lineLossTimer := atLimit 100 s.car.lif.lineLossTimer }
  tlf := s.car.tlf.map fun r => { r with settle := atLimit 10 r.settle }
  brk := { s.car.brk with
    channels := s.car.brk.channels.map fun r => { r with
      transit := atLimit 150 r.transit, departure := atLimit 20 r.departure, readback := atLimit 5 r.readback }
    test := match s.car.brk.test with
      | .onSelected sel => .onSelected { sel with timing := sel.timing.map fun g => { g with elapsed := 150 } }
      | t => t
    watch := atLimit 8 s.car.brk.watch
    broadcastTimer := atLimit 50 s.car.brk.broadcastTimer }
  dor := { s.car.dor with
    leaves := s.car.dor.leaves.map fun r => { r with motion := atLimit 800 r.motion, pause := atLimit 200 r.pause }
    sides := s.car.dor.sides.map fun r => { r with warning := atLimit 200 r.warning }
    exchange := s.car.dor.exchange.map fun x => { x with timer := atLimit 2 x.timer } }
  vrl := { s.car.vrl with
    supervision := s.car.vrl.supervision.map fun t => { t with elapsed := t.limit * 100 }
    shadow := s.car.vrl.shadow.map fun t => { t with elapsed := t.limit * 100 }
    follower := atLimit 300 s.car.vrl.follower
    reportTimer := atLimit 1000 s.car.vrl.reportTimer
    statusTimer := atLimit 100 s.car.vrl.statusTimer
    transmit := s.car.vrl.transmit.map fun t => { t with elapsed := 200 } } }, s.pending⟩

/-- Car 3 in fault stop, with its ports silent. -/
def stopped : State :=
  let s := after (exec .timebaseWatchExpiry { stand with car := { stand.car with brk := { stand.car.brk with watch := some 8 } } })
  { s with car := { s.car with lif := { s.car.lif with ports := .all .reset } } }

/-- An originate queue with every place filled. -/
def fullQueue : List Queued := List.replicate 8 (Queued.fresh (.radioStatus 1) 3)

def full : State := fit { standing with lif := { standing.lif with queue := fullQueue } }

/-- The segment 38 to 41 of the supervision worked example (chapter 4). -/
def seg (id low length : Nat) (gradient : Int) (limit : Nat) : Segment := Segment.write
  { id := id, low := low, length := length, kind := .rack, gradient := gradient, upLimit := limit, downLimit := limit,
    shadow := false, platform := none, markers := [], pinned := false, check := 0, checkFailed := false }

def slope : List Segment :=
  [seg 38 232000 7500 0 20, seg 39 240000 6000 80 12, seg 40 246000 500 200 18, seg 41 246500 5500 260 18]

/-! ## Well-formed commands: one ill-formed command for each check -/

theorem test_wellFormed_accepts : Instr.wellFormed (.driverDemand toCar 255 255 255 255) = true := by decide
theorem test_wellFormed_seq : Instr.wellFormed (.emergency ⟨.car, 256⟩) = false := by decide
theorem test_wellFormed_byte_field : Instr.wellFormed (.doorClose toCar 256) = false := by decide
theorem test_wellFormed_two_byte_field : Instr.wellFormed (.segmentRemove toCar 65536) = false := by decide
theorem test_wellFormed_three_byte_field : Instr.wellFormed (.positionSet toCar 16777216) = false := by decide
theorem test_wellFormed_four_byte_field : Instr.wellFormed (.eventClear toCar 4294967296) = false := by decide
theorem test_wellFormed_gradient :
    Instr.wellFormed (.segmentLoad toCar ⟨1, 0, 100, 0, -32769, 0, 0, 0, 0, []⟩) = false ∧
    Instr.wellFormed (.segmentLoad toCar ⟨1, 0, 100, 0, 32768, 0, 0, 0, 0, []⟩) = false := by decide
theorem test_wellFormed_markers :
    Instr.wellFormed (.segmentLoad toCar ⟨1, 0, 100, 0, 0, 0, 0, 0, 0, [⟨65536, 0⟩]⟩) = false ∧
    Instr.wellFormed (.segmentLoad toCar ⟨1, 0, 100, 0, 0, 0, 0, 0, 0, List.replicate 6 ⟨1, 0⟩⟩) = false := by decide
theorem test_wellFormed_relay_body : Instr.wellFormed (.radioRelay toCar 1 1 (List.replicate 41 0)) = false := by decide
theorem test_wellFormed_roll_call : Instr.wellFormed (.rollCall .a 255 0 256 0) = false := by decide
theorem test_wellFormed_frame : Instr.wellFormed (.lineFrameEnd .a .endSymbol (List.replicate 55 0)) = false := by decide
theorem test_wellFormed_current : Instr.wellFormed (.settlingEnd .cogA 401) = false := by decide
theorem test_wellFormed_samples : Instr.wellFormed (.dataWordComplete .cogA (List.replicate 8 100)) = false := by decide

/-! ## The worked examples of the manual -/

/-- The check value of the CRC that R19 defines, over the ASCII digits 1 to 9: 29B1H (general knowledge; the manual prints no CRC). -/
theorem test_crc_check_value :
    crc ([49, 50, 51, 52, 53, 54, 55, 56, 57].map Byte.ofNat) = 0x29B1#16 := by decide +kernel

/-- Chapter 1, worked example of the coverage. -/
theorem test_coverage_ends_at_240000 :
    coverageOf slope ⟨.known, 248600, 300, 100, 10000, 0, none⟩ 1800 (some .down) = some 240000 := by decide +kernel

/-- Chapter 2, worked example of the thresholds: adaptive, adaptive with both clamps, and with one list filled. -/
theorem test_thresholds :
    (let r := ({ TlfChannel.reset with
      restList := [70, 62, 80], dataList := [110, 113, 112, 111, 114, 112, 112, 112],
      toothList := [198, 205, 201, 203, 200, 204, 202, 203] } : TlfChannel).rework .reset .cogA
    (r.t1, r.t2)) = (87, 157) := by decide +kernel

theorem test_slots_before : slotsBefore 356 = 7 := by decide +kernel

/-- Section 4.5, worked example of the descent: P is 463 from segment 39 with three targets; with one brake 333. -/
def descent : EvalCopy where
  v := 500
  direction := .down
  load := .full
  position := ⟨.known, 248600, 300, 100, 10000, 0, none⟩
  available := 2
  radioLost := false
  meshShallow := false
  degraded := false
  restrictions := []
  overflow := []
  saturated := false
  coverage := some 240000
  params := .reset
  byUpdate := true

theorem test_supervision_example :
    (let a := assess descent slope
    (a.p, a.source, a.targets)) = (463, .targetSegment 39, 3) ∧ laneB descent slope = 463 ∧
    (assess { descent with v := 400 } slope).p = 475 ∧
    (assess { descent with v := 400, available := 1 } slope).p = 333 := by decide +kernel

/-- Chapter 2, the worn sensor, and fixed mode with F = 51 and O = 52. -/
theorem test_thresholds_worn_and_fixed :
    (let r := ({ TlfChannel.reset with restList := [95], dataList := [115], toothList := [190] } : TlfChannel).rework .reset .cogA
    (r.t1, r.t2, r.satI0)) = (97, 152, true) ∧
    thresholds { Params.reset with
      fixedMode := ⟨true, false, false, false⟩, offsetF := .all 51, offsetO := .all 52 } .cogA 40 30 60 = (81, 163) := by
  decide +kernel

/-- Chapter 2, decoding at speed: slots 1, 1, 1, 1, 0, 0, 0, 1, 1 carry direction 1, mesh class 7 and rolling count 2. -/
theorem test_data_word :
    wordOf (wordBits 87 [110, 110, 110, 110, 60, 60, 60, 110, 110]) = ⟨true, 7, false, false, 2⟩ := by decide +kernel

/-- Chapter 2, a short: SENSOR_FAULT occurs with detail 514. -/
theorem test_short :
    (9, 514) ∈ (after (exec (.shortDetected .cogB) stand)).car.evr.notices.map (fun n => (n.source, n.detail)) := by
  decide +kernel

/-- Chapter 1, three arrivals at a full store: segment 13 goes first, then 14, and then nothing can go. -/
def behindCar : List Segment :=
  [{ seg 12 280000 10000 0 0 with pinned := true }, seg 13 290000 8000 0 0, seg 14 298000 4700 0 0, seg 15 302700 7300 0 0]

theorem test_eviction :
    (let at310000 : PositionRecord := ⟨.known, 310000, 400, 0, 0, 0, none⟩
    let go (t : List Segment) := (evictee t at310000 .reset (some .up)).map Segment.id
    (go behindCar, go (behindCar.filter fun s => s.id != 13), go (behindCar.filter fun s => s.id != 13 && s.id != 14))) =
    (some 13, some 14, none) := by decide +kernel

/-- A cog channel in use with 253,000 µm or 262,000 µm in its accumulator. -/
def counting (acc last : Nat) : OdoChannel :=
  { OdoChannel.reset with valid := true, acc := acc, window := [50, 50, 50, 50, last], firstPulse := false }

/-- The descending car of chapters 3 and 4, 25 cm before its update. -/
def descending : Car := { driving with
  tlf := .all { TlfChannel.reset with state := .active, settle := none, latest := some ⟨false, 7, false, false, 0⟩ }
  odo := { driving.odo with
    channels := ⟨counting 253000 50, counting 262000 51, .reset, .reset⟩
    position := ⟨.known, 248625, 300, 100, 9975, 0, none⟩
    travelRef := some .down }
  pst := { Pst.reset with table := slope } }

def descend : State := fit descending

/-- Chapter 3, the update: fused speed 502, position 248,600 with uncertainty 300, coverage to 240,000. -/
theorem test_odometry_update :
    (let s := after (exec .odometryUpdate descend)
    (s.car.odo.fused, s.car.odo.position.pos, s.car.odo.position.unc, s.car.pst.coverage)) = (502, 248600, 300, some 240000) := by
  decide +kernel

/-! ## The resets -/

theorem test_power_on_reset : exec (.powerOnReset false) State.reset = .next State.reset := rfl

/-- R170: a frame that a transmitter is sending when RESETn goes low stops without an end symbol. -/
theorem test_reset_cuts_a_frame :
    (let s := fit { standing with lif := { standing.lif with ports := ⟨{ PortState.reset with tx := .sendingHeld [1] }, .reset⟩ } }
    let t := after (exec (.resetLineReset false) (after (exec .resetnAssert s)))
    (t.car.lif.ports.a.lastClosing, t.car.lif.ports.b.lastClosing, t.car.lif.ports.a.tx)) = (some .stopped, none, .idle) := by
  decide +kernel

/-! ## What meets each statement's hypotheses -/

/-- Car 3 while RESETn is held low. -/
def held : State := after (exec .resetnAssert stand)

/-- A car with every leaf isolated. -/
def isolated : State := fit { numbered with dor := Dor.reset (.all true) }

theorem witness_StepRunsFrontCommand :
    ({ stand with pending := [.emergency toCar] } : State).pending = .emergency toCar :: [] := rfl

theorem witness_IdleStepTicks :
    (stand.pending = [] ∧ stand.car.inReset = false ∧ stand.car.brk.test.isSelected = false) ∧
    (held.pending = [] ∧ held.car.inReset = true) := by decide +kernel

/-- R107: a power-on reset with RESETn low brings up no output. -/
theorem test_power_on_reset_held :
    (let c := (after (exec (.powerOnReset false) held)).car
    (c.inReset, c.brk.svcValid, c.brk.tractionOk, c.brk.channels.cbA.energised, c.lif.carNumber)) =
    (true, false, false, false, none) := by decide +kernel

theorem witness_HardwareResetState :
    held.car.inReset = true ∧ stand.car.inReset = false ∧ (drive.car.brk.channels.get .cbA).readsBack = true ∧
    stand.car.dor.leaves.map LeafRecord.contactClosed ≠ .all true ∧
    isolated.car.dor.leaves.map LeafRecord.contactClosed = .all true := by decide +kernel

theorem witness_ResetLineHeldLow : held.car.inReset = true := by decide +kernel

theorem witness_EveryStepKeepsReady :
    Ready { stand with pending := [.emergency toCar] } ∧
    ({ stand with pending := [.emergency toCar] } : State).pending.head? ≠ some .resetnAssert ∧
    ∃ t, step { stand with pending := [.emergency toCar] } = .next t := by
  refine ⟨?_, by decide, _, rfl⟩
  unfold Ready
  decide +kernel

theorem witness_EveryStepKeepsTheOutputLaws : OutputLaws held.car ∧ ∃ t, step held = .next t := by
  refine ⟨?_, _, rfl⟩
  have h : held.car.inReset = true := by decide +kernel
  unfold OutputLaws
  rw [if_pos h]
  refine ⟨by decide +kernel, by decide +kernel, fun ch => ?_⟩
  cases ch <;> decide +kernel

theorem witness_EveryStepKeepsTheTestLaw : TestLaw stopped.car.brk ∧ ∃ t, step stopped = .next t := by
  refine ⟨?_, _, rfl⟩
  unfold TestLaw
  decide +kernel

theorem witness_EveryStepKeepsTheNoticeLaw :
    stopped.car.evr.sources.length = 32 ∧ NoticeLaw stopped.car.evr ∧ ∃ t, step stopped = .next t := by
  refine ⟨by decide +kernel, ?_, _, rfl⟩
  unfold NoticeLaw
  decide +kernel

/-- A list of 16 restrictions, and one that the list has no place for. -/
def sixteen : List Restriction := (List.range 16).map fun n => ⟨n + 1, 1000 * n, 1000 * n + 500, 20, .both, .cab⟩

def restricted : Car := { standing with
  ssv := { standing.ssv with restrictions := sixteen, overflow := [⟨200, 10⟩, ⟨201, 12⟩, ⟨202, 15⟩, ⟨203, 20⟩], saturated := true } }

theorem witness_EveryStepKeepsTheRestrictionLaw :
    RestrictionLaw (fit restricted).car.ssv ∧ ∃ t, step (fit restricted) = .next t := by
  refine ⟨?_, _, rfl⟩
  unfold RestrictionLaw
  decide +kernel

/-- A radio car whose modem is busy, linked with station 1. -/
def linked : Car := { standing with
  lif := { standing.lif with params := { Params.reset with trainId := 7 } }
  vrl := { Vrl.reset true with
    link := .linked, station := 1, supervision := some ⟨0, 6⟩, transmit := some ⟨[], 0⟩
    recent := [⟨9, 3, [], .accepted, .placed⟩] } }

theorem witness_EveryStepKeepsTheRadioLaw : RadioLaw (fit linked).car.vrl ∧ ∃ t, step (fit linked) = .next t := by
  refine ⟨?_, _, rfl⟩
  unfold RadioLaw
  decide +kernel

/-! ### Telegram acceptance and the line -/

theorem witness_AcceptanceTurnsAway :
    (Instr.emergency toCar).telegram = some (toCar, .emergency) ∧ Ready State.reset ∧ State.reset.car.lif.carNumber = none ∧
    (Ready stopped ∧ stopped.car.brk.faultStop = true ∧ toAll.addressing ≠ .car ∧ stopped.car.lif.queue.length + 4 ≤ 8 ∧
      stopped.car.lif.carNumber ≠ none) ∧
    (telegramKind (.groupSet 1 true 0 0) = 33 ∧ toAll.addressing = .broadcast) ∧
    (Ready full ∧ full.car.lif.carNumber ≠ none ∧ full.car.lif.queue.length = 8 ∧
      (full.car.lif.queue.filter fun q => q.frame.kind != 48).length = 8) ∧
    (Ready stand ∧ stand.car.lif.queue.length + 1 ≤ 8 ∧ stand.car.brk.faultStop = false ∧
      telegramKind (.radioStatus 0 0) = 45) := by
  unfold Ready
  decide +kernel

/-- Car 3 with port A receiving an EMERGENCY addressed to it. -/
def receiving : State := fit { standing with lif := { standing.lif with
  ports := { standing.lif.ports with a := { PortState.reset with rx := some ⟨3, 0, 4, .none, some .car⟩ } } } }

/-- R118, R188: the FAULT_STOP reply to TEST ON carries the brake test fields. -/
theorem test_fault_stop_reply :
    Ready stopped ∧ (Instr.testOn toCar).telegram = some (toCar, .testOn) ∧ placesFor 12 ≤ stopped.car.lif.freePlaces ∧
    (after (exec (.testOn toCar) stopped)).car.lif.frames.getLast? =
      some (.reply 12 7 .faultStop 1 1 (.brakeTest .off false (.all .reset))) := by
  unfold Ready
  decide +kernel

theorem witness_FrameEndHandsTheTelegram :
    (Instr.emergency toCar).telegram = some (toCar, .emergency) ∧ (Instr.emergency toCar).wellFormed = true ∧ Ready receiving ∧
    (receiving.car.lif.ports.get .a).rx = some ⟨3, 0, telegramKind .emergency, .none, some toCar.addressing⟩ := by
  unfold Ready
  decide +kernel

/-- Car 3 with port A receiving a frame of a kind, and port B relaying it as it arrives when it is a broadcast. -/
def hearing (kind : Nat) (a : Addressing) : State := fit { standing with lif := { standing.lif with
  ports := ⟨{ PortState.reset with rx := some ⟨if a = .car then 3 else 255, 0, kind, if a = .car then .none else .direct, some a⟩ },
    { PortState.reset with tx := if a = .car then .idle else .relaying }⟩ } }

theorem witness_FrameEndHandsTheTelegram_others :
    ((Instr.driverDemand toAll 1 0 1 2).telegram = some (toAll, .driverDemand 1 0 1 2) ∧ Ready (hearing 2 .broadcast) ∧
      ((hearing 2 .broadcast).car.lif.ports.get .a).rx = some ⟨255, 0, 2, .direct, some .broadcast⟩) ∧
    (Ready (hearing 60 .car) ∧ ((hearing 60 .car).car.lif.ports.get .a).rx = some ⟨3, 0, 60, .none, some .car⟩ ∧
      0 < (hearing 60 .car).car.lif.freePlaces ∧ (hearing 60 .car).car.lif.carNumber ≠ none ∧
      (hearing 60 .car).car.brk.faultStop = false) ∧
    (Ready (hearing 12 .car) ∧ parseTelegram 12 [0] = none ∧ placesFor 12 ≤ (hearing 12 .car).car.lif.freePlaces) ∧
    (Ready (hearing 4 .car) ∧ parseTelegram 4 [0] = none ∧ placesFor 4 ≤ (hearing 4 .car).car.lif.freePlaces) ∧
    (Ready (hearing 48 .car) ∧ ((hearing 48 .car).car.lif.ports.get .a).rx = some ⟨3, 0, 48, .none, some .car⟩) ∧
    (Ready (hearing 12 .broadcast) ∧ parseTelegram 12 [] = some .testOn ∧ Addressing.broadcast ≠ .car) ∧
    (let s := fit { standing with lif := { standing.lif with
      ports := { standing.lif.ports with a := { PortState.reset with rx := some ⟨255, 0, 1, .none, none⟩ } } } }
    Ready s ∧ (s.car.lif.ports.get .a).rx = some ⟨255, 0, 1, .none, none⟩ ∧
      verdict .endSymbol ([Byte.ofNat 255, Byte.ofNat 0, 1] ++ []) = .bad ∧
      verdict .abortSymbol ([Byte.ofNat 255, Byte.ofNat 0, 1] ++ []) = .aborted) := by
  unfold Ready
  decide +kernel

theorem witness_TelegramPayloadsRoundTrip :
    Telegram.wellFormed (.segmentLoad ⟨1023, 1999900, 100, 31, -480, 40, 40, 0, 99, List.replicate 5 ⟨4095, 99⟩⟩) = true := by
  decide

theorem witness_FramesRoundTrip :
    Telegram.wellFormed (.restrictionAdd 255 0 1999999 40 3) = true ∧
    SegmentBody.wellFormed ⟨1023, 1999900, 100, 31, 480, 40, 40, 0, 99, []⟩ = true ∧
    ((⟨255, 65535, 255, 65535, List.replicate 40 0⟩ : RadioFrame).station < 256 ∧ (List.replicate 40 (0 : Byte)).length ≤ 40) ∧
    (List.replicate 48 (0 : Byte)).length ≤ 48 ∧
    ((List.replicate 9 (0 : Byte)).length < 57 ∧
      (List.replicate 9 (0 : Byte)).length ≠ 8 + ((List.replicate 9 (0 : Byte)).getD 5 0).toNat) ∧
    (8 ≤ (List.replicate 8 (0 : Byte)).length ∧
      crc ((List.replicate 8 (0 : Byte)).take 6) ≠ BitVec.ofNat 16 (be ((List.replicate 8 (0 : Byte)).drop 6))) ∧
    57 ≤ (List.replicate 57 (0 : Byte)).length := by decide +kernel

/-- Car 3 in the group of dest 16 alone, with port B relaying and one frame held for it. -/
def grouped : State := fit { standing with lif := { standing.lif with
  groups := standing.lif.groups.set 0 ⟨true, 16, 255⟩
  ports := { standing.lif.ports with b := { PortState.reset with tx := .relaying, held := [[0]] } } } }

theorem witness_FrameHeaderDecides :
    Ready grouped ∧ (grouped.car.lif.ports.get .a).rx = none ∧ grouped.car.lif.carNumber = some 3 ∧
    (∃ w ∈ grouped.car.lif.groups, w.valid = true ∧ 16 &&& w.mask = w.value &&& w.mask) ∧
    (¬ ∃ w ∈ grouped.car.lif.groups, w.valid = true ∧ 239 &&& w.mask = w.value &&& w.mask) ∧
    (grouped.car.lif.ports.get Port.a.other).tx ≠ .idle ∧ (grouped.car.lif.ports.get Port.a.other).held.length < 2 ∧
    (Ready State.reset ∧ State.reset.car.lif.carNumber = none ∧ (State.reset.car.lif.ports.get .a).rx = none) := by
  unfold Ready
  decide +kernel

/-- Port A relays to port B as it receives, and holds a copy of a broadcast. -/
def relaying : State := fit { standing with lif := { standing.lif with
  ports := ⟨{ PortState.reset with rx := some ⟨255, 0, 2, .direct, some .broadcast⟩ }, { PortState.reset with tx := .relaying }⟩ } }

/-- Port A relays a frame for another car to port B, where a RADIO STATUS that port A sends at the same time waits. -/
def relayingBefore : State := fit { standing with lif := { standing.lif with
  queue := [.fresh (.reply 4 0 .accepted 1 1 .none) 3, ⟨.radioStatus 1, 3, ⟨.sending, .waiting⟩⟩]
  ports := ⟨{ PortState.reset with
      rx := some ⟨5, 0, 30, .direct, none⟩, tx := .sendingOriginated ⟨.radioStatus 1, 3, some .lost, []⟩ },
    { PortState.reset with tx := .relaying }⟩ } }

theorem witness_FrameEndClosesTheRelay_waiting :
    Ready relayingBefore ∧ (relayingBefore.car.lif.ports.get .a).rx = some ⟨5, 0, 30, .direct, none⟩ ∧
    (relayingBefore.car.lif.ports.get .a).tx ≠ .idle ∧ (relayingBefore.car.lif.ports.get Port.a.other).held = [] ∧
    relayingBefore.car.lif.cabSide = some .a ∧
    (relayingBefore.car.lif.queue.map fun q => (q.frame.kind, q.progress.get .b)) = [(48, .waiting), (45, .waiting)] := by
  unfold Ready
  decide +kernel

/-- R174: the waiting RADIO STATUS starts on port B as the relayed frame closes. -/
theorem test_relay_end_starts_the_next :
    (let t := after (exec (.lineFrameEnd .a .endSymbol ((frameBytes 5 0 30 0 9 [1]).drop 3)) relayingBefore)
    (t.car.lif.ports.b.lastClosing, t.car.lif.queue.map Queued.progress,
      match t.car.lif.ports.b.tx with
      | .sendingOriginated out => out.frame.kind
      | _ => 0)) = (some .endSymbol, [⟨.waiting, .waiting⟩, ⟨.sending, .sending⟩], 45) := by decide +kernel

theorem witness_FrameEndClosesTheRelay :
    Ready relaying ∧ (relaying.car.lif.ports.get .a).rx = some ⟨255, 0, 2, .direct, some .broadcast⟩ ∧
    relaying.car.lif.queue = [] ∧ (relaying.car.lif.ports.get .a).tx = .idle ∧ (relaying.car.lif.ports.get .a).held = [] ∧
    verdict .endSymbol [255, 0, 2, 0, 0, 0, 0, 0] ≠ .wellFormed ∧ verdict .abortSymbol [255, 0, 2] ≠ .wellFormed ∧
    (relaying.car.lif.ports.get Port.a.other).held = [] := by
  unfold Ready
  decide +kernel

/-- Port A sends a held frame and port B an originated one, with one frame held at A. -/
def sending : State := fit { standing with lif := { standing.lif with
  queue := [⟨.radioStatus 1, 3, ⟨.waiting, .sending⟩⟩]
  ports := ⟨{ PortState.reset with tx := .sendingHeld [1], held := [[2]] },
    { PortState.reset with tx := .sendingOriginated ⟨.radioStatus 1, 3, some .lost, []⟩ }⟩ } }

theorem witness_TransmitDoneStartsTheNext :
    Ready sending ∧ (sending.car.lif.ports.get .a).tx = .sendingHeld [1] ∧ (sending.car.lif.ports.get .a).held = [[2]] ∧
    (sending.car.lif.ports.get .b).tx = .sendingOriginated ⟨.radioStatus 1, 3, some .lost, []⟩ ∧
    (Ready stand ∧ (stand.car.lif.ports.get .a).tx = .idle) := by
  unfold Ready
  decide +kernel

/-- Port A sends its last held frame, with a RADIO STATUS and an answer to the cab in the originate queue. -/
def choosing : State := fit { standing with lif := { standing.lif with
  queue := [⟨.radioStatus 1, 3, ⟨.waiting, .sent⟩⟩, .fresh (.reply 4 0 .accepted 1 1 .none) 3]
  ports := ⟨{ PortState.reset with tx := .sendingHeld [1] }, { PortState.reset with tx := .relaying }⟩ } }

theorem witness_TransmitDoneStartsTheNext_chooses :
    (Ready choosing ∧ (choosing.car.lif.ports.get .a).tx = .sendingHeld [1] ∧ (choosing.car.lif.ports.get .a).held = [] ∧
      (choosing.car.lif.ports.get .b).tx ≠ .idle ∧ choosing.car.lif.cabSide = some .a ∧
      (choosing.car.lif.queue.map fun q => (q.frame.kind, q.progress.get .a)) = [(45, .waiting), (48, .waiting)]) ∧
    (stand.car.lif.queue = [] ∧ stand.car.lif.cabSide = some .a ∧
      ∀ p ∈ [Port.a, .b], (stand.car.lif.ports.get p).tx = .idle ∧ (stand.car.lif.ports.get p).held = []) ∧
    (State.reset.car.lif.cabSide = none ∧ State.reset.car.lif.queue = []) := by
  unfold Ready
  decide +kernel

theorem witness_RollCallNumbersTheCar :
    (Ready State.reset ∧ State.reset.car.lif.carNumber = none ∧ (State.reset.car.lif.ports.get Port.a.other).held.length < 2) ∧
    (Ready stand ∧ stand.car.odo.standstill = true ∧ stand.car.brk.faultStop = false) ∧
    (Ready drive ∧ drive.car.lif.carNumber ≠ none ∧ drive.car.odo.standstill = false) ∧
    (Ready grouped ∧ (grouped.car.lif.ports.get Port.a.other).tx ≠ .idle) := by
  unfold Ready
  decide +kernel

/-- A car with both hold buffers of port B full. -/
def crammed (c : Car) : State := fit { c with lif := { c.lif with
  ports := { c.lif.ports with b := { PortState.reset with tx := .relaying, held := [[1], [2]] } } } }

theorem witness_RollCallNumbersTheCar_overrun :
    (∀ c ∈ [State.reset.car, standing, driving], Ready (crammed c) ∧
      2 ≤ ((crammed c).car.lif.ports.get Port.a.other).held.length ∧ ((crammed c).car.lif.ports.get Port.a.other).tx ≠ .idle) ∧
    (crammed driving).car.odo.standstill = false ∧ (crammed driving).car.lif.carNumber ≠ none := by
  unfold Ready
  decide +kernel

/-- R172, R175: a ROLL CALL that finds both hold buffers of port B full is lost with RELAY_OVERRUN, and numbers the car. -/
theorem test_roll_call_overrun :
    (let t := after (exec (.rollCall .a 255 0 4 0) (crammed standing))
    (t.car.lif.carNumber, (t.car.evr.source Source.relayOverrun.number).pending, t.car.lif.ports.b.held)) =
    (some 5, true, [[1], [2]]) := by decide +kernel

/-! ### The driver demand and the parameters -/

theorem witness_DriverDemandAndLineLoss :
    (Ready drive ∧ Intact drive.car ∧ Reaches toCar (.driverDemand 2 0 1 2) drive.car ∧ LoadClass.ofCode 2 = some .full ∧
      drive.car.lif.demand = ⟨.down, 0, true, .full⟩ ∧ drive.car.lif.lineLoss = false) ∧
    (Reaches toAll (.driverDemand 3 8 2 3) stand.car ∧ Ready stand ∧ Intact stand.car) ∧
    (Ready (ripe stand) ∧ Timer.reached 100 (ripe stand).car.lif.lineLossTimer = true ∧ (ripe stand).car.lif.lineLoss = false) ∧
    (Timer.reached 100 (some 99) = false ∧ Timer.reached 100 stand.car.lif.lineLossTimer = false) ∧
    (let s := fit { standing with lif := { standing.lif with lineLossTimer := none } }
    Ready s ∧ Timer.reached 100 s.car.lif.lineLossTimer = false) := by
  unfold Ready Reaches Intact
  decide +kernel

/-- R182: a valid DRIVER DEMAND taken before the expiry of the same moment lets no LINE_LOSS start; taken after it, it ends the
LINE_LOSS that has started and leaves the cause in the set. -/
theorem test_line_loss_coincidence :
    (let demand := Instr.driverDemand toAll 2 0 1 2
    let first := after (exec .lineLossTimerExpiry (after (exec demand (ripe stand))))
    let last := after (exec .lineLossTimerExpiry (ripe stand))
    let ended := after (exec demand last)
    ((first.car.lif.lineLoss, first.car.brk.causes.lineLoss), last.car.lif.lineLoss, ended.car.lif.lineLoss,
      ended.car.brk.causes.lineLoss.map CauseRecord.present)) =
    ((false, none), true, false, some false) := by decide +kernel

theorem witness_GroupSetAndParameterRead :
    (Ready stand ∧ Reaches toCar (.groupSet 1 true 0 0) stand.car ∧ Reaches toCar (.groupSet 8 true 255 255) stand.car ∧
      Reaches toCar (.groupSet 0 true 0 0) stand.car ∧ Reaches toCar (.groupSet 9 true 0 0) stand.car ∧
      Reaches toCar (.groupSet 1 true 256 0) stand.car ∧ Reaches toCar (.groupSet 8 true 0 256) stand.car) ∧
    (Ready grouped ∧ (grouped.car.lif.ports.get .a).rx = none ∧ grouped.car.lif.carNumber = some 3 ∧
      (∃ w ∈ grouped.car.lif.groups, w.valid = true ∧ 16 &&& w.mask = w.value &&& w.mask)) ∧
    (Reaches toCar .restart stand.car ∧ Reaches toAll .restart grouped.car) ∧
    (Reaches toCar (.parameterRead 1) stand.car ∧ (Parameter.ofId 1).isSome = true ∧ Parameter.ofId 0 = none) := by
  unfold Ready Reaches
  refine ⟨?_, ?_, ?_, ?_⟩ <;> decide +kernel

theorem witness_ParameterSetJudgesAndInstalls :
    (Ready stand ∧ Intact stand.car ∧ Reaches toCar (.parameterSet 1 1) stand.car ∧ (Parameter.ofId 1).isSome = true ∧
      stand.car.odo.standstill = true ∧ stand.car.brk.channels.cbA.reading = .applied ∧
      stand.car.brk.channels.cbB.reading = .applied ∧ Parameter.ofId 0 = none) ∧
    (Ready drive ∧ Intact drive.car ∧ Reaches toCar (.parameterSet 1 1) drive.car ∧ drive.car.odo.standstill = false ∧
      drive.car.brk.channels.cbA.reading ≠ .applied) := by
  unfold Ready Reaches Intact
  decide +kernel

/-- Car 3 standing at a KNOWN position, 3 m uncertain after 100 m of travel. -/
def located : State := fit { standing with odo := { standing.odo with position := ⟨.known, 100000, 300, 100, 10000, 0, none⟩ } }

/-- A value that changes a parameter of each way of acting on its owner; drift 50 and U_max 1,000 lose the position. -/
theorem witness_ParameterSetJudgesAndInstalls_acts :
    Ready located ∧ Intact located.car ∧ located.car.odo.standstill = true ∧ located.car.odo.position.state = .known ∧
    (∀ x ∈ [(1, 1), (5, 0), (9, 150), (17, 20), (18, 0), (24, 1000), (25, 50), (26, 1000), (32, 5), (59, 6000), (13, 1), (20, 1000),
        (72, 30)], Reaches toCar (.parameterSet x.1 x.2) located.car ∧
      ∃ q, Parameter.ofId x.1 = some q ∧ located.car.lif.params.clamp q x.2 ≠ located.car.lif.params.value q) ∧
    (Parameter.ofId 1 = some (.thresholdMode .cogA) ∧ Parameter.ofId 17 = some .i0Min ∧ Parameter.ofId 24 = some .carLength ∧
      Parameter.ofId 25 = some .drift ∧ Parameter.ofId 26 = some .uMax ∧ Parameter.ofId 32 = some .reactionTime ∧
      Parameter.ofId 59 = some (.capability .adhesion false .full) ∧ Parameter.ofId 20 = some (.pitch .cogA) ∧
      Parameter.ofId 72 = some .tRs) ∧
    1000 < min 1999999 (100 + (400000 * 50 + 999) / 1000) := by
  refine ⟨?_, ?_, by decide +kernel, by decide +kernel, ?_, by decide +kernel, by decide⟩
  · unfold Ready
    decide +kernel
  · unfold Intact
    decide +kernel
  · intro x hx
    fin_cases hx <;> exact ⟨by unfold Reaches; decide +kernel, _, rfl, by decide +kernel⟩

theorem witness_ParameterClampsHold :
    (Parameter.carLength).named = false ∧ (Parameter.marginI).named = false ∧
    Params.reset.marginW ≤ Params.reset.marginI ∧ Params.reset.marginI ≤ Params.reset.marginE ∧ Params.reset.marginE ≤ 100 := by
  decide

/-! ### Events, status and restart -/

theorem witness_OccurrencesAndNotices :
    stand.car.evr.sources.length = 32 ∧ stand.car.vrl.role = .follower ∧
    (let c := (fit linked).car
    c.evr.sources.length = 32 ∧ c.vrl.role = .radio ∧ c.vrl.transmit ≠ none ∧ c.vrl.reports.length < 8 ∧
      (c.evr.source 0).enable = true ∧ 0 < (c.evr.source 0).level ∧ (c.evr.source 0).route ≠ .radio ∧
      (c.evr.source 0).route ≠ .notice) := by decide +kernel

/-- A notice queue of 16, of sources 16 to 31 at level 5. -/
def fullNotices : Evr := { Evr.reset with notices := (List.range 16).map fun n => ⟨n + 16, 5, 0, 0⟩ }

theorem witness_OccurrencesAndNotices_offered :
    NoticeLaw fullNotices ∧ fullNotices.notices.length = 16 ∧ (∀ q ∈ fullNotices.notices, q.source ≠ 3) ∧
    (∃ q ∈ fullNotices.notices, q.source = 31) ∧ fullNotices.notices.getLast? = some ⟨31, 5, 0, 0⟩ ∧
    NoticeLaw Evr.reset ∧ Evr.reset.notices.length < 16 := by
  unfold NoticeLaw
  decide +kernel

theorem witness_EventTelegramsSetTheSources :
    Ready stand ∧ Reaches toCar .noticePoll stand.car ∧ Reaches toAll (.eventEnableSet 4294967295) stand.car ∧
    Reaches toCar (.eventEnableClear 1) stand.car ∧ Reaches toCar (.eventClear 0) stand.car ∧
    Reaches toCar (.eventLevelSet 31 15 3) stand.car ∧ Reaches toCar (.eventLevelSet 32 16 0) stand.car ∧
    Route.ofCode 3 = some .both := by
  unfold Ready Reaches
  decide +kernel

theorem witness_StatusAndRecordReadsChangeNothing :
    (Ready stand ∧ stand.car.lif.carNumber ≠ none ∧ 3 ≤ stand.car.lif.freePlaces ∧ stand.car.brk.faultRecord = none) ∧
    (Ready stopped ∧ 2 ≤ stopped.car.lif.freePlaces ∧ stopped.car.brk.faultRecord.isSome = true) := by
  unfold Ready
  decide +kernel

/-- Channels OFF, FAULT, SETTLING and ACTIVE, in this order. -/
def channels : Car := { standing with tlf := ⟨{ TlfChannel.reset with state := .off, supply := false, settle := none },
  { TlfChannel.reset with state := .fault, latches := ⟨true, false, false⟩, settle := none }, .reset,
  { TlfChannel.reset with state := .active, settle := none }⟩ }

theorem witness_FaultReadClearsAndRestarts : Ready (fit channels) ∧ Reaches toCar .faultRead (fit channels).car := by
  unfold Ready Reaches
  decide +kernel

theorem witness_RestartTakesEveryBlock :
    (Ready stand ∧ Reaches toCar .restart stand.car ∧ stand.car.odo.standstill = true ∧
      causesEmpty stand.car.brk.causes = true ∧ stand.car.odo.fused ≤ 25) ∧
    (Ready drive ∧ Reaches toCar .restart drive.car ∧ drive.car.odo.standstill = false) ∧
    (let s := after (exec (.emergency toAll) stand)
    Ready s ∧ Reaches toCar .restart s.car ∧ s.car.odo.standstill = true ∧ causesEmpty s.car.brk.causes = false) := by
  unfold Ready Reaches
  decide +kernel

/-! ### The brakes, fault stop and the brake test -/

theorem witness_EmergencyIsSetAndReleased :
    (Ready stand ∧ Reaches toCar .emergency stand.car ∧ stand.car.brk.causes.cabEmergency = none ∧
      stand.car.brk.test = .off) ∧
    (let s := after (exec (.emergency toAll) stand)
    Ready s ∧ Reaches toCar .emergency s.car ∧ s.car.brk.causes.cabEmergency ≠ none) := by
  unfold Ready Reaches
  decide +kernel

/-- Car 3 at a time, standing since time 0, with CAB_EMERGENCY in the set. -/
def alarmedAt (now : Nat) : State := fit { standing with
  now := now, brk := { standing.brk with causes := { standing.brk.causes with cabEmergency := some ⟨0, false⟩ } } }

theorem witness_EmergencyIsSetAndReleased_release :
    (Ready (alarmedAt 300) ∧ Reaches toCar (.emergencyRelease 511) (alarmedAt 300).car ∧
      (alarmedAt 300).car.odo.standstill = true ∧ (alarmedAt 300).car.brk.standstillSince = some 0 ∧
      300 ≤ since (alarmedAt 300).car.now 0) ∧
    (Ready (alarmedAt 299) ∧ Reaches toCar (.emergencyRelease 0) (alarmedAt 299).car ∧
      (alarmedAt 299).car.brk.standstillSince = some 0 ∧ since (alarmedAt 299).car.now 0 < 300) ∧
    (Ready drive ∧ Reaches toCar (.emergencyRelease 512) drive.car ∧ drive.car.odo.standstill = false) := by
  unfold Ready Reaches
  decide +kernel

/-- Car 3 with its channels in two given states, readings MID. -/
def braking (a b : CogState) : State := fit { standing with brk := { standing.brk with channels :=
  ⟨{ CogRecord.reset .mid false with state := a, departure := some 19 }, { CogRecord.reset .mid false with state := b, departure := some 0 }⟩ } }

theorem witness_FeedbackSettlesTransits :
    (Ready (braking .applying .applied) ∧ (braking .applying .applied).car.brk.test.commandFor .cbA = none ∧
      ((braking .applying .applied).car.brk.channels.get .cbA).state = .applying ∧
      ((braking .applying .applied).car.brk.channels.get .cbB).state = .applied ∧
      ((braking .applying .applied).car.brk.channels.get .cbA).reading = .mid) ∧
    (Ready (braking .fault .applied) ∧ ((braking .fault .applied).car.brk.channels.get .cbA).state = .fault) ∧
    (Ready drive ∧ (drive.car.brk.channels.get .cbA).state = .released ∧ (drive.car.brk.channels.get .cbA).reading = .released) ∧
    (let s := fit { driving with brk := { driving.brk with channels := .all { CogRecord.reset .mid true with
      state := .releasing, command := .release, holder := .release } } }
    Ready s ∧ (s.car.brk.channels.get .cbA).state = .releasing) := by
  unfold Ready
  decide +kernel

theorem witness_BrakeTimersAndReadback :
    (let s := ripe (braking .applying .applied)
    Ready s ∧ s.car.brk.test.isSelected = false ∧
      Timer.reached 150 (s.car.brk.channels.get .cbA).transit = true ∧ (s.car.brk.channels.get .cbA).state = .applying ∧
      Timer.reached 20 (s.car.brk.channels.get .cbB).departure = true ∧ (s.car.brk.channels.get .cbB).state = .applied) ∧
    (let s := braking .applying .applied
    Ready s ∧ Timer.reached 150 (s.car.brk.channels.get .cbA).transit = false ∧
      Timer.reached 20 (s.car.brk.channels.get .cbB).departure = false) ∧
    (Ready stand ∧ (stand.car.brk.channels.get .cbA).transit = none ∧ (stand.car.brk.channels.get .cbA).departure = none) := by
  unfold Ready
  decide +kernel

/-- CB_A's output reads back energised for 50 ms while it is driven de-energised. -/
def differing (c : Car) : State :=
  ⟨{ c with brk := { c.brk with channels := { c.brk.channels with cbA := { c.brk.channels.cbA with
      readsBack := true, readback := some 5 } } } }, []⟩

/-- Chapter 7, the worked example at 70,440: in fault stop, a readback that differs for 50 ms is later cause 3. -/
theorem test_readback_later_cause :
    (let t := after (exec (.readbackTimeout .cbA) (differing stopped.car))
    (t.car.brk.faultRecord.map fun r => (r.laterCount, r.laterMask), t.car.evr.notices.any fun n => n.detail == 259)) =
    (some (1, 4), true) := by decide +kernel

/-- R100: an output that an EMERGENCY de-energises differs until its readback has followed. -/
theorem test_readback_follows :
    (let t := after (exec (.emergency toCar) drive)
    (drive.car.brk.channels.cbA.readback, t.car.brk.channels.cbA.readback,
      (after (exec (.readbackChange .cbA false) t)).car.brk.channels.cbA.readback)) = (none, some 0, none) := by decide +kernel

/-- Both outputs driven energised and reading back de-energised. -/
def lagging : State := fit { driving with brk := { driving.brk with
  channels := driving.brk.channels.map fun r => { r with readsBack := false } } }

theorem witness_BrakeTimersAndReadback_lagging :
    Ready lagging ∧ Intact lagging.car ∧ (lagging.car.brk.channels.get .cbA).readback = some 0 ∧
    (lagging.car.brk.channels.get .cbA).readsBack = false ∧ (lagging.car.brk.channels.get .cbA).reported = false ∧
    lagging.car.brk.faultStop = false := by
  unfold Ready Intact
  decide +kernel

theorem witness_BrakeTimersAndReadback_readback :
    (Ready (differing stand.car) ∧ Intact (differing stand.car).car ∧
      Timer.reached 5 ((differing stand.car).car.brk.channels.get .cbA).readback = true ∧
      ((differing stand.car).car.brk.channels.get .cbA).reported = false ∧ (differing stand.car).car.brk.faultStop = false ∧
      ((differing stand.car).car.brk.channels.get .cbB).readback = none) ∧
    (Ready (differing stopped.car) ∧ Intact (differing stopped.car).car ∧
      Timer.reached 5 ((differing stopped.car).car.brk.channels.get .cbA).readback = true ∧ (differing stopped.car).car.brk.faultStop = true ∧
      (differing stopped.car).car.brk.faultRecord.isSome = true) := by
  unfold Ready Intact
  decide +kernel

theorem witness_TimebaseEntersFaultStop :
    (Ready stand ∧ Intact stand.car ∧ Timer.reached 8 stand.car.brk.watch = false) ∧
    (let s := ripe stand
    Ready s ∧ Intact s.car ∧ Timer.reached 8 s.car.brk.watch = true ∧ s.car.brk.faultStop = false ∧
      s.car.lif.nonReplyRoom = true ∧ (s.car.lif.queue.any fun q => q.frame.isFaultStop) = false) ∧
    (let s := fit { standing with brk := { standing.brk with test := .onIdle, watch := some 8 }, lif := { standing.lif with
      queue := List.replicate 8 (Queued.fresh (.reply 4 0 .accepted 1 1 .none) 3) } }
    Ready s ∧ Intact s.car ∧ Timer.reached 8 s.car.brk.watch = true ∧ s.car.brk.faultStop = false ∧ s.car.brk.test = .onIdle ∧
      (s.car.lif.queue.any fun q => q.frame.isFaultStop) = false ∧
      ¬ (s.car.lif.nonReplyRoom = true ∨ ∃ q ∈ s.car.lif.queue, q.begun = false ∧ q.frame.kind ∈ [44, 45, 49])) ∧
    (Ready stopped ∧ Timer.reached 8 stopped.car.brk.watch = false) ∧
    (let s : State := ⟨{ stopped.car with brk := { stopped.car.brk with watch := some 8 } }, []⟩
    Ready s ∧ Intact s.car ∧ Timer.reached 8 s.car.brk.watch = true ∧ s.car.brk.faultStop = true ∧ s.car.brk.faultRecord.isSome = true) := by
  unfold Ready Intact
  decide +kernel

/-- Fault stop with a given originate queue and its timers at their limits. -/
def stoppedWith (queue : List Queued) : State := ripe ⟨{ stopped.car with lif := { stopped.car.lif with queue := queue } }, []⟩

theorem witness_FaultStopIsBroadcast :
    (Ready stand ∧ stand.car.brk.faultStop = false) ∧
    (Ready stopped ∧ Timer.reached 50 stopped.car.brk.broadcastTimer = false) ∧
    (let s := ripe stopped
    Ready s ∧ s.car.brk.faultStop = true ∧ Timer.reached 50 s.car.brk.broadcastTimer = true ∧
      s.car.brk.faultRecord.isSome = true ∧ (s.car.lif.queue.any fun q => q.frame.isFaultStop) = true) ∧
    (Ready (stoppedWith []) ∧ Timer.reached 50 (stoppedWith []).car.brk.broadcastTimer = true ∧ (stoppedWith []).car.lif.nonReplyRoom = true) ∧
    (let batch : Queued := Queued.fresh (.noticeBatch 0 [] []) 3
    let s := stoppedWith (fullQueue.take 5 ++ batch :: [])
    Ready s ∧ s.car.lif.nonReplyRoom = false ∧ s.car.lif.queue = fullQueue.take 5 ++ batch :: [] ∧
      batch.frame.isNoticeBatch = true ∧ batch.begun = false ∧
      ∀ x ∈ fullQueue.take 5, ¬ (x.frame.isNoticeBatch = true ∧ x.begun = false)) ∧
    (let s := stoppedWith fullQueue
    Ready s ∧ s.car.lif.nonReplyRoom = false ∧ s.car.lif.queue = [] ++ Queued.fresh (.radioStatus 1) 3 :: fullQueue.drop 1 ∧
      (∀ x ∈ s.car.lif.queue, ¬ (x.frame.isNoticeBatch = true ∧ x.begun = false)) ∧
      (Queued.fresh (.radioStatus 1) 3).frame.kind = 45 ∧ (Queued.fresh (.radioStatus 1) 3).begun = false) ∧
    (let s := stoppedWith (List.replicate 8 (Queued.fresh (.reply 4 0 .accepted 1 1 .none) 3))
    Ready s ∧ s.car.lif.nonReplyRoom = false ∧ ∀ q ∈ s.car.lif.queue, q.begun = true ∨ q.frame.isReply = true) := by
  unfold Ready
  decide +kernel

/-- Car 3 in a brake test, with a reading at CB_B. -/
def testing (test : BrakeTest) (reading : Reading) : State := fit { standing with brk := { standing.brk with
  test := test
  channels := ⟨.reset .applied false, { CogRecord.reset reading false with state := .fault, transit := none, reason := some .releaseTimeout }⟩ } }

/-- CB_B selected, under a command, with a timing that runs. -/
def selectedB (cmd : BrakeCommand) (due : Bool) (timing : Option Timing) : BrakeTest := .onSelected ⟨.cbB, cmd, due, timing, none, 0⟩

/-- A selection's timing goes on with the clock. -/
theorem witness_IdleStepTicks_selected :
    (testing (selectedB .apply false (some ⟨17, .apply, .mid, false⟩)) .mid).pending = [] ∧
    (testing (selectedB .apply false (some ⟨17, .apply, .mid, false⟩)) .mid).car.brk.test =
      .onSelected ⟨.cbB, .apply, false, some ⟨17, .apply, .mid, false⟩, none, 0⟩ := by decide +kernel

theorem witness_RestartTakesEveryBlock_test :
    (let s := testing (selectedB .release false (some ⟨17, .release, .applied, true⟩)) .mid
    Ready s ∧ Reaches toCar .restart s.car ∧ s.car.odo.standstill = true ∧ causesEmpty s.car.brk.causes = true ∧
      s.car.odo.fused ≤ 25 ∧ s.car.brk.test = .onSelected ⟨.cbB, .release, false, some ⟨17, .release, .applied, true⟩, none, 0⟩) ∧
    (stand.car.brk.test = .off ∧ stand.car.dor.proven = true ∧ stand.car.evr.sources.length = 32) := by
  unfold Ready Reaches
  decide +kernel

/-- Readings MID and APPLIED taken by a selected channel: under a timing that runs, with its target watched, and with a deselect
pending. -/
theorem witness_FeedbackSettlesTransits_selected :
    (let s := testing (selectedB .apply true (some ⟨65, .apply, .released, true⟩)) .mid
    Ready s ∧ TestLaw s.car.brk ∧ (s.car.brk.channels.get .cbB).reading ≠ .applied ∧
      s.car.brk.test = .onSelected ⟨.cbB, .apply, true, some ⟨65, .apply, .released, true⟩, none, 0⟩ ∧
      BrakeCommand.apply.target = .applied) ∧
    (let s := testing (.onSelected ⟨.cbB, .release, false, none, some .release, 1⟩) .released
    Ready s ∧ TestLaw s.car.brk ∧ (s.car.brk.channels.get .cbB).reading ≠ .mid ∧
      s.car.brk.test = .onSelected ⟨.cbB, .release, false, none, some .release, 1⟩) ∧
    (Ready stand ∧ TestLaw stand.car.brk ∧ stand.car.brk.test.commandFor .cbA = none) := by
  unfold Ready TestLaw
  decide +kernel

/-- CB_B selected and in transit with a deselect pending, with its apply timing running and without. -/
def pendingB (timing : Option Timing) : State := fit { standing with brk := { standing.brk with
  test := selectedB .apply true timing, channels := ⟨.reset .applied false, .reset .mid false⟩ } }

theorem witness_BrakeTimersAndReadback_pending :
    (let s := ripe (pendingB none)
    Ready s ∧ TestLaw s.car.brk ∧ Timer.reached 150 (s.car.brk.channels.get .cbB).transit = true ∧
      (s.car.brk.channels.get .cbB).state = .applying ∧
      s.car.brk.test = .onSelected ⟨.cbB, .apply, true, none, none, 0⟩) ∧
    (let s := ripe (pendingB (some ⟨149, .apply, .mid, false⟩))
    Ready s ∧ TestLaw s.car.brk ∧ Timer.reached 150 (s.car.brk.channels.get .cbB).transit = true ∧
      s.car.brk.test = .onSelected ⟨.cbB, .apply, true, some ⟨150, .apply, .mid, false⟩, none, 0⟩) := by
  unfold Ready TestLaw
  decide +kernel

theorem witness_TestIsEnteredAndSelects :
    (Ready stand ∧ Reaches toCar .testOn stand.car ∧ stand.car.brk.test = .off ∧ stand.car.odo.standstill = true ∧
      stand.car.brk.doorsProven = true ∧ causesEmpty stand.car.brk.causes = true) ∧
    (Ready (testing .onIdle .mid) ∧ Reaches toCar .testOff (testing .onIdle .mid).car ∧
      Reaches toCar (.select 2) (testing .onIdle .mid).car ∧ (testing .onIdle .mid).car.brk.test = .onIdle ∧
      TestLaw (testing .onIdle .mid).car.brk ∧ CogChannel.ofNumber 2 = some .cbB ∧ CogChannel.ofNumber 1 = some .cbA) ∧
    (Ready drive ∧ Reaches toCar .testOn drive.car ∧ drive.car.odo.standstill = false) := by
  unfold Ready Reaches TestLaw
  decide +kernel

theorem witness_TestCommandsTimeTheChannel :
    (let s := testing (selectedB .apply false none) .mid
    Ready s ∧ TestLaw s.car.brk ∧ Reaches toCar .testRelease s.car ∧ Reaches toCar .testApply s.car ∧
      s.car.brk.test = .onSelected ⟨.cbB, .apply, false, none, none, 0⟩) ∧
    (let s := testing (selectedB .release false (some ⟨17, .release, .applied, true⟩)) .mid
    Ready s ∧ TestLaw s.car.brk ∧ Reaches toCar .testApply s.car ∧
      s.car.brk.test = .onSelected ⟨.cbB, .release, false, some ⟨17, .release, .applied, true⟩, none, 0⟩) ∧
    (let s := testing (selectedB .apply true (some ⟨0, .apply, .mid, false⟩)) .mid
    Ready s ∧ TestLaw s.car.brk ∧ Reaches toCar .testApply s.car ∧
      s.car.brk.test = .onSelected ⟨.cbB, .apply, true, some ⟨0, .apply, .mid, false⟩, none, 0⟩) := by
  unfold Ready Reaches TestLaw
  decide +kernel

theorem witness_TestTimerRecordsExceeded :
    (let s := testing (selectedB .apply true (some ⟨150, .apply, .mid, false⟩)) .mid
    Ready s ∧ s.car.brk.test = .onSelected ⟨.cbB, .apply, true, some ⟨150, .apply, .mid, false⟩, none, 0⟩) ∧
    (Ready stand ∧ ∀ sel g, stand.car.brk.test = .onSelected sel → sel.timing = some g → g.elapsed < 150) := by
  have h : stand.car.brk.test = .off := by decide +kernel
  refine ⟨?_, ?_, fun sel g hs => by rw [h] at hs; cases hs⟩ <;> unfold Ready <;> decide +kernel

theorem witness_DeselectDecidesTheTest :
    (let s := testing (selectedB .apply false none) .applied
    Ready s ∧ TestLaw s.car.brk ∧ Reaches toCar .deselect s.car ∧ s.car.brk.test = .onSelected ⟨.cbB, .apply, false, none, none, 0⟩ ∧
      (s.car.brk.channels.get .cbB).reading = .applied) ∧
    (let s := testing (selectedB .release false none) .mid
    Ready s ∧ TestLaw s.car.brk ∧ Reaches toCar .deselect s.car ∧ s.car.brk.test = .onSelected ⟨.cbB, .release, false, none, none, 0⟩ ∧
      (s.car.brk.channels.get .cbB).reading ≠ .applied) ∧
    (Ready stand ∧ TestLaw stand.car.brk ∧ Reaches toCar .deselect stand.car ∧ stand.car.brk.test.isSelected = false) := by
  unfold Ready Reaches TestLaw
  decide +kernel

/-- R123: a DESELECT finds the reading APPLIED while the release timing still runs. -/
theorem witness_DeselectDecidesTheTest_releasing :
    (let s := testing (selectedB .release false (some ⟨149, .release, .mid, false⟩)) .applied
    Ready s ∧ TestLaw s.car.brk ∧ Reaches toCar .deselect s.car ∧
      s.car.brk.test = .onSelected ⟨.cbB, .release, false, some ⟨149, .release, .mid, false⟩, none, 0⟩ ∧
      (s.car.brk.channels.get .cbB).reading = .applied) := by
  unfold Ready Reaches TestLaw
  decide +kernel

/-- Chapter 7: a release timed at 82 and then an apply at 65 pass, and BRAKE_TEST_RESULT occurs with detail 513. -/
def timedTest (release apply : Nat) : State :=
  let s := testing (selectedB .apply false none) .applied
  ⟨{ s.car with brk := { s.car.brk with results := ⟨.reset, ⟨⟨.ticks release, true, 1⟩, ⟨.ticks apply, true, 2⟩, .none⟩⟩ } }, []⟩

theorem test_brake_test_pass :
    (let s := after (exec (.deselect toCar) (timedTest 82 65))
    (s.car.brk.results.cbB.result, s.car.brk.channels.cbB.state)) = (.pass, .applied) ∧
    (15, 513) ∈ (after (exec (.deselect toCar) (timedTest 82 65))).car.evr.notices.map (fun n => (n.source, n.detail)) := by
  decide +kernel

/-! ### The doors -/

/-- A segment whose platform spans exactly the extent of a car of 18 m at 100,000 cm with an uncertainty of 300 cm. -/
def station : Segment := { seg 5 90000 20000 0 20 with platform := some ⟨.both, 98800, 101200⟩ }.write

def atPlatform : State := fit { standing with
  odo := { standing.odo with position := ⟨.known, 100000, 300, 300, 0, 0, none⟩ }, pst := { Pst.reset with table := [station] } }

theorem witness_ReleaseIsGrantedOnlySafely :
    (Ready atPlatform ∧ Intact atPlatform.car ∧ Reaches toCar (.doorRelease 1 true false) atPlatform.car ∧
      Side.ofCode 1 = some .left ∧ atPlatform.car.odo.standstill = true ∧
      atPlatform.car.brk.channels.cbA.reading = .applied ∧ atPlatform.car.brk.channels.cbB.reading = .applied ∧
      atPlatform.car.odo.position.state = .known ∧ atPlatform.car.pst.table = [station] ∧ station.checkFailed = false ∧
      station.platform = some ⟨.both, 100000 - 300 - 900, 100000 + 300 + 900⟩ ∧ atPlatform.car.lif.params.carLength / 2 = 900) ∧
    (Ready stand ∧ Intact stand.car ∧ Reaches toAll (.doorRelease 2 false true) stand.car ∧ Side.ofCode 2 = some .right ∧
      stand.car.odo.position.state ≠ .known) ∧
    (Ready drive ∧ Intact drive.car ∧ Reaches toAll (.doorRelease 3 false false) drive.car ∧ drive.car.odo.standstill = false) := by
  unfold Ready Reaches Intact
  decide +kernel

/-- Leaves OPEN, UNLOCKED, LOCKED and CLOSING, with both sides granted. -/
def doorsOpen : State := fit { standing with dor := { standing.dor with
  leaves := ⟨{ LeafRecord.reset false with state := .opened }, { LeafRecord.reset false with state := .unlocked },
    { LeafRecord.reset false with state := .locked }, { LeafRecord.reset false with state := .closing, motion := some 3 }⟩
  sides := .all ⟨some 0, true, false, .none, none⟩ } }

/-- The car at its platform with leaves OPEN and due, UNLOCKED, UNREAD and CLOSING. -/
def leavesAtPlatform : State := fit { atPlatform.car with dor := { atPlatform.car.dor with
  leaves := ⟨{ LeafRecord.reset false with state := .opened, closeDue := true }, { LeafRecord.reset false with state := .unlocked },
    .reset false, { LeafRecord.reset false with state := .closing, motion := some 3 }⟩
  slots := [(.lh1, .close)], blocks := [⟨.left, [.lh1]⟩] } }

theorem witness_ReleaseIsGrantedOnlySafely_leaves :
    Ready leavesAtPlatform ∧ Intact leavesAtPlatform.car ∧ Reaches toAll (.doorRelease 1 true false) leavesAtPlatform.car ∧
    Reaches toCar (.doorRelease 2 false false) leavesAtPlatform.car ∧ leavesAtPlatform.car.dor.exchange = none ∧
    leavesAtPlatform.car.odo.standstill = true ∧ leavesAtPlatform.car.odo.position.state = .known ∧
    (leavesAtPlatform.car.dor.leaves.get .lh1).state = .opened ∧ (leavesAtPlatform.car.dor.leaves.get .lh1).closeDue = true ∧
    (leavesAtPlatform.car.dor.leaves.get .lh2).state = .unlocked ∧ (leavesAtPlatform.car.dor.leaves.get .rh1).state = .unread ∧
    (leavesAtPlatform.car.dor.leaves.get .rh2).state = .closing ∧ (atPlatform.car.dor.leaves.get .lh1).state = .locked ∧
    leavesAtPlatform.car.dor.blocks = [⟨.left, [.lh1]⟩] := by
  unfold Ready Reaches Intact
  decide +kernel

/-- The same car with an exchange running with the DOU of LH2. -/
def talking : State := fit { leavesAtPlatform.car with dor := { leavesAtPlatform.car.dor with
  exchange := some ⟨.lh2, .status, 1, some 0, false⟩ } }

theorem witness_ReleaseIsGrantedOnlySafely_running :
    Ready talking ∧ Intact talking.car ∧ Reaches toCar (.doorRelease 1 true false) talking.car ∧ talking.car.dor.runsWith .lh2 ∧
    ¬ talking.car.dor.runsWith .lh1 ∧ ¬ talking.car.dor.runsWith .rh1 ∧ talking.car.odo.standstill = true ∧
    talking.car.brk.channels.cbA.reading = .applied ∧ talking.car.brk.channels.cbB.reading = .applied ∧
    talking.car.odo.position.state = .known ∧ talking.car.pst.table = [station] := by
  unfold Ready Reaches Intact
  refine ⟨?_, ?_, ?_, ⟨_, rfl, rfl⟩, ?_, ?_, ?_⟩
  case refine_4 => rintro ⟨x, hx, hl⟩; cases hx; cases hl
  case refine_5 => rintro ⟨x, hx, hl⟩; cases hx; cases hl
  all_goals decide +kernel

/-- The left side's leaves OPEN, the first due, under a close step with a warning timer. -/
def dueDoors (step : CloseStep) (warning : Timer) (slots : List (Leaf × DoorCommand)) : State := fit { standing with
  dor := { standing.dor with
    leaves := { standing.dor.leaves with
      lh1 := { LeafRecord.reset false with state := .opened, closeDue := true }
      lh2 := { LeafRecord.reset false with state := .opened, closeDue := step == .none } }
    sides := { standing.dor.sides with left := ⟨none, false, false, step, warning⟩ }
    slots := slots } }

theorem witness_DoorCloseClosesTheSides_due :
    (Ready (dueDoors .warning (some 7) []) ∧ Reaches toCar (.doorClose 1) (dueDoors .warning (some 7) []).car ∧
      (dueDoors .warning (some 7) []).car.dor.exchange = none ∧
      ((dueDoors .warning (some 7) []).car.dor.sides.get .left).step ≠ .none ∧
      ((dueDoors .warning (some 7) []).car.dor.leaves.get .lh1).closeDue = true) ∧
    (Ready (dueDoors .none none [(.lh1, .close), (.lh2, .close)]) ∧
      Reaches toCar (.doorClose 3) (dueDoors .none none [(.lh1, .close), (.lh2, .close)]).car ∧
      ((dueDoors .none none [(.lh1, .close), (.lh2, .close)]).car.dor.sides.get .left).step = .none) ∧
    (Ready stand ∧ Reaches toCar (.doorClose 2) stand.car ∧ (stand.car.dor.leaves.get .rh1).state = .locked) := by
  unfold Ready Reaches
  decide +kernel

/-- R140 with both leaves due under step NONE: both are sent CHIME afresh and the side chimes. -/
theorem test_close_repeated :
    (let s := after (exec (.doorClose toCar 1) (dueDoors .none none [(.lh1, .close), (.lh2, .close)]))
    (s.car.dor.slots, s.car.dor.sides.left.step)) = ([(.lh1, .chime), (.lh2, .chime)], .chiming) := by decide +kernel

theorem witness_DoorCloseClosesTheSides :
    Ready doorsOpen ∧ Reaches toCar (.doorClose 1) doorsOpen.car ∧ Reaches toCar (.doorClose 3) doorsOpen.car ∧
    Reaches toCar (.doorClose 4) doorsOpen.car ∧ doorsOpen.car.dor.exchange = none ∧
    (doorsOpen.car.dor.leaves.get .lh1).state = .opened ∧ (doorsOpen.car.dor.leaves.get .lh1).closeDue = false ∧
    (doorsOpen.car.dor.leaves.get .lh2).state = .unlocked ∧ (doorsOpen.car.dor.leaves.get .rh2).state = .closing := by
  unfold Ready Reaches
  decide +kernel

/-- A DOOR CLOSE that finds an exchange with LH1's DOU running and a release kept for its end. -/
def keeping (acts : List (Leaf × DeferredAct)) : State := ⟨{ doorsOpen.car with dor := { doorsOpen.car.dor with
  exchange := some ⟨.lh1, .command .lock, 3, some 0, false⟩, deferred := acts } }, []⟩

theorem witness_DoorCloseClosesTheSides_running :
    Ready (keeping [(.lh1, .release)]) ∧ Reaches toCar (.doorClose 1) (keeping [(.lh1, .release)]).car ∧
    (keeping [(.lh1, .release)]).car.dor.runsWith .lh1 ∧ (keeping [(.lh1, .release)]).car.dor.deferred = [(.lh1, .release)] := by
  unfold Ready Reaches
  refine ⟨?_, ?_, ⟨_, rfl, rfl⟩, ?_⟩ <;> decide +kernel

/-- The door bus in a given state. -/
def bus (f : Dor → Dor) : State := ⟨{ doorsOpen.car with dor := f doorsOpen.car.dor }, []⟩

theorem witness_ExchangesStartInOrder :
    Ready (bus fun d => { d with due := some .lh1 }) ∧
    Ready (bus fun d => { d with slots := [(.lh1, .chime), (.rh2, .unlock)] }) ∧
    (let s := bus fun d => { d with
      slots := [(.rh2, .unlock), (.lh1, .close)], blocks := [⟨.left, [.lh1]⟩]
      leaves := d.leaves.set .lh1 { d.leaves.lh1 with closeDue := true } }
    Ready s ∧ (([Leaf.lh1] : List Leaf).find? fun l => s.car.dor.slot l == some .close) = some .lh1) ∧
    Ready doorsOpen ∧ doorsOpen.car.dor.due = none ∧ doorsOpen.car.dor.slots = [] ∧ doorsOpen.car.dor.blocks = [] := by
  unfold Ready
  decide +kernel

/-- An exchange with the DOU of a leaf. -/
def exchanging (leaf : Leaf) (m : DoorMessage) (attempt : Nat) : State :=
  bus fun d => { d with exchange := some ⟨leaf, m, attempt, some 0, false⟩ }

theorem witness_ExchangesFailAtTheThirdAttempt :
    (Ready (ripe (exchanging .lh1 .status 3)) ∧
      (ripe (exchanging .lh1 .status 3)).car.dor.exchange = some ⟨.lh1, .status, 3, some 2, false⟩ ∧
      Timer.reached 2 (some 2) = true ∧ Timer.reached 2 (some 1) = false) ∧
    (Ready (exchanging .lh1 .status 3) ∧ (exchanging .lh1 .status 3).car.dor.exchange = some ⟨.lh1, .status, 3, some 0, false⟩ ∧
      (exchanging .lh1 .status 3).car.dor.deferred = [] ∧
      ((exchanging .lh1 .status 3).car.dor.leaves.get .lh1).state = .opened) ∧
    Ready (exchanging .lh1 .status 2) ∧ (Ready doorsOpen ∧ doorsOpen.car.dor.exchange = none) ∧
    (let s := fit { numbered with dor := { numbered.dor with exchange := some ⟨.lh1, .status, 3, some 0, false⟩ } }
    Ready s ∧ (s.car.dor.leaves.get .lh1).state = .unread) ∧
    (DoorMessage.status).expects .ack = false ∧ (DoorMessage.command .lock).expects .nak = false := by
  unfold Ready
  decide +kernel

theorem witness_StatusRepliesMoveTheLeaf :
    Ready (exchanging .lh1 .status 1) ∧
    (exchanging .lh1 .status 1).car.dor.exchange = some ⟨.lh1, .status, 1, some 0, false⟩ ∧
    (exchanging .lh1 .status 1).car.dor.deferred = [] := by
  unfold Ready
  decide +kernel

theorem witness_StatusRepliesMoveTheLeaf_reopening :
    (let s := bus fun d => { d with
      exchange := some ⟨.lh2, .status, 1, some 0, false⟩
      leaves := d.leaves.set .lh2 { LeafRecord.reset false with state := .reopening, motion := some 9 } }
    Ready s ∧ s.car.dor.exchange = some ⟨.lh2, .status, 1, some 0, false⟩ ∧
      (s.car.dor.leaves.get .lh2).state = .reopening ∧ (s.car.dor.leaves.get .lh2).halfWidth = false) := by
  unfold Ready
  decide +kernel

theorem witness_AcknowledgedCommandsTakeEffect_chime :
    (let s := dueDoors .chiming none []
    let chiming : State := ⟨{ s.car with dor := { s.car.dor with
      sides := { s.car.dor.sides with left := ⟨none, false, false, .chiming, none⟩ }
      exchange := some ⟨.lh1, .command .chime, 1, some 0, false⟩ } }, []⟩
    Ready chiming ∧ chiming.car.dor.exchange = some ⟨.lh1, .command .chime, 1, some 0, false⟩ ∧
      chiming.car.dor.deferred = [] ∧ (chiming.car.dor.leaves.get .lh1).state = .opened ∧
      (chiming.car.dor.sides.get Leaf.lh1.side).step = .chiming ∧ chiming.car.dor.slots = []) ∧
    (let s := exchanging .lh2 .status 1
    Ready s ∧ (s.car.dor.leaves.get .lh2).state = .unlocked ∧ (s.car.dor.sides.get Leaf.lh2.side).release ≠ none ∧
      s.car.brk.faultStop = false ∧ s.car.dor.slot .lh2 = none ∧ s.car.dor.deferred = []) := by
  unfold Ready
  decide +kernel

theorem witness_AcknowledgedCommandsTakeEffect :
    (Ready (exchanging .rh1 (.command .unlock) 1) ∧ (exchanging .rh1 (.command .unlock) 1).car.dor.deferred = [] ∧
      ((exchanging .rh1 (.command .unlock) 1).car.dor.leaves.get .rh1).state = .locked) ∧
    (Ready (exchanging .rh2 .status 1) ∧ ((exchanging .rh2 .status 1).car.dor.leaves.get .rh2).state = .closing ∧
      (exchanging .rh2 .status 1).car.dor.slot .rh2 = none) := by
  unfold Ready
  decide +kernel

/-- The leaf RH2 closing and polled, with an obstacle count. -/
def obstructing (count : Nat) : State := bus fun d => { (d.modify .rh2 fun r => { r with obstacles := count }) with
  exchange := some ⟨.rh2, .status, 1, some 0, false⟩ }

theorem witness_AcknowledgedCommandsTakeEffect_obstacles :
    ∀ count ∈ [1, 2, 3], Ready (obstructing count) ∧
      (obstructing count).car.dor.exchange = some ⟨.rh2, .status, 1, some 0, false⟩ ∧
      (obstructing count).car.dor.deferred = [] ∧ ((obstructing count).car.dor.leaves.get .rh2).state = .closing ∧
      ((obstructing count).car.dor.leaves.get .rh2).obstacles = count ∧ (obstructing count).car.dor.slot .rh2 = none ∧
      (obstructing count).car.brk.faultStop = false := by
  unfold Ready
  decide +kernel

theorem witness_AcknowledgedCommandsTakeEffect_deferred :
    Ready (keeping [(.lh1, .release)]) ∧ Ready (keeping [(.lh1, .release), (.lh1, .close false)]) ∧
    (keeping [(.lh1, .release)]).car.dor.exchange = some ⟨.lh1, .command .lock, 3, some 0, false⟩ ∧
    (keeping [(.lh1, .release)]).car.dor.deferred = [] ++ [(Leaf.lh1, .release)] ∧
    (keeping [(.lh1, .release), (.lh1, .close false)]).car.dor.deferred = [(Leaf.lh1, .release)] ++ [(Leaf.lh1, .close false)] ∧
    (DoorMessage.command .lock).expects .ack = true ∧ (DoorMessage.command .lock).expects .nak = false := by
  unfold Ready
  decide +kernel

/-- R139: a release kept while LOCK runs finds the leaf CLOSING at the reply and sends it OPEN, its motion timer stopped. -/
theorem test_release_kept :
    (let d := (after (exec (.doorBusReply 1 .ack true false) (keeping [(.lh1, .release)]))).car.dor
    (d.exchange, d.deferred, d.slots, d.leaves.lh1.state, d.leaves.lh1.motion)) =
    (none, [], [(.lh1, .openLeaf false)], .closing, none) := by decide +kernel

theorem witness_LeafTimersAndIsolation :
    (Ready doorsOpen ∧ (doorsOpen.car.dor.leaves.get .lh1).contactClosed = false ∧
      Timer.reached 800 (doorsOpen.car.dor.leaves.get .rh2).motion = false ∧
      (doorsOpen.car.dor.leaves.get .rh2).pause = none ∧ (doorsOpen.car.dor.sides.get .left).warning = none) ∧
    (Ready (ripe doorsOpen) ∧ Timer.reached 800 ((ripe doorsOpen).car.dor.leaves.get .rh2).motion = true ∧
      ((ripe doorsOpen).car.dor.leaves.get .rh2).state = .closing) ∧
    (Ready isolated ∧ (isolated.car.dor.leaves.get .lh1).contactClosed = true) ∧
    (let s := bus fun d => { d with
      due := some .rh1
      sides := d.sides.set .left ⟨none, false, false, .warning, some 200⟩
      leaves := (d.leaves.set .lh1 { d.leaves.lh1 with closeDue := true }).set .lh2
        { LeafRecord.reset false with state := .reopening, pause := some 200 } }
    Ready s ∧ Timer.reached 200 (s.car.dor.sides.get .left).warning = true ∧ (s.car.dor.leaves.get .lh1).closeDue = true ∧
      (s.car.dor.leaves.get .lh1).state.commanded = true ∧ Timer.reached 200 (s.car.dor.leaves.get .lh2).pause = true) := by
  unfold Ready
  decide +kernel

/-! ### The sensors and odometry -/

/-- WHEEL_B ACTIVE and valid with a level in progress and a word being received, COG_A ACTIVE and COG_B in FAULT without. -/
def sensing : State := fit { channels with
  tlf := { channels.tlf with
    cogA := { TlfChannel.reset with state := .active, settle := none }
    wheelB := { TlfChannel.reset with
      state := .active, settle := none, level := some ⟨100, 60⟩, receiver := some ⟨55, 100, 0⟩, idleFlag := false } } }

theorem witness_LevelsAreClassified :
    Ready sensing ∧ ((sensing.car.tlf.get .wheelB).state = .active ∧ (sensing.car.tlf.get .wheelB).level = some ⟨100, 60⟩ ∧
      (sensing.car.tlf.get .wheelB).receiver ≠ none ∧ (sensing.car.tlf.get .wheelB).idleFlag = false) ∧
    ((sensing.car.tlf.get .cogB).state = .fault ∧ (sensing.car.tlf.get .cogB).receiver = none) ∧
    (sensing.car.tlf.get .wheelA).state = .settling ∧ sensing.car.odo.standstill = true := by
  unfold Ready
  decide +kernel

/-- The right side granted, with UNLOCK and OPEN waiting on it. -/
theorem witness_LevelsAreClassified_granted :
    (let s := fit { sensing.car with dor := { sensing.car.dor with
      sides := { sensing.car.dor.sides with right := ⟨some 0, false, false, .none, none⟩ }
      slots := [(.rh1, .unlock), (.rh2, .openLeaf false), (.lh1, .lock)] } }
    Ready s ∧ s.car.odo.standstill = true ∧ (s.car.dor.sides.get .right).release ≠ none ∧
      (s.car.tlf.get .wheelB).level = some ⟨100, 60⟩ ∧ s.car.dor.slots.length = 3) := by
  unfold Ready
  decide +kernel

/-- At the ends of the ranges of R25: 20 and 200 µs are a tooth pulse, 19 and 201 are malformed, 1,000 and 3,000 an idle mark. -/
theorem test_level_durations :
    ([19, 20, 200, 201, 999, 1000, 3000, 3001].map fun d =>
      let r := (after (exec (.highLevelEnd .wheelB d 150) sensing)).car.tlf.wheelB
      (r.counts.tooth, r.counts.malformed, r.lastIdle.isSome)) =
    [(0, 1, false), (1, 0, false), (1, 0, false), (0, 1, false), (0, 1, false), (0, 0, true), (0, 0, true), (0, 1, false)] := by
  decide +kernel

theorem witness_ThresholdsFollowTheLists :
    Params.reset.fixedMode.get .cogA = false ∧ TlfChannel.reset.restList = [] ∧
    (∀ x ∈ [70, 62, 80], 62 ≤ x) ∧ (62 ∈ [70, 62, 80]) := by decide

theorem witness_ThresholdsFollowTheLists_flags :
    (let p : Params := { Params.reset with fixedMode := .all true, offsetF := .all 150, offsetO := .all 150 }
    p.fixedMode.get .wheelB = true ∧ p.offsetF.get .wheelB ≤ 150 ∧ p.offsetO.get .wheelB ≤ 150) ∧
    Ready sensing ∧ Reaches toCar .faultRead sensing.car ∧
    (let q := ({ TlfChannel.reset with restList := [0], dataList := [400], toothList := [0] } : TlfChannel).rework
      Params.reset .cogA
    q.satI0 = true ∧ q.satD1 = true ∧ q.satD2 = true) := by
  unfold Ready Reaches
  decide +kernel

theorem witness_DataWordsAreReceived :
    Ready sensing ∧ Intact sensing.car ∧ (List.replicate 9 100).length = 9 ∧
    (sensing.car.tlf.get .wheelB).receiver = some ⟨55, 100, 0⟩ ∧ (sensing.car.tlf.get .cogA).receiver = none ∧
    ((List.range 9).filter fun k => decide (55 < ([100, 60, 50, 50, 50, 50, 50, 50, 50].getD k 0))).length % 2 = 0 ∧
    (let s := fit { descending with tlf := descending.tlf.set .cogA { descending.tlf.cogA with receiver := some ⟨55, 100, 0⟩ } }
    Ready s ∧ Intact s.car ∧ (s.car.tlf.get .cogA).state = .active ∧
      (kindSet s.car.pst.readable s.car.odo.position s.car.lif.params.carLength).rack = true) := by
  unfold Ready Intact
  decide +kernel

theorem witness_LoopFaultsAndSettling :
    Ready (fit channels) ∧ ((fit channels).car.tlf.get .cogA).state = .off ∧ ((fit channels).car.tlf.get .cogB).state ≠ .off ∧
    ((fit channels).car.tlf.get .cogB).latches.openLoop = true ∧ ((fit channels).car.tlf.get .wheelB).latches.openLoop = false ∧
    ((fit channels).car.tlf.get .wheelA).state = .settling ∧
    ((fit channels).car.tlf.get .wheelA).latches = ⟨false, false, false⟩ ∧
    (let s := ripe (fit channels)
    Ready s ∧ (s.car.tlf.get .wheelA).state = .settling ∧ Timer.reached 10 (s.car.tlf.get .wheelA).settle = true ∧
      (s.car.tlf.get .wheelA).latches = ⟨false, false, false⟩) := by
  unfold Ready
  decide +kernel

theorem witness_OdometryUpdateTakesItsSteps :
    (Ready descend ∧ Intact descend.car ∧ descend.car.pst.table.Pairwise fun a b => a.low ≤ b.low) ∧
    (Ready stand ∧ Intact stand.car ∧ stand.car.pst.table.Pairwise fun a b => a.low ≤ b.low) := by
  unfold Ready Intact
  decide +kernel

/-- The standing car with segment 5, which holds marker 4095 at its first centimetre, at a position and a conflict count. -/
def marked (state : PositionState) (pos conflicts : Nat) : State := fit { standing with
  odo := { standing.odo with position := ⟨state, pos, 200, 200, 0, conflicts, none⟩ }
  pst := { Pst.reset with table := [{ seg 5 90000 20000 0 20 with markers := [⟨4095, 0⟩] }.write] } }

theorem witness_FixesSetThePosition :
    (Ready (marked .known 90300 0) ∧ Intact (marked .known 90300 0).car ∧
      Reaches toCar (.positionSet 1999999) (marked .known 90300 0).car ∧ (marked .known 90300 0).car.odo.standstill = true ∧
      ((marked .known 90300 0).car.pst.table.map fun g => (g.checkFailed, g.low, g.markers)) = [(false, 90000, [⟨4095, 0⟩])] ∧
      ((90000 : Int) - 90300).natAbs ≤ 200 + (marked .known 90300 0).car.lif.params.markerTol) ∧
    (Ready (marked .known 90301 0) ∧ 200 + (marked .known 90301 0).car.lif.params.markerTol < ((90000 : Int) - 90301).natAbs ∧
      (marked .known 90301 0).car.odo.position.conflicts = 0) ∧
    (Ready (marked .known 90301 1) ∧ Intact (marked .known 90301 1).car ∧
      (marked .known 90301 1).car.odo.position.conflicts ≠ 0) ∧
    (Ready (marked .lost 0 0) ∧ (marked .lost 0 0).car.odo.position.state ≠ .known) ∧
    (Ready drive ∧ Intact drive.car ∧ Reaches toAll (.positionSet 2000000) drive.car ∧ drive.car.odo.standstill = false ∧
      drive.car.pst.table = []) := by
  unfold Ready Reaches Intact
  decide +kernel

/-- A radio car at 100,000 cm under a shadow segment, LINKED or in SHADOW, and one clear of it. -/
def shaded (link : LinkState) (shadow : Bool) : State := fit { standing with
  odo := { standing.odo with position := ⟨.known, 100000, 300, 300, 0, 0, none⟩ }
  pst := { Pst.reset with table := [{ seg 5 90000 20000 0 20 with shadow := shadow, markers := [⟨7, 10000⟩] }.write] }
  vrl := { Vrl.reset true with link := link } }

theorem witness_ShadowIsTested :
    (Ready (shaded .linked true) ∧ Intact (shaded .linked true).car ∧ (shaded .linked true).car.vrl.role = .radio ∧
      (shaded .linked true).car.vrl.link = .linked ∧ (shaded .linked true).car.odo.standstill = true ∧
      Reaches toCar (.positionSet 100000) (shaded .linked true).car ∧
      findMarker (shaded .linked true).car.pst.readable 7 = some (100000, 5) ∧
      ((100000 : Int) - 100000).natAbs ≤ 300 + (shaded .linked true).car.lif.params.markerTol) ∧
    (Ready (shaded .shadow false) ∧ Intact (shaded .shadow false).car ∧ (shaded .shadow false).car.vrl.link = .shadow) ∧
    (Ready stand ∧ Intact stand.car ∧ stand.car.vrl.role = .follower) := by
  unfold Ready Reaches Intact
  decide +kernel

/-- R156: an update under a shadow segment takes LINKED to SHADOW, and one clear of it takes SHADOW to LINKED. -/
theorem test_shadow :
    (after (exec .odometryUpdate (shaded .linked true))).car.vrl.link = .shadow ∧
    (after (exec .odometryUpdate (shaded .shadow false))).car.vrl.link = .linked := by decide +kernel

/-! ### The store, the restrictions and supervision -/

/-- A full table of segments of 10 m, with the rear of an UP car 6,001 cm past the end of the first. -/
def crowded : State := fit { standing with
  odo := { standing.odo with position := ⟨.known, 7900, 0, 0, 0, 0, none⟩, travelRef := some .up }
  pst := { Pst.reset with table := (List.range 64).map fun n => seg n (1000 * n) 1000 0 20 } }

/-- A segment at the end of the line, in range to the last centimetre. -/
def lastBody : SegmentBody := ⟨1023, 1999900, 100, 30, 480, 40, 40, 0, 99, [⟨4095, 99⟩]⟩

theorem witness_StoreTakesSegments :
    (Ready crowded ∧ Intact crowded.car ∧ Reaches toCar (.segmentLoad lastBody) crowded.car ∧
      64 ≤ (crowded.car.pst.table.filter fun x => !(x.id == lastBody.id)).length ∧
      (evictee crowded.car.pst.table crowded.car.odo.position crowded.car.lif.params crowded.car.odo.travelRef).map Segment.id =
        some 0 ∧ (7900 : Int) - 0 - 900 - (0 + 1000 - 1) = ((5000 + 1000 : Nat) : Int) + 1) ∧
    (lastBody.id ≤ 1023 ∧ lastBody.low ≤ 1999999 ∧ lastBody.low + lastBody.length ≤ 2000000 ∧ lastBody.kindByte % 4 ≠ 3 ∧
      lastBody.platformHigh < lastBody.length) ∧
    (Ready atPlatform ∧ Intact atPlatform.car ∧ Reaches toAll (.segmentLoad lastBody) atPlatform.car ∧
      (atPlatform.car.pst.table.filter fun x => !(x.id == lastBody.id)).length < 64 ∧
      Reaches toCar (.segmentRemove 5) atPlatform.car ∧
      (atPlatform.car.pst.table.find? fun y => y.id == 5) = some station) ∧
    (Reaches toCar (.segmentRemove 1023) crowded.car ∧ (∀ x ∈ crowded.car.pst.table, x.id ≠ 1023)) ∧
    (Reaches toCar (.pinWindowSet 4 true 1023 0) crowded.car ∧
      48 < (crowded.car.pst.table.filter fun x =>
        (crowded.car.pst.windows.set 3 ⟨true, 1023, 0⟩).any fun w => w.valid && (x.id &&& w.mask == w.value &&& w.mask)).length ∧
      (crowded.car.pst.table.filter fun x =>
        (crowded.car.pst.windows.set 3 ⟨true, 63, 1023⟩).any fun w => w.valid && (x.id &&& w.mask == w.value &&& w.mask)).length
        ≤ 48) := by
  unfold Ready Reaches Intact
  decide +kernel

/-- The coverage worked example of chapter 1: the run 41, 40, 39, whose last record nothing abuts. -/
theorem witness_StoreTakesSegments_coverage :
    (slope.Pairwise fun a b => a.low + a.length ≤ b.low) ∧ (∀ x ∈ slope, 0 < x.length) ∧
    (∃ first ∈ slope, first.id = 41 ∧ (first.low : Int) ≤ 248600 + 300 + (1800 / 2 : Nat) ∧
      (248600 : Int) + 300 + (1800 / 2 : Nat) ≤ (first.low : Int) + first.length - 1) ∧
    (∀ x ∈ slope, ¬ ((x.low : Int) ≤ 252000 ∧ 252000 ≤ (x.low : Int) + x.length - 1)) ∧
    (∀ x ∈ slope, -480 ≤ x.gradient ∧ x.gradient ≤ 480) := by decide +kernel

theorem witness_StoreTakesSegments_order : crowded.car.pst.table.Pairwise fun a b => a.low ≤ b.low := by decide +kernel

theorem witness_EveryStepKeepsTheStoreLaw : StoreLaw atPlatform.car.pst ∧ ∃ t, step atPlatform = .next t := by
  have table : atPlatform.car.pst.table = [station] := by decide +kernel
  refine ⟨⟨by decide +kernel, by decide +kernel, by decide +kernel, by decide +kernel, by decide +kernel, ?_, by decide +kernel⟩,
    _, rfl⟩
  intro s hs
  rw [table, List.mem_singleton] at hs
  subst hs
  refine ⟨by decide, by decide, by decide, by decide, by decide, by decide, by decide, by decide, by decide, by decide, by decide,
    fun q hq => ?_⟩
  cases hq
  decide

/-- The standing car at a KNOWN position with two records whose check words are wrong, in fault stop or out of it. -/
def corrupted (c : Car) : State := fit { c with
  odo := { c.odo with position := ⟨.known, 100000, 300, 300, 0, 0, none⟩ }
  pst := { Pst.reset with table := [{ seg 4 80000 10000 0 20 with check := 0 }, { seg 5 90000 20000 0 20 with check := 0 }] } }

theorem witness_CheckFailuresStopTheCar :
    (Ready (corrupted standing) ∧ ((corrupted standing).car.pst.table.filter Segment.mismatch).length = 2 ∧
      Reaches toCar (.segmentLoad lastBody) (corrupted standing).car ∧ bodySegment lastBody ≠ none ∧
      (lastBody.markers.map MarkerField.id).Nodup ∧ Reaches toCar (.segmentRemove 1023) (corrupted standing).car ∧
      Reaches toAll (.pinWindowSet 4 true 1023 1023) (corrupted standing).car ∧
      (corrupted standing).car.odo.position.state ≠ .unknown ∧ (corrupted standing).car.brk.faultStop = false) ∧
    (Ready (corrupted stopped.car) ∧ ((corrupted stopped.car).car.pst.table.filter Segment.mismatch).length = 2 ∧
      (corrupted stopped.car).car.brk.faultStop = true ∧ (corrupted stopped.car).car.brk.faultRecord.isSome = true) := by
  unfold Ready Reaches
  decide +kernel

/-- R20 and R128: the first failure enters fault stop and the second is a later cause; the flags of both are set. -/
theorem test_check_failures :
    (let s := after (exec (.markerRead 7 true) (corrupted standing))
    (s.car.brk.faultRecord.map fun r => (r.cause, r.laterCount, r.laterMask), s.car.pst.table.map Segment.checkFailed)) =
    (some (.profileCheck, 1, 1), [true, true]) := by decide +kernel

theorem witness_RestrictionsAreListed :
    (Ready (fit restricted) ∧ Reaches toCar (.restrictionAdd 204 0 1999999 41 3) (fit restricted).car ∧
      Reaches toCar (.restrictionAdd 16 0 0 0 1) (fit restricted).car ∧ Reaches toCar (.restrictionCancel 200) (fit restricted).car ∧
      AppliesTo.ofCode 3 = some .both ∧ AppliesTo.ofCode 1 = some .up ∧ AppliesTo.ofCode 4 = none ∧
      (∃ r ∈ (fit restricted).car.ssv.restrictions, r.id = 16) ∧
      (∀ r ∈ (fit restricted).car.ssv.restrictions, r.id ≠ 204) ∧ 16 ≤ (fit restricted).car.ssv.restrictions.length ∧
      (∃ e ∈ (fit restricted).car.ssv.overflow, e.id = 200) ∧ (∀ e ∈ (fit restricted).car.ssv.overflow, e.id ≠ 204) ∧
      4 ≤ (fit restricted).car.ssv.overflow.length) ∧
    (Ready stand ∧ Reaches toAll (.restrictionAdd 255 0 0 40 2) stand.car ∧ stand.car.ssv.restrictions.length < 16 ∧
      stand.car.ssv.overflow.length < 4 ∧ Reaches toAll (.restrictionCancel 256) stand.car) := by
  unfold Ready Reaches
  decide +kernel

/-- The descending car with an evaluation that runs. -/
def evaluating (e : EvalCopy) : State := fit { descending with ssv := { descending.ssv with running := some e } }

theorem witness_EvaluationsBoundTheSpeed :
    (Ready (evaluating descent) ∧ Intact (evaluating descent).car ∧ (evaluating descent).car.ssv.running = some descent ∧
      descent.direction ≠ .neutral ∧ descent.position.state = .known ∧ descent.available ≠ 0 ∧
      descent.direction.sense = some .down ∧ descent.coverage = some 240000 ∧
      covered (evaluating descent).car.pst.readable (248600 - 300 - 900) (248600 + 300 + 900) = true) ∧
    (let s := fit { standing with ssv := { standing.ssv with waiting := ⟨false, false⟩ } }
    Ready s ∧ s.car.ssv.running = none ∧ s.car.ssv.waiting.cause = false) ∧
    (let s := fit { standing with ssv := { standing.ssv with waiting := ⟨true, true⟩ } }
    Ready s ∧ s.car.ssv.waiting.cause = true ∧ s.car.ssv.running = none) ∧
    (let lost : EvalCopy := { descent with position := { descent.position with state := .lost } }
    Ready (evaluating lost) ∧ lost.direction.sense = some .down ∧ lost.available ≠ 0) ∧
    Ready (evaluating { descent with available := 0 }) ∧ Ready (evaluating { descent with direction := .neutral }) := by
  unfold Ready Intact
  decide +kernel

theorem witness_CurvesAndTargets :
    Ready (evaluating descent) ∧ Intact (evaluating descent).car ∧ (evaluating descent).car.ssv.running = some descent ∧
    descent.direction.sense = some .down ∧ descent.position.state = .known ∧ descent.available ≠ 0 ∧
    descent.coverage = some 240000 ∧
    covered ((evaluating descent).car.pst.table.filter fun x => !x.checkFailed) (248600 - 300 - 900) (248600 + 300 + 900) = true ∧
    (Ready (evaluating { descent with direction := .up, coverage := some 252000 }) ∧ Direction.up.sense = some .up) := by
  unfold Ready Intact
  decide +kernel

/-- R63: a target below the limit and the caps; of equal caps the first of their table; and at a LOST position the limit of segment
41 before the caps that equal it, and the cap below it. -/
theorem test_limiting_source_ties :
    (let kmh (n : Nat) : Params := { Params.reset with radioCap := n, meshCap := n, lostCap := n }
    let source (e : EvalCopy) := (assess e slope).source
    let at18 : EvalCopy := { descent with radioLost := true, meshShallow := true, params := kmh 18 }
    (source at18, source { at18 with params := kmh 5 },
      source { at18 with radioLost := false, params := kmh 5 },
      source { at18 with position := { descent.position with state := .lost } },
      source { at18 with
        radioLost := false, meshShallow := false, params := kmh 5, position := { descent.position with state := .lost } })) =
    (.targetSegment 39, .cap .radioLoss, .cap .mesh, .limitSegment 41, .cap .lostPosition) := by decide +kernel

/-- Chapter 4: lanes that differ are a CROSSCHECK, recorded with the P of the record as it was. -/
theorem test_crosscheck :
    (let s := after (exec (.evaluationEnd (some 462)) (evaluating descent))
    (s.car.brk.faultStop, s.car.brk.faultRecord.map fun r => (r.cause, r.p))) = (true, some (.crosscheck, 0)) ∧
    (after (exec (.evaluationEnd (some 463)) (evaluating descent))).car.brk.faultStop = false := by decide +kernel

/-! ### The radio -/

theorem witness_RadioFramesAreTaken :
    (Ready stand ∧ Intact stand.car ∧ stand.car.vrl.role = .follower) ∧
    (let s := fit linked
    let f : RadioFrame := ⟨4, 7, 3, 10, []⟩
    Ready s ∧ Intact s.car ∧ s.car.vrl.role = .radio ∧ s.car.vrl.link = .linked ∧ s.car.brk.faultStop = false ∧
      parseRadio (radioBytes f) = some f ∧ f.train = s.car.lif.params.trainId ∧ f.number ≠ 0 ∧ s.car.vrl.transmit ≠ none ∧
      s.car.vrl.reports.length < 4 ∧ (∀ e ∈ s.car.vrl.recent, e.number ≠ 10) ∧ (∃ e ∈ s.car.vrl.recent, e.number = 9) ∧
      s.car.lif.nonReplyRoom = true ∧ s.car.ssv.restrictions.length < 16 ∧ parseRadio [] = none ∧
      parseOrder 3 [0] = none ∧
      parseOrder 1 (orderBytes (.restrictionAdd 255 0 1999999 40 3)) = some (.restrictionAdd 255 0 1999999 40 3)) ∧
    (let s := fit { linked with vrl := { linked.vrl with link := .linking, shadowStands := true } }
    Ready s ∧ Intact s.car ∧ s.car.vrl.role = .radio ∧ s.car.vrl.link = .linking ∧ s.car.vrl.shadowStands = true ∧
      parseRadio (radioBytes ⟨1, 7, 16, 0, []⟩) = some ⟨1, 7, 16, 0, []⟩) := by
  unfold Ready Intact
  decide +kernel

/-- A radio car in a given link state, with a FREE modem or a full report queue. -/
def radioIn (link : LinkState) (transmit : Option Transmit) (reports : List Report) : State := fit { linked with vrl := { linked.vrl with
  link := link, transmit := transmit, reports := reports, stopNumber := some 7
  supervision := if link = .linked then some ⟨0, 6⟩ else none
  shadow := if link = .shadow then some ⟨0, 120⟩ else none } }

theorem witness_RadioFramesAreTaken_links :
    (∀ link ∈ [LinkState.lost, .linking, .linked, .shadow], ∀ transmit ∈ [none, some (⟨[], 0⟩ : Transmit)],
      ∀ reports ∈ [[], List.replicate 8 (Report.alarm 3 5 0 0 3)],
      let s := radioIn link transmit reports
      Ready s ∧ Intact s.car ∧ s.car.vrl.role = .radio ∧ s.car.vrl.link = link ∧ s.car.brk.faultStop = false ∧
        ∀ e ∈ s.car.vrl.recent, e.number ≠ 10) ∧
    parseRadio (radioBytes ⟨4, 7, 4, 10, beBytes 2 7⟩) = some ⟨4, 7, 4, 10, beBytes 2 7⟩ ∧
    parseRadio (radioBytes ⟨1, 7, 6, 10, []⟩) = some ⟨1, 7, 6, 10, []⟩ ∧
    AppliesTo.ofCode 3 ≠ none := by
  unfold Ready Intact
  decide +kernel

/-- Chapter 9, a crowded queue: what waits as order 509 arrives. -/
def crowdedReports : State := fit { linked with vrl := { linked.vrl with
  recent := (List.range 8).map fun k =>
    ⟨501 + k, 2, orderBytes (.restrictionCancel 1), if k = 3 then .listFull else .accepted, .placed⟩
  reports := [.ack 507 .accepted true false .placed, .alarm 1 5 0 0 3, .position (positionNow 0 linked), .alarm 2 5 0 0 3,
    .ack 508 .accepted true false .placed, .alarm 3 5 0 0 3, .alarm 4 5 0 0 3, .alarm 5 5 0 0 3] } }

/-- Each report by its kind, with an acknowledgement's order number or an alarm's source. -/
def reportKinds (s : State) : List (Nat × Nat) := s.car.vrl.reports.map fun r => match r with
  | .ack n .. => (32, n)
  | .position .. => (33, 0)
  | .alarm n .. => (34, n)

theorem test_crowded_queue :
    (let a := after (exec (.radioFrameReceived (radioBytes ⟨1, 7, 2, 509, orderBytes (.restrictionCancel 120)⟩)) crowdedReports)
    (reportKinds a, a.car.vrl.lostReports, a.car.vrl.recent.map OrderEntry.number)) =
    ([(32, 507), (33, 0), (34, 2), (32, 508), (34, 3), (34, 4), (34, 5), (32, 509)], 1,
      [502, 503, 504, 505, 506, 507, 508, 509]) := by decide +kernel

theorem test_crowded_queue_report :
    (let a := after (exec .reportTimerExpiry (ripe crowdedReports))
    (reportKinds a, a.car.vrl.lostReports)) =
    ([(32, 507), (34, 1), (34, 2), (32, 508), (34, 3), (34, 4), (34, 5), (33, 0)], 1) := by decide +kernel

/-- The linked radio car with full restriction lists, and with its originate queue full. -/
def linkedFull : Car := { linked with
  ssv := { linked.ssv with restrictions := sixteen, overflow := [⟨200, 10⟩] }
  vrl := { linked.vrl with recent := [⟨9, 3, [], .accepted, .dropped⟩] } }

theorem witness_RadioFramesAreTaken_lists :
    (let s := fit linkedFull
    Ready s ∧ Intact s.car ∧ s.car.vrl.link = .linked ∧ s.car.vrl.role = .radio ∧ s.car.lif.nonReplyRoom = true ∧
      16 ≤ s.car.ssv.restrictions.length ∧ (∃ r ∈ s.car.ssv.restrictions, r.id = 16) ∧ (∀ r ∈ s.car.ssv.restrictions, r.id ≠ 255) ∧
      parseOrder 2 (orderBytes (.restrictionCancel 200)) = some (.restrictionCancel 200) ∧
      parseOrder 2 (orderBytes (.restrictionCancel 0)) = some (.restrictionCancel 0) ∧
      (∃ x ∈ s.car.ssv.overflow, x.id = 200) ∧ (∀ x ∈ s.car.ssv.overflow, x.id ≠ 201) ∧
      parseOrder 5 (orderBytes (.segmentDelivery lastBody)) = some (.segmentDelivery lastBody) ∧
      parseRadio (radioBytes ⟨4, 7, 5, 10, orderBytes (.segmentDelivery lastBody)⟩) =
        some ⟨4, 7, 5, 10, orderBytes (.segmentDelivery lastBody)⟩ ∧
      (∃ e ∈ s.car.vrl.recent, e.number = 9 ∧ e.relay = .dropped) ∧ ∀ e ∈ s.car.vrl.recent, e.number ≠ 10) ∧
    (let s := fit { linkedFull with lif := { linkedFull.lif with queue := fullQueue } }
    Ready s ∧ Intact s.car ∧ s.car.lif.nonReplyRoom = false ∧ s.car.vrl.link = .linked ∧ s.car.vrl.transmit ≠ none ∧
      s.car.vrl.reports.length < 4) := by
  unfold Ready Intact
  decide +kernel

/-- A follower that has heard the radio car. -/
def following : State := fit { standing with vrl := { Vrl.reset false with follower := some 300, link := .linked, stopNumber := some 4 } }

theorem witness_FollowersFollowTheRadioCar :
    Ready following ∧ Intact following.car ∧ following.car.vrl.role = .follower ∧ Timer.reached 300 following.car.vrl.follower = true ∧
    following.car.vrl.link ≠ .lost ∧ Reaches toAll (.radioRelay 3 10 []) following.car ∧
    Reaches toAll (.radioStatus 0 1) following.car ∧ (∀ e ∈ following.car.vrl.recent, e.number ≠ 10) := by
  unfold Ready Reaches Intact
  decide +kernel

theorem witness_FollowersFollowTheRadioCar_orders :
    Reaches toAll (.radioRelay 4 10 (beBytes 2 65535)) following.car ∧
    Reaches toAll (.radioRelay 1 10 (orderBytes (.restrictionAdd 1 0 0 40 1))) following.car ∧
    Ready (fit linked) ∧ Intact (fit linked).car ∧ Reaches toAll (.radioRelay 3 9 []) (fit linked).car ∧
    Ready stand ∧ Timer.reached 300 stand.car.vrl.follower = false := by
  unfold Ready Reaches Intact
  decide +kernel

/-- A follower whose restriction lists are full. -/
def followingFull : State := fit { following.car with ssv := { following.car.ssv with restrictions := sixteen, overflow := [⟨200, 10⟩] } }

theorem witness_FollowersFollowTheRadioCar_lists :
    Ready followingFull ∧ Intact followingFull.car ∧ followingFull.car.vrl.role = .follower ∧
    Reaches toAll (.radioRelay 1 10 (orderBytes (.restrictionAdd 255 0 1999999 40 3))) followingFull.car ∧
    16 ≤ followingFull.car.ssv.restrictions.length ∧ (∀ r ∈ followingFull.car.ssv.restrictions, r.id ≠ 255) ∧
    Reaches toAll (.radioRelay 2 10 (orderBytes (.restrictionCancel 200))) followingFull.car ∧
    (∃ x ∈ followingFull.car.ssv.overflow, x.id = 200) ∧
    Reaches toAll (.radioRelay 5 10 (orderBytes (.segmentDelivery lastBody))) followingFull.car ∧
    (∃ r ∈ followingFull.car.ssv.restrictions, r.id = 16) ∧
    parseOrder 1 (orderBytes (.restrictionAdd 16 0 0 41 1)) = some (.restrictionAdd 16 0 0 41 1) ∧
    parseOrder 1 (orderBytes (.restrictionAdd 16 1 0 40 1)) = some (.restrictionAdd 16 1 0 40 1) ∧
    parseOrder 1 (orderBytes (.restrictionAdd 0 0 0 40 4)) = some (.restrictionAdd 0 0 0 40 4) ∧
    ∀ e ∈ followingFull.car.vrl.recent, e.number ≠ 10 := by
  unfold Ready Reaches Intact
  decide +kernel

theorem witness_RadioTimersAndModem :
    (let s := ripe (fit linked)
    Ready s ∧ Intact s.car ∧ s.car.vrl.transmit.map Transmit.elapsed = some 200 ∧
      s.car.vrl.supervision.map LimitedTimer.reached = some true ∧ s.car.vrl.link = .linked ∧
      s.car.vrl.shadow = none ∧ s.car.vrl.role = .radio ∧ Timer.reached 100 s.car.vrl.statusTimer = true ∧
      Timer.reached 1000 s.car.vrl.reportTimer = true ∧ s.car.brk.faultStop = false ∧ s.car.lif.nonReplyRoom = true ∧
      (s.car.lif.queue.any fun q => q.frame.isRadioStatus) = false ∧ s.car.vrl.reports.length < 8) ∧
    (let s := fit { linked with vrl := { linked.vrl with link := .shadow, shadow := some ⟨12000, 120⟩, supervision := none } }
    Ready s ∧ Intact s.car ∧ s.car.vrl.shadow = some ⟨12000, 120⟩ ∧ s.car.vrl.link = .shadow) ∧
    (Ready (fit linked) ∧ Timer.reached 100 (fit linked).car.vrl.statusTimer = false ∧
      Timer.reached 1000 (fit linked).car.vrl.reportTimer = false) ∧
    (Ready stand ∧ Intact stand.car ∧ stand.car.vrl.transmit = none ∧ stand.car.vrl.role = .follower) := by
  unfold Ready Intact
  decide +kernel

theorem witness_RadioTimersAndModem_queue :
    (let v := crowdedReports.car.vrl
    v.role = .radio ∧ v.transmit ≠ none ∧ v.reports.length = 8 ∧ (∃ q ∈ v.reports, q.isPosition = true) ∧
      (∃ q ∈ v.reports, q.isAck = false)) ∧
    (let v := (radioIn .lost none []).car.vrl
    v.role = .radio ∧ v.transmit = none ∧ v.reports ++ [.alarm 3 5 0 0 3] = .alarm 3 5 0 0 3 :: []) ∧
    (let v := (radioIn .shadow (some ⟨[], 0⟩) (List.replicate 8 (.ack 9 .accepted true false .placed))).car.vrl
    v.reports.length = 8 ∧ (∀ q ∈ v.reports, q.isAck = true) ∧ ∀ q ∈ v.reports, q.isPosition = false) ∧
    (linked.vrl.role = .radio ∧ linked.vrl.transmit ≠ none ∧ linked.vrl.reports.length < 8) ∧ stand.car.vrl.role = .follower := by
  decide +kernel

end Sys2Proof.Tests
end

section
/-! Adaptive quantities, thresholds and saturation flags of the tooth loop front end (R28, R29), and O47. The layer goes in the
order of the model: one quantity, the record worked out anew, the occurrences handed with it, and what clears the flags. -/

namespace Sys2Proof.Machine

/-! ## One quantity -/

/-- The clamp of a difference of samples in natural numbers: a difference below 0 is below every range (R28). -/
theorem clampTo_sub_fst (lo hi m s : Nat) : (clampTo lo hi ((m : Int) - s)).1 = max lo (min hi (m - s)) := by
  simp only [clampTo]
  omega

theorem clampTo_sub_snd (lo hi m s : Nat) :
    (clampTo lo hi ((m : Int) - s)).2 = true ↔ m < s + lo ∨ s + hi < m := by
  simp only [clampTo, decide_eq_true_eq]
  omega

theorem quantity_nil (initial lo hi : Nat) (x : Int) : quantity [] initial lo hi x = (initial, false) := rfl

theorem quantity_of_ne_nil {l : List Nat} (h : l ≠ []) (initial lo hi : Nat) (x : Int) :
    quantity l initial lo hi x = clampTo lo hi x := if_neg h

/-- A quantity is clamped exactly when its list has a sample and the value leaves its range (R28). -/
theorem quantity_sub_snd (l : List Nat) (initial lo hi m s : Nat) :
    (quantity l initial lo hi ((m : Int) - s)).2 = true ↔ l ≠ [] ∧ (m < s + lo ∨ s + hi < m) := by
  by_cases h : l = []
  · simp [h, quantity_nil]
  · simp [h, quantity_of_ne_nil h, clampTo_sub_snd]

/-- The lowest sample is the least one of the list (R28). -/
theorem min?_getD_of_least {l : List Nat} {m : Nat} (hm : m ∈ l) (hle : ∀ x ∈ l, m ≤ x) : l.min?.getD 0 = m := by
  rw [List.min?_eq_some_iff.2 ⟨hm, hle⟩, Option.getD_some]

theorem exists_least_mem {l : List Nat} (h : l ≠ []) : ∃ m ∈ l, ∀ x ∈ l, m ≤ x := by
  obtain ⟨m, hm⟩ := Option.isSome_iff_exists.1 (List.isSome_min?_of_ne_nil h)
  exact ⟨m, List.min?_eq_some_iff.1 hm⟩

/-! ## The record worked out anew -/

section Rework
variable (r : TlfChannel) (p : Params) (ch : LoopChannel)

/-- The rest current, its lowest sample written less 0, the form that the clamp of a difference takes. -/
theorem rework_i0 :
    (r.rework p ch).i0 = (quantity r.restList p.i0Min p.i0Min (p.i0Min + p.i0Span) ((r.restList.min?.getD 0 : Nat) - (0 : Nat))).1 := by
  simp [TlfChannel.rework]

theorem rework_satI0 :
    (r.rework p ch).satI0 = (r.satI0 || (!p.fixedMode.get ch &&
      (quantity r.restList p.i0Min p.i0Min (p.i0Min + p.i0Span) ((r.restList.min?.getD 0 : Nat) - (0 : Nat))).2)) := by
  simp [TlfChannel.rework]

theorem rework_d1 :
    (r.rework p ch).d1 = (quantity r.dataList 30 30 70 ((meanOf r.dataList : Int) - (r.rework p ch).i0)).1 := rfl

theorem rework_satD1 :
    (r.rework p ch).satD1 = (r.satD1 || (!p.fixedMode.get ch &&
      (quantity r.dataList 30 30 70 ((meanOf r.dataList : Int) - (r.rework p ch).i0)).2)) := rfl

theorem rework_d2 :
    (r.rework p ch).d2 = (quantity r.toothList 60 60 120
      ((meanOf r.toothList : Int) - ((r.rework p ch).i0 + (r.rework p ch).d1 : Nat))).1 := by
  rw [Nat.cast_add, ← sub_sub]
  rfl

theorem rework_satD2 :
    (r.rework p ch).satD2 = (r.satD2 || (!p.fixedMode.get ch && (quantity r.toothList 60 60 120
      ((meanOf r.toothList : Int) - ((r.rework p ch).i0 + (r.rework p ch).d1 : Nat))).2)) := by
  rw [Nat.cast_add, ← sub_sub]
  rfl

theorem rework_thresholds :
    ((r.rework p ch).t1, (r.rework p ch).t2) =
      thresholds p ch (r.rework p ch).i0 (r.rework p ch).d1 (r.rework p ch).d2 := rfl

/-- A record worked out anew is the record with other quantities, thresholds and saturation flags. -/
theorem rework_frame :
    r.rework p ch = { r with
      i0 := (r.rework p ch).i0, d1 := (r.rework p ch).d1, d2 := (r.rework p ch).d2
      t1 := (r.rework p ch).t1, t2 := (r.rework p ch).t2
      satI0 := (r.rework p ch).satI0, satD1 := (r.rework p ch).satD1, satD2 := (r.rework p ch).satD2 } := rfl

variable {r p ch}

theorem rework_i0_of_nil (h : r.restList = []) : (r.rework p ch).i0 = p.i0Min := by
  rw [rework_i0, h, quantity_nil]

theorem rework_d1_of_nil (h : r.dataList = []) : (r.rework p ch).d1 = 30 := by
  rw [rework_d1, h, quantity_nil]

theorem rework_d2_of_nil (h : r.toothList = []) : (r.rework p ch).d2 = 60 := by
  rw [rework_d2, h, quantity_nil]

theorem rework_i0_of_least {m : Nat} (hm : m ∈ r.restList) (hle : ∀ x ∈ r.restList, m ≤ x) :
    (r.rework p ch).i0 = max p.i0Min (min (p.i0Min + p.i0Span) m) := by
  rw [rework_i0, quantity_of_ne_nil (List.ne_nil_of_mem hm), min?_getD_of_least hm hle, clampTo_sub_fst, Nat.sub_zero]

theorem rework_d1_of_ne_nil (h : r.dataList ≠ []) :
    (r.rework p ch).d1 = max 30 (min 70 (r.dataList.sum / r.dataList.length - (r.rework p ch).i0)) := by
  rw [rework_d1, quantity_of_ne_nil h]
  exact clampTo_sub_fst 30 70 _ _

theorem rework_d2_of_ne_nil (h : r.toothList ≠ []) :
    (r.rework p ch).d2 =
      max 60 (min 120 (r.toothList.sum / r.toothList.length - (r.rework p ch).i0 - (r.rework p ch).d1)) := by
  rw [rework_d2, quantity_of_ne_nil h, Nat.sub_sub]
  exact clampTo_sub_fst 60 120 _ _

/-! ### Adaptive mode (R28) -/

theorem rework_thresholds_adaptive (h : p.fixedMode.get ch = false) :
    (r.rework p ch).t1 = (r.rework p ch).i0 + (r.rework p ch).d1 / 2 ∧
    (r.rework p ch).t2 = min 390 ((r.rework p ch).i0 + (r.rework p ch).d1 + (r.rework p ch).d2 / 2) := by
  rw [← Prod.mk.injEq, rework_thresholds, thresholds, h]
  rfl

theorem rework_satI0_adaptive (h : p.fixedMode.get ch = false) :
    (r.rework p ch).satI0 = true ↔ r.satI0 = true ∨ ∃ m ∈ r.restList, (∀ x ∈ r.restList, m ≤ x) ∧
      (m < p.i0Min ∨ p.i0Min + p.i0Span < m) := by
  simp only [rework_satI0, h, Bool.not_false, Bool.true_and, Bool.or_eq_true, quantity_sub_snd, Nat.zero_add]
  refine or_congr_right ⟨fun ⟨hne, hout⟩ => ?_, fun ⟨m, hm, hle, hout⟩ => ?_⟩
  · obtain ⟨m, hm, hle⟩ := exists_least_mem hne
    rw [min?_getD_of_least hm hle] at hout
    exact ⟨m, hm, hle, hout⟩
  · rw [min?_getD_of_least hm hle]
    exact ⟨List.ne_nil_of_mem hm, hout⟩

theorem rework_satD1_adaptive (h : p.fixedMode.get ch = false) :
    (r.rework p ch).satD1 = true ↔ r.satD1 = true ∨ (r.dataList ≠ [] ∧
      (r.dataList.sum / r.dataList.length < (r.rework p ch).i0 + 30 ∨
        (r.rework p ch).i0 + 70 < r.dataList.sum / r.dataList.length)) := by
  simp only [rework_satD1, h, Bool.not_false, Bool.true_and, Bool.or_eq_true]
  exact or_congr_right (quantity_sub_snd r.dataList 30 30 70 _ _)

theorem rework_satD2_adaptive (h : p.fixedMode.get ch = false) :
    (r.rework p ch).satD2 = true ↔ r.satD2 = true ∨ (r.toothList ≠ [] ∧
      (r.toothList.sum / r.toothList.length < (r.rework p ch).i0 + (r.rework p ch).d1 + 60 ∨
        (r.rework p ch).i0 + (r.rework p ch).d1 + 120 < r.toothList.sum / r.toothList.length)) := by
  simp only [rework_satD2, h, Bool.not_false, Bool.true_and, Bool.or_eq_true]
  exact or_congr_right (quantity_sub_snd r.toothList 60 60 120 _ _)

/-! ### Fixed mode (R29) -/

theorem rework_thresholds_fixed (h : p.fixedMode.get ch = true) :
    (r.rework p ch).t1 = 30 + p.offsetF.get ch ∧
    (r.rework p ch).t2 = min 390 ((r.rework p ch).t1 + 30 + p.offsetO.get ch) := by
  have ht : (r.rework p ch).t1 = 30 + p.offsetF.get ch ∧
      (r.rework p ch).t2 = min 390 (30 + p.offsetF.get ch + 30 + p.offsetO.get ch) := by
    rw [← Prod.mk.injEq, rework_thresholds, thresholds, h]
    rfl
  exact ⟨ht.1, by rw [ht.1, ht.2]⟩

/-- In fixed mode no clamp sets a flag. -/
theorem rework_flags_fixed (h : p.fixedMode.get ch = true) :
    (r.rework p ch).satI0 = r.satI0 ∧ (r.rework p ch).satD1 = r.satD1 ∧ (r.rework p ch).satD2 = r.satD2 := by
  simp [rework_satI0, rework_satD1, rework_satD2, h]

/-- The fixed thresholds with both offsets in their range (R29). -/
theorem rework_range_fixed (h : p.fixedMode.get ch = true) (hF : p.offsetF.get ch ≤ 150) :
    30 ≤ (r.rework p ch).t1 ∧ (r.rework p ch).t1 ≤ 180 ∧ (r.rework p ch).t1 + 30 ≤ (r.rework p ch).t2 := by
  obtain ⟨h1, h2⟩ := rework_thresholds_fixed (r := r) h
  omega

end Rework

/-! ## SENSOR_SATURATION -/

section Saturation
variable (ch : LoopChannel) (code : Nat) (before after : Bool) (c : Car)

/-- A flag handed changes the event reporter and, through an alarm, the radio link, and nothing else. -/
theorem handSaturation_frame :
    handSaturation ch code before after c =
      { c with evr := (handSaturation ch code before after c).evr, vrl := (handSaturation ch code before after c).vrl } := by
  unfold handSaturation
  split <;> rfl

theorem handSaturation_evr :
    (handSaturation ch code before after c).evr =
      if before = false ∧ after = true then c.evr.take c.now .sensorSaturation (256 * ch.number + code) else c.evr := by
  rw [Nat.mul_comm]
  cases before <;> cases after <;> rfl

theorem handSaturation_now : (handSaturation ch code before after c).now = c.now := by
  rw [handSaturation_frame]

/-- A flag that stands as it stood makes nothing occur. -/
@[simp] theorem handSaturation_same : handSaturation ch code before before c = c := by
  cases before <;> rfl

end Saturation

theorem reworkLoop_frame (ch : LoopChannel) (r : TlfChannel) (c : Car) :
    reworkLoop ch r c = { c with
      tlf := c.tlf.set ch (r.rework c.lif.params ch), evr := (reworkLoop ch r c).evr, vrl := (reworkLoop ch r c).vrl } := by
  unfold reworkLoop
  rw [handSaturation_frame ch 3, handSaturation_frame ch 2, handSaturation_frame ch 1]
  rfl

/-- With no new flag the record is put in place and nothing occurs. -/
theorem reworkLoop_of_flags_same {ch : LoopChannel} {r : TlfChannel} {c : Car}
    (h0 : (r.rework c.lif.params ch).satI0 = r.satI0) (h1 : (r.rework c.lif.params ch).satD1 = r.satD1)
    (h2 : (r.rework c.lif.params ch).satD2 = r.satD2) :
    reworkLoop ch r c = setLoop ch (r.rework c.lif.params ch) c := by
  simp only [reworkLoop, h0, h1, h2, handSaturation_same]

/-! ## What clears the flags -/

/-- A record none of whose saturation flags is set. -/
def TlfChannel.FlagsClear (r : TlfChannel) : Prop := r.satI0 = false ∧ r.satD1 = false ∧ r.satD2 = false

theorem reset_flagsClear : TlfChannel.reset.FlagsClear := ⟨rfl, rfl, rfl⟩

theorem cleared_flagsClear (r : TlfChannel) : r.cleared.FlagsClear := ⟨rfl, rfl, rfl⟩

/-- Working out a record anew from empty lists clamps nothing. -/
theorem rework_flagsClear_of_nil {r : TlfChannel} (p : Params) (ch : LoopChannel) (hr : r.restList = [])
    (hd : r.dataList = []) (ht : r.toothList = []) (h : r.FlagsClear) : (r.rework p ch).FlagsClear := by
  obtain ⟨h0, h1, h2⟩ := h
  simp [TlfChannel.FlagsClear, rework_satI0, rework_satD1, rework_satD2, hr, hd, ht, quantity_nil, h0, h1, h2]

theorem beginSettling_flagsClear (r : TlfChannel) (p : Params) (ch : LoopChannel) : (r.beginSettling p ch).FlagsClear :=
  rework_flagsClear_of_nil p ch rfl rfl rfl ⟨rfl, rfl, rfl⟩

theorem PerLoop.get_set_ne {α : Type} (q : PerLoop α) {ch k : LoopChannel} (x : α) (h : k ≠ ch) :
    (q.set ch x).get k = q.get k := by
  cases ch <;> cases k <;> first | rfl | exact absurd rfl h

@[simp] theorem PerLoop.set_set {α : Type} (q : PerLoop α) (ch : LoopChannel) (x y : α) :
    (q.set ch x).set ch y = q.set ch y := by
  cases ch <;> rfl

@[simp] theorem setLoop_tlf (ch : LoopChannel) (r : TlfChannel) (c : Car) : (setLoop ch r c).tlf = c.tlf.set ch r := rfl

/-- A change of state replaces the state and the idle flag of the channel's record alone (R26). -/
theorem passTo_tlf (ch : LoopChannel) (state : ChannelState) (c : Car) :
    ∃ idle, (passTo ch state c).tlf = c.tlf.set ch { c.tlf.get ch with state := state, idleFlag := idle } := by
  unfold passTo
  dsimp only
  split <;> exact ⟨_, rfl⟩

/-- Clearing a channel replaces its own record, by one with its flags clear (R38). -/
theorem clearLoop_tlf (c : Car) (ch : LoopChannel) :
    ∃ r : TlfChannel, r.FlagsClear ∧ (clearLoop c ch).tlf = c.tlf.set ch r := by
  have hc := cleared_flagsClear (c.tlf.get ch)
  unfold clearLoop
  dsimp only
  split
  · obtain ⟨idle, h⟩ := passTo_tlf ch .active (setLoop ch (c.tlf.get ch).cleared c)
    refine ⟨{ (c.tlf.get ch).cleared with state := .active, idleFlag := idle }, hc, ?_⟩
    rw [h, setLoop_tlf, PerLoop.get_set_self, PerLoop.set_set]
  · exact ⟨_, beginSettling_flagsClear _ _ ch, by rw [setLoop_tlf, setLoop_tlf, PerLoop.set_set]⟩
  · exact ⟨_, hc, rfl⟩

/-- Clearing channels one after another leaves clear the flags of each of them and of each channel that was clear before. -/
theorem foldl_clearLoop_flagsClear (l : List LoopChannel) (c : Car) (k : LoopChannel)
    (h : k ∈ l ∨ (c.tlf.get k).FlagsClear) : ((l.foldl clearLoop c).tlf.get k).FlagsClear := by
  induction l generalizing c with
  | nil => exact h.resolve_left List.not_mem_nil
  | cons ch l ih =>
    obtain ⟨r, hr, htlf⟩ := clearLoop_tlf c ch
    apply ih
    rw [htlf]
    by_cases hk : k = ch
    · right
      rw [hk, PerLoop.get_set_self]
      exact hr
    · rw [PerLoop.get_set_ne _ _ hk]
      exact h.imp_left fun hm => (List.mem_cons.1 hm).resolve_left hk

theorem faultRead_flagsClear (c : Car) (ch : LoopChannel) : (((faultRead c).2.tlf).get ch).FlagsClear :=
  foldl_clearLoop_flagsClear LoopChannel.list c ch (Or.inl (by cases ch <;> decide))

@[simp] theorem answer_tlf (via : Via) (kind : Nat) (result : Result) (parts : List ReplyData) (c : Car) :
    (answer via kind result parts c).tlf = c.tlf := by
  unfold answer
  split <;> rfl

/-- A FAULT READ that reaches the TLF leaves every flag clear (R38). -/
theorem exec_faultRead_flagsClear {via : Via} {s : State} (hr : Ready s) (h : Reaches via .faultRead s.car) :
    ∃ t, exec (.faultRead via) s = .next t ∧ ∀ ch, (t.car.tlf.get ch).FlagsClear := by
  obtain ⟨n, hexec, -⟩ := exec_of_reaches (i := .faultRead via) rfl hr h (by decide)
  refine ⟨_, hexec, fun ch => ?_⟩
  simp only [deliver, settle_tlf, answer_tlf]
  exact faultRead_flagsClear _ ch

@[simp] theorem hardwareReset_tlf (strap : Bool) (record : Option FaultRecord) (c : Car) :
    (hardwareReset strap record c).tlf = .all .reset := by
  rw [hardwareReset, settle_tlf, Car.reset]

theorem hardwareReset_flagsClear (strap : Bool) (record : Option FaultRecord) (c : Car) (ch : LoopChannel) :
    ((hardwareReset strap record c).tlf.get ch).FlagsClear := by
  rw [hardwareReset_tlf]
  cases ch <;> exact reset_flagsClear

/-- A power-on reset leaves every flag clear, also with RESETn held low (R41). -/
theorem exec_powerOnReset_flagsClear (strap : Bool) (s : State) :
    ∃ t, exec (.powerOnReset strap) s = .next t ∧ ∀ ch, (t.car.tlf.get ch).FlagsClear := by
  refine ⟨_, rfl, fun ch => ?_⟩
  dsimp only
  split <;> exact hardwareReset_flagsClear strap none s.car ch

theorem exec_resetLineReset_flagsClear (strap : Bool) (s : State) :
    ∃ t, exec (.resetLineReset strap) s = .next t ∧ ∀ ch, (t.car.tlf.get ch).FlagsClear :=
  ⟨_, rfl, hardwareReset_flagsClear strap _ s.car⟩

/-- Settles O47: the record by the lemmas on each quantity and mode, the occurrences by the three flags handed in turn, and the
clears by what each of their commands leaves in the channel records. -/
theorem thresholdsFollowTheLists : Obligations.ThresholdsFollowTheLists := by
  unfold Obligations.ThresholdsFollowTheLists
  refine ⟨fun r p ch => ?record, fun ch r c => ?events, fun r p ch => ⟨rfl, beginSettling_flagsClear r p ch⟩,
    fun i via strap s hi => ?clears⟩
  case record =>
    refine ⟨rework_frame r p ch, rework_i0_of_nil, rework_d1_of_nil, rework_d2_of_nil, fun _ => rework_i0_of_least,
      rework_d1_of_ne_nil, rework_d2_of_ne_nil, rework_thresholds_adaptive, fun hfix => ?_, fun hadapt => ?_⟩
    · obtain ⟨ht1, ht2⟩ := rework_thresholds_fixed (r := r) hfix
      obtain ⟨h0, h1, h2⟩ := rework_flags_fixed (r := r) hfix
      exact ⟨ht1, ht2, h0, h1, h2, fun hF _ => rework_range_fixed hfix hF⟩
    · exact ⟨rework_satI0_adaptive hadapt, rework_satD1_adaptive hadapt, rework_satD2_adaptive hadapt⟩
  case events =>
    refine ⟨reworkLoop_frame ch r c, ?_, fun h0 h1 h2 => by rw [reworkLoop_of_flags_same h0 h1 h2]; rfl⟩
    simp only [reworkLoop, handSaturation_evr, handSaturation_now]
    rfl
  case clears =>
    obtain rfl | rfl | ⟨rfl, hready, hreach⟩ := hi
    · exact exec_powerOnReset_flagsClear strap s
    · exact exec_resetLineReset_flagsClear strap s
    · exact exec_faultRead_flagsClear hready hreach

end Sys2Proof.Machine
end

section
/-! The group filter (R176), PARAMETER READ (R185), and O22. The layer goes in the order of the model: the ports and the originate
queue, the decision on a frame, what a read of the table and the blocks of RESTART leave of the filter, and the telegrams. -/

namespace Sys2Proof.Machine

/-! ## The ports -/

theorem PerPort.get_set_ne {α : Type} (q : PerPort α) {p k : Port} (x : α) (h : k ≠ p) : (q.set p x).get k = q.get k := by
  cases p <;> cases k <;> first | rfl | exact absurd rfl h

/-- A port rewritten with the same reception leaves every port's reception. -/
theorem PerPort.rx_get_set {q : PerPort PortState} {p : Port} {x : PortState} (h : x.rx = (q.get p).rx) (k : Port) :
    ((q.set p x).get k).rx = (q.get k).rx := by
  by_cases hk : k = p
  · rw [hk, PerPort.get_set_self, h]
  · rw [PerPort.get_set_ne _ _ hk]

section Queue
variable (l : Lif) (link : LinkState)

/-- A port that starts a frame changes its transmitter and its hold buffers, and the queue alone beside them (R172, R174). -/
theorem Lif.startPort_frame (p : Port) :
    (l.startPort link p).groups = l.groups ∧
      ∀ k, ((l.startPort link p).ports.get k).rx = (l.ports.get k).rx := by
  unfold Lif.startPort
  dsimp only
  split
  · exact ⟨rfl, PerPort.rx_get_set rfl⟩
  · split
    · exact ⟨rfl, PerPort.rx_get_set rfl⟩
    · exact ⟨rfl, fun _ => rfl⟩
  · exact ⟨rfl, fun _ => rfl⟩

@[simp] theorem Lif.start_groups : (l.start link).groups = l.groups :=
  (Lif.startPort_frame _ link .b).1.trans (Lif.startPort_frame l link .a).1

@[simp] theorem Lif.start_rx (k : Port) : ((l.start link).ports.get k).rx = (l.ports.get k).rx :=
  ((Lif.startPort_frame _ link .b).2 k).trans ((Lif.startPort_frame l link .a).2 k)

@[simp] theorem Lif.append_groups (frames : List Frame) : (l.append link frames).groups = l.groups := by
  rw [Lif.append, Lif.start_groups]

@[simp] theorem Lif.append_rx (frames : List Frame) (k : Port) :
    ((l.append link frames).ports.get k).rx = (l.ports.get k).rx := by
  rw [Lif.append, Lif.start_rx]

end Queue

@[simp] theorem replied_rx (via : Via) (kind : Nat) (result : Result) (parts : List ReplyData) (c : Car) (k : Port) :
    ((replied via kind result parts c).lif.ports.get k).rx = (c.lif.ports.get k).rx := by
  unfold replied Lif.answered
  split
  · exact Lif.append_rx ..
  · rfl

@[simp] theorem answer_groups (via : Via) (kind : Nat) (result : Result) (parts : List ReplyData) (c : Car) :
    (answer via kind result parts c).lif.groups = c.lif.groups := by
  unfold answer
  split
  · exact Lif.append_groups ..
  · rfl

@[simp] theorem placeFaultStop_groups (f : Frame) (c : Car) : (placeFaultStop f c).lif.groups = c.lif.groups := by
  unfold placeFaultStop
  split
  · exact Lif.append_groups ..
  · split
    · exact Lif.append_groups ..
    · rw [occur_lif]

/-! ## The decision on a frame (R171, R176) -/

theorem Window.hits_iff (w : Window) (n : Nat) : w.hits n = true ↔ w.valid = true ∧ n &&& w.mask = w.value &&& w.mask := by
  rw [Window.hits, Bool.and_eq_true, decide_eq_true_iff]
  rfl

theorem Lif.groups_any_hits_iff (l : Lif) (dest : Nat) :
    l.groups.any (·.hits dest) = true ↔ ∃ w ∈ l.groups, w.valid = true ∧ dest &&& w.mask = w.value &&& w.mask := by
  simp only [List.any_eq_true, Window.hits_iff]

/-- A numbered car takes a frame by group exactly when the dest is a group number other than its own that the filter lets pass. -/
theorem Lif.address_group_iff {l : Lif} {n : Nat} (hn : l.carNumber = some n) (dest : Nat) :
    (l.address dest).2 = some .group ↔ dest ≠ n ∧ 16 ≤ dest ∧ dest ≤ 239 ∧
      ∃ w ∈ l.groups, w.valid = true ∧ dest &&& w.mask = w.value &&& w.mask := by
  rw [← Lif.groups_any_hits_iff, Lif.address, hn]
  dsimp only
  split
  case isTrue hcar => exact ⟨nofun, fun ⟨hother, _⟩ => absurd hcar hother⟩
  case isFalse hcar =>
    split
    case isTrue hall => exact ⟨nofun, fun ⟨_, _, hhigh, _⟩ => by omega⟩
    case isFalse hall =>
      split
      case isTrue hgroup => exact ⟨fun _ => ⟨hcar, hgroup⟩, fun _ => rfl⟩
      case isFalse hgroup => exact ⟨nofun, fun h => absurd h.2 hgroup⟩

/-- The header of a frame other than ROLL_CALL at a port that receives none: the reception holds the decision on its dest. -/
theorem frameHeader_rx {p : Port} {c : Car} (h : (c.lif.ports.get p).rx = none) (dest source : Nat) {kind : Nat} (hk : kind ≠ 1) :
    ∃ route, ((frameHeader p dest source kind c).lif.ports.get p).rx =
      some ⟨dest, source, kind, route, (c.lif.address dest).2⟩ := by
  have hc : abandonReception p c = c := by rw [abandonReception, h]
  simp only [frameHeader, hc, if_neg hk, apply_ite Car.lif, occur_lif, ite_self]
  generalize (if (c.lif.address dest).1 = true then c.lif.relayRoute p.other else RelayRoute.none) = route
  refine ⟨route, ?_⟩
  split
  · rw [PerPort.rx_get_set, PerPort.get_set_self]
    rfl
  · rw [PerPort.get_set_self]

/-! ## What RESTART leaves of the filter (R176) -/

section Restart
variable (c : Car)

@[simp] theorem broadcastFaultStop_groups : (broadcastFaultStop c).lif.groups = c.lif.groups := by
  unfold broadcastFaultStop
  split
  · split
    · rfl
    · exact placeFaultStop_groups ..
  · rfl

@[simp] theorem laterCauses_groups (cause : FaultCause) (n : Nat) : (laterCauses cause n c).lif.groups = c.lif.groups := by
  induction n generalizing c with
  | zero => rfl
  | succ n ih => exact ih (laterCause cause c)

@[simp] theorem reportFault_groups (cause : FaultCause) : (reportFault cause c).lif.groups = c.lif.groups := by
  unfold reportFault
  split
  · rfl
  · simp only [enterFaultStop, laterCauses_groups, broadcastFaultStop_groups, occur_lif, abortTest_lif]

@[simp] theorem reportFaults_groups (cause : FaultCause) (n : Nat) : (reportFaults cause n c).lif.groups = c.lif.groups := by
  induction n generalizing c with
  | zero => rfl
  | succ n ih => exact (ih _).trans (reportFault_groups c cause)

@[simp] theorem refreshCoverage_groups : (refreshCoverage c).lif.groups = c.lif.groups := by
  unfold refreshCoverage
  dsimp only
  split
  · exact reportFaults_groups ..
  · rfl

@[simp] theorem commandChanged_groups (d : Direction) : (commandChanged d c).lif.groups = c.lif.groups := by
  simp only [commandChanged, ssvCause_lif, apply_ite Car.lif, apply_ite Lif.groups, refreshCoverage_groups, ite_self]

@[simp] theorem setLink_lif (link : LinkState) : (setLink link c).lif = c.lif := by
  unfold setLink
  dsimp only
  split <;> rfl

theorem restartLif_groups : (restartLif c).lif.groups = c.lif.groups := by
  unfold restartLif
  dsimp only
  split <;> split <;> simp only [ssvCause_lif, commandChanged_groups]

theorem restartSsv_lif : (restartSsv c).lif = c.lif := by
  simp only [restartSsv, handOverflow, levelChange_lif, causeChange_lif]

theorem restartOdo_lif : (restartOdo c).lif = c.lif := by
  rw [restartOdo, causeChange_lif, levelChange_lif]

theorem restartVrl_lif : (restartVrl c).lif = c.lif := by
  rw [restartVrl, setLink_lif]

theorem restartBrk_lif : (restartBrk c).lif = c.lif := by
  rw [restartBrk, addCause_lif, causeEnd_lif]

/-- The LIF's own part of RESTART keeps the filter, and the other blocks leave the LIF as it was. -/
theorem restartBlocks_groups : (restartBlocks c).lif.groups = c.lif.groups := by
  calc (restartBlocks c).lif.groups
      = (restartVrl (restartOdo (restartSsv (restartLif (restartEvr c))))).lif.groups := by
        rw [restartBlocks, restartBrk_lif, restartDor]
    _ = (restartLif (restartEvr c)).lif.groups := by rw [restartVrl_lif, restartOdo_lif, restartSsv_lif]
    _ = c.lif.groups := restartLif_groups _

end Restart

theorem exec_restart_groups {via : Via} {s : State} (hr : Ready s) (h : Reaches via .restart s.car) :
    ∃ t, exec (.restart via) s = .next t ∧ t.car.lif.groups = s.car.lif.groups := by
  obtain ⟨n, hexec, -⟩ := exec_of_reaches (i := .restart via) rfl hr h (by decide)
  refine ⟨_, hexec, ?_⟩
  simp only [deliver, settle_lif]
  split
  · rw [restartBlocks_groups, answer_groups, Car.reserving]
  · rw [answer_groups, Car.reserving]

/-! ## What a hardware reset leaves of the filter (R176) -/

theorem hardwareReset_groups (strap : Bool) (record : Option FaultRecord) (c : Car) :
    (hardwareReset strap record c).lif.groups = List.replicate 8 .reset := by
  rw [hardwareReset, settle_lif, Car.reset, Lif.reset]

/-- A power-on reset leaves the filter invalid, also with RESETn held low, and so does a reset-line reset. -/
theorem exec_reset_groups {i : Instr} {strap : Bool} (hi : i = .powerOnReset strap ∨ i = .resetLineReset strap) (s : State) :
    ∃ t, exec i s = .next t ∧ t.car.lif.groups = List.replicate 8 .reset := by
  obtain rfl | rfl := hi
  · refine ⟨_, rfl, ?_⟩
    dsimp only
    split <;> exact hardwareReset_groups strap none s.car
  · exact ⟨_, rfl, hardwareReset_groups strap _ s.car⟩

/-! ## A telegram that is answered and leaves the part settled -/

/-- A telegram that reaches its block and is delivered by placing an answer on a part `d` between commands leaves `d` with that
answer. -/
theorem exec_eq_replied {i : Instr} {via : Via} {t : Telegram} (hi : i.telegram = some (via, t)) {s : State} (hr : Ready s)
    (h : Reaches via t s.car) (hp : telegramKind t ≠ 40) {kind : Nat} {result : Result} {parts : List ReplyData} {d : Car}
    (hd : Ready ⟨d, s.pending⟩)
    (hdeliver : ∀ n, deliver via t (s.car.reserving n) = answer via kind result parts (d.reserving n)) :
    exec i s = .next ⟨replied via kind result parts d, s.pending⟩ := by
  obtain ⟨n, hexec, hn⟩ := exec_of_reaches hi hr h hp
  obtain ⟨-, hs, h0, hb⟩ := hd
  rw [hexec, hdeliver n, answer_of_reaches via kind result parts h0 hb hn, settle_replied hs]

/-- No output is decided from the filter. -/
theorem Ready.with_groups {s : State} (hr : Ready s) (groups : List Window) :
    Ready ⟨{ s.car with lif := { s.car.lif with groups := groups } }, s.pending⟩ := by
  obtain ⟨hreset, hs, h0, hb⟩ := hr
  exact ⟨hreset, settle_transfer hs rfl rfl rfl rfl, h0, hb⟩

section Telegrams
variable {via : Via} {s : State} (hr : Ready s)
include hr

theorem exec_groupSet_range {entry value mask : Nat} {valid : Bool} (h : Reaches via (.groupSet entry valid value mask) s.car)
    (hrange : entry < 1 ∨ 8 < entry ∨ 255 < value ∨ 255 < mask) :
    exec (.groupSet via entry valid value mask) s = .next ⟨replied via 33 .range [.none] s.car, s.pending⟩ :=
  exec_eq_replied rfl hr h (by simp [telegramKind]) hr fun n => by
    simp only [deliver, groupSet, if_pos hrange, reply]

theorem exec_groupSet_accepted {entry value mask : Nat} {valid : Bool} (h : Reaches via (.groupSet entry valid value mask) s.car)
    (hrange : ¬ (entry < 1 ∨ 8 < entry ∨ 255 < value ∨ 255 < mask)) :
    exec (.groupSet via entry valid value mask) s = .next ⟨replied via 33 .accepted [.none]
      { s.car with lif := { s.car.lif with groups := s.car.lif.groups.set (entry - 1) ⟨valid, value, mask⟩ } }, s.pending⟩ :=
  exec_eq_replied rfl hr h (by simp [telegramKind]) (hr.with_groups _) fun n => by
    simp only [deliver, groupSet, if_neg hrange, reply, Car.reserving]

theorem exec_parameterRead_eq {id : Nat} (h : Reaches via (.parameterRead id) s.car) :
    exec (.parameterRead via id) s = .next
      ⟨replied via 29 (parameterRead id s.car).1 [(parameterRead id s.car).2] s.car, s.pending⟩ :=
  exec_eq_replied rfl hr h (by simp [telegramKind]) hr fun _ => rfl

end Telegrams

/-- Settles O22: GROUP SET and PARAMETER READ by the answer they place, the filter by the decision on a dest, and what the resets
and RESTART leave of it by the blocks they write. -/
theorem groupSetAndParameterRead : Obligations.GroupSetAndParameterRead := by
  unfold Obligations.GroupSetAndParameterRead
  refine ⟨fun via entry valid value mask s hr h => ⟨exec_groupSet_range hr h, fun h1 h8 hv hm => ?set⟩,
    fun p dest source kind n s hr hrx hk hn => ?filter, fun i strap s hi => exec_reset_groups hi s,
    fun via s hr h => exec_restart_groups hr h, fun via id s hr h => ?read⟩
  case set =>
    exact ⟨exec_groupSet_accepted hr h (by omega), fun p => replied_rx ..⟩
  case filter =>
    obtain ⟨route, hheader⟩ := frameHeader_rx hrx dest source hk
    refine ⟨{ s with car := settle (frameHeader p dest source kind s.car) }, _, ?_, by rw [settle_lif]; exact hheader,
      Lif.address_group_iff hn dest⟩
    exact congrArg _ (State.run_of_ready hr.1 _)
  case read =>
    rw [exec_parameterRead_eq hr h, parameterRead]
    exact ⟨fun hid => by rw [hid], fun q hid => by rw [hid]⟩

end Sys2Proof.Machine
end

section
/-! What every command keeps. The relation `Keeps` says of two states of the part that each law of the lists and of the brake
test that holds of the first holds of the second, and `Calm` adds what no block's work touches. Each operation of the model is
shown once to keep, in the order of the model's files; the step and the statements about it come last. -/

namespace Sys2Proof.Machine

/-! ## The relations -/

/-- The source records are all present and the notice queue keeps its law (R190, R193). -/
def EvrLaw (e : Evr) : Prop := e.sources.length = 32 ∧ NoticeLaw e

/-- No place of the originate queue is reserved (R177). -/
def Unreserved (l : Lif) : Prop := l.reservedReplies = 0 ∧ l.reservedBatch = 0

/-- Each law that holds of `c` holds of `d`. -/
structure Keeps (c d : Car) : Prop where
  test : TestLaw c.brk → TestLaw d.brk
  events : EvrLaw c.evr → EvrLaw d.evr
  restrictions : RestrictionLaw c.ssv → RestrictionLaw d.ssv
  radio : RadioLaw c.vrl → RadioLaw d.vrl
  store : StoreLaw c.pst → StoreLaw d.pst
  places : Unreserved c.lif → Unreserved d.lif
  reset : d.inReset = c.inReset

/-- The laws are kept, and so are the clock, the role, the recent orders, the car number, the group filter and the parameters. -/
structure Calm (c d : Car) : Prop extends Keeps c d where
  now : d.now = c.now
  role : d.vrl.role = c.vrl.role
  recent : d.vrl.recent = c.vrl.recent
  number : d.lif.carNumber = c.lif.carNumber
  groups : d.lif.groups = c.lif.groups
  params : d.lif.params = c.lif.params

theorem Keeps.refl (c : Car) : Keeps c c := ⟨id, id, id, id, id, id, rfl⟩

theorem Keeps.trans {c d e : Car} (h : Keeps c d) (k : Keeps d e) : Keeps c e :=
  ⟨k.test ∘ h.test, k.events ∘ h.events, k.restrictions ∘ h.restrictions, k.radio ∘ h.radio, k.store ∘ h.store,
    k.places ∘ h.places, k.reset.trans h.reset⟩

theorem Calm.keeps {c d : Car} (h : Calm c d) : Keeps c d := h.toKeeps

theorem Calm.refl (c : Car) : Calm c c := ⟨.refl c, rfl, rfl, rfl, rfl, rfl, rfl⟩

theorem Calm.trans {c d e : Car} (h : Calm c d) (k : Calm d e) : Calm c e :=
  ⟨h.keeps.trans k.keeps, k.now.trans h.now, k.role.trans h.role, k.recent.trans h.recent, k.number.trans h.number,
    k.groups.trans h.groups, k.params.trans h.params⟩

theorem Calm.of_eq {c d : Car} (h : d = c) : Calm c d := h ▸ .refl c

/-- Either branch calm, the choice calm. -/
theorem Calm.ite {p : Prop} [Decidable p] {c d e : Car} (hd : Calm c d) (he : Calm c e) : Calm c (if p then d else e) := by
  split <;> assumption

theorem Keeps.ite {p : Prop} [Decidable p] {c d e : Car} (hd : Keeps c d) (he : Keeps c e) : Keeps c (if p then d else e) := by
  split <;> assumption

/-- The same for an answer with the part that it leaves. -/
theorem Calm.of_snd_ite {α : Type} {p : Prop} [Decidable p] {c : Car} {r q : α × Car} (hr : Calm c r.2) (hq : Calm c q.2) :
    Calm c (if p then r else q).2 := by
  split <;> assumption

section Blocks
variable {c : Car}

/-- The loop channels, the odometry and the doors carry no law of these. -/
theorem calm_free {t : PerLoop TlfChannel} {o : Odo} {d : Dor} : Calm c { c with tlf := t, odo := o, dor := d } :=
  ⟨⟨id, id, id, id, id, id, rfl⟩, rfl, rfl, rfl, rfl, rfl, rfl⟩

/-- A change of the brakes that keeps the law of the test and one of the supervision that keeps the law of the lists. -/
theorem calm_brk {b : Brk} {o : Odo} {d : Dor} (h : TestLaw c.brk → TestLaw b) :
    Calm c { c with odo := o, dor := d, brk := b } :=
  ⟨⟨h, id, id, id, id, id, rfl⟩, rfl, rfl, rfl, rfl, rfl, rfl⟩

theorem calm_ssv {s : Ssv} (h : RestrictionLaw c.ssv → RestrictionLaw s) : Calm c { c with ssv := s } :=
  ⟨⟨id, id, h, id, id, id, rfl⟩, rfl, rfl, rfl, rfl, rfl, rfl⟩

theorem calm_pst {p : Pst} (h : StoreLaw c.pst → StoreLaw p) : Calm c { c with pst := p } :=
  ⟨⟨id, id, id, id, h, id, rfl⟩, rfl, rfl, rfl, rfl, rfl, rfl⟩

theorem calm_evr {e : Evr} (h : EvrLaw c.evr → EvrLaw e) : Calm c { c with evr := e } :=
  ⟨⟨id, h, id, id, id, id, rfl⟩, rfl, rfl, rfl, rfl, rfl, rfl⟩

theorem keeps_vrl {v : Vrl} (h : RadioLaw c.vrl → RadioLaw v) : Keeps c { c with vrl := v } :=
  ⟨id, id, id, h, id, id, rfl⟩

/-- The link record's timers, counts and states, beside the reports, the recent orders and the role, carry no law of these. -/
theorem calm_vrl {v : Vrl} (hrole : v.role = c.vrl.role) (hrecent : v.recent = c.vrl.recent)
    (hreports : v.reports = c.vrl.reports) : Calm c { c with vrl := v } :=
  ⟨keeps_vrl fun h => by unfold RadioLaw at h ⊢; rwa [hrole, hrecent, hreports], rfl, hrole, hrecent, rfl, rfl, rfl⟩

theorem keeps_lif {l : Lif} (h : Unreserved c.lif → Unreserved l) : Keeps c { c with lif := l } :=
  ⟨id, id, id, id, id, h, rfl⟩

end Blocks

/-! ## Insertion in order -/

theorem insertBy_perm {α : Type} (le : α → α → Bool) (x : α) (l : List α) : (insertBy le x l).Perm (x :: l) := by
  induction l with
  | nil => exact .refl _
  | cons y ys ih =>
    simp only [insertBy]
    split
    · exact (ih.cons y).trans (.swap x y ys)
    · exact .refl _

/-- An element inserted behind all that must come before it, in a list in order, leaves the list in order. -/
theorem insertBy_pairwise {α : Type} {R : α → α → Prop} {le : α → α → Bool} {x : α} {l : List α}
    (htrans : ∀ a b c, R a b → R b c → R a c) (hbefore : ∀ y ∈ l, le y x = true → R y x)
    (hafter : ∀ y ∈ l, le y x = false → R x y) (hl : l.Pairwise R) : (insertBy le x l).Pairwise R := by
  induction l with
  | nil => exact List.pairwise_singleton R x
  | cons y ys ih =>
    obtain ⟨hy, hys⟩ := List.pairwise_cons.1 hl
    simp only [insertBy]
    split
    case isTrue hle =>
      have hyx := hbefore y (.head ys) hle
      refine List.pairwise_cons.2 ⟨fun z hz => ?_, ih (fun z hz => hbefore z (.tail y hz)) (fun z hz => hafter z (.tail y hz)) hys⟩
      rcases List.mem_cons.1 ((insertBy_perm le x ys).mem_iff.1 hz) with rfl | hz
      · exact hyx
      · exact hy z hz
    case isFalse hle =>
      have hxy := hafter y (.head ys) (by simpa using hle)
      refine List.pairwise_cons.2 ⟨fun z hz => ?_, hl⟩
      rcases List.mem_cons.1 hz with rfl | hz
      · exact hxy
      · exact htrans x y z hxy (hy z hz)

/-! ## The event router (R190 to R193) -/

/-- The law of the notice queue, of the list itself. -/
theorem noticeLaw_iff (e : Evr) : NoticeLaw e ↔ e.notices.length ≤ 16 ∧ e.notices.Pairwise (fun a b => b.level ≤ a.level) ∧
    (e.notices.map Notice.source).Nodup := Iff.rfl

theorem NoticeLaw.sublist {e f : Evr} (h : NoticeLaw e) (hs : f.notices.Sublist e.notices) : NoticeLaw f := by
  obtain ⟨hlen, hlevel, hsource⟩ := h
  exact ⟨hs.length_le.trans hlen, hlevel.sublist hs, hsource.sublist (hs.map _)⟩

theorem EvrLaw.sublist {e f : Evr} (h : EvrLaw e) (hl : f.sources.length = e.sources.length)
    (hs : f.notices.Sublist e.notices) : EvrLaw f :=
  ⟨hl.trans h.1, h.2.sublist hs⟩

/-- A notice of a source that has none in the queue, entered with room for it. -/
theorem NoticeLaw.insert {e f : Evr} {n : Notice} {q : List Notice} (h : NoticeLaw e) (hq : q.Sublist e.notices)
    (hlen : q.length < 16) (hsource : ∀ m ∈ q, m.source ≠ n.source) (hf : f.notices = insertNotice n q) : NoticeLaw f := by
  obtain ⟨-, hlevel, hnodup⟩ := h
  have hp := insertBy_perm (fun y x : Notice => decide (x.level ≤ y.level)) n q
  refine ⟨?_, ?_, ?_⟩ <;> rw [hf, insertNotice]
  · rw [hp.length_eq]
    exact hlen
  · exact insertBy_pairwise (fun a b c hab hbc => hbc.trans hab) (fun y _ hle => of_decide_eq_true hle)
      (fun y _ hle => (not_le.1 (of_decide_eq_false hle)).le) (hlevel.sublist hq)
  · rw [(hp.map _).nodup_iff, List.map_cons, List.nodup_cons]
    refine ⟨fun hm => ?_, hnodup.sublist (hq.map _)⟩
    obtain ⟨m, hm, hms⟩ := List.mem_map.1 hm
    exact hsource m hm hms

theorem Evr.offer_sources (e : Evr) (n : Notice) : (e.offer n).sources = e.sources := by
  unfold Evr.offer
  split
  · rfl
  · split
    · rfl
    · split
      · split <;> rfl
      · rfl

/-- A notice offered keeps the law of the queue (R193). -/
theorem NoticeLaw.offer {e : Evr} (h : NoticeLaw e) (n : Notice) : NoticeLaw (e.offer n) := by
  unfold Evr.offer
  split
  case isTrue =>
    obtain ⟨hlen, hlevel, hsource⟩ := h
    refine ⟨by rwa [List.length_map], ?_, ?_⟩
    · refine List.pairwise_map.2 (hlevel.imp fun hab => ?_)
      split <;> split <;> exact hab
    · have hmap : (e.notices.map fun q => if q.source = n.source then { q with stamp := n.stamp, detail := n.detail } else q).map
          Notice.source = e.notices.map Notice.source := by
        rw [List.map_map]
        exact List.map_congr_left fun q _ => by simp only [Function.comp_apply]; split <;> rfl
      rwa [hmap]
  case isFalse hnone =>
    have hsource : ∀ m ∈ e.notices, m.source ≠ n.source := by simpa using hnone
    split
    case isTrue hroom => exact h.insert (.refl _) hroom hsource rfl
    case isFalse =>
      split
      case h_1 =>
        split
        · refine h.insert (List.dropLast_sublist _) ?_ (fun m hm => hsource m (List.mem_of_mem_dropLast hm)) rfl
          have := h.1
          rw [List.length_dropLast]
          omega
        · exact h
      case h_2 => exact h

theorem EvrLaw.take {e : Evr} (h : EvrLaw e) (now : Stamp) (src : Source) (detail : Nat) : EvrLaw (e.take now src detail) := by
  have hm : EvrLaw (e.modify src.number fun r => { r with pending := true }) :=
    h.sublist (List.length_modify ..) (.refl _)
  unfold Evr.take
  dsimp only
  split
  · exact ⟨by rw [Evr.offer_sources]; exact hm.1, hm.2.offer _⟩
  · exact hm

/-! ## The report queue (R153, R166, R167) -/

theorem removeFirst_length {α : Type} {f : α → Bool} {l q : List α} (h : removeFirst f l = some q) : q.length + 1 = l.length := by
  induction l generalizing q with
  | nil => cases h
  | cons x xs ih =>
    simp only [removeFirst] at h
    split at h
    · cases h; rfl
    · obtain ⟨q', hq', rfl⟩ := Option.map_eq_some_iff.1 h
      rw [List.length_cons, ih hq', List.length_cons]

/-- A report that joins the queue leaves at most eight, and nothing else of the link record but the lost count changes. -/
theorem Vrl.join_frame (v : Vrl) (r : Report) :
    (v.join r) = { v with reports := (v.join r).reports, lostReports := (v.join r).lostReports } := by
  unfold Vrl.join
  split
  · rfl
  · split
    · split <;> rfl
    · rfl
    · split <;> rfl

theorem Vrl.join_length {v : Vrl} (h : v.reports.length ≤ 8) (r : Report) : (v.join r).reports.length ≤ 8 := by
  unfold Vrl.join
  split
  case isTrue hroom => rw [List.length_append]; exact hroom
  case isFalse =>
    split
    · split
      · rename_i q hq
        have := removeFirst_length hq
        simp; omega
      · exact h
    · exact h
    · split
      · rename_i q hq
        have := removeFirst_length hq
        simp; omega
      · simp; omega

theorem Vrl.pump_frame (v : Vrl) (train : Nat) :
    v.pump train = { v with reports := (v.pump train).reports, transmit := (v.pump train).transmit } := by
  unfold Vrl.pump
  split <;> rfl

theorem Vrl.pump_reports_sublist (v : Vrl) (train : Nat) : (v.pump train).reports.Sublist v.reports := by
  unfold Vrl.pump
  split
  · rename_i hr
    rw [hr]
    exact List.sublist_cons_self ..
  · exact .refl _

/-- The laws of the link record that bound its lists, when the report queue alone changes. -/
theorem RadioLaw.reports {v w : Vrl} (h : RadioLaw v) (hrole : w.role = v.role) (hrecent : w.recent = v.recent)
    (hlen : w.reports.length ≤ 8) (hempty : v.role = .follower → w.reports = []) : RadioLaw w := by
  obtain ⟨-, hn, hd, -⟩ := h
  exact ⟨hlen, by rwa [hrecent], by rwa [hrecent], fun hr => hempty (hrole ▸ hr)⟩

theorem RadioLaw.pump {v : Vrl} (h : RadioLaw v) (train : Nat) : RadioLaw (v.pump train) := by
  refine h.reports (by rw [Vrl.pump_frame]) (by rw [Vrl.pump_frame]) ((Vrl.pump_reports_sublist v train).length_le.trans h.1)
    fun hr => ?_
  have := Vrl.pump_reports_sublist v train
  rw [h.2.2.2 hr] at this
  exact List.sublist_nil.1 this

theorem RadioLaw.queueReport {v : Vrl} (h : RadioLaw v) (train : Nat) (r : Report) : RadioLaw (v.queueReport train r) := by
  unfold Vrl.queueReport
  split
  case isTrue hrole =>
    refine RadioLaw.pump (h.reports (by rw [Vrl.join_frame]) (by rw [Vrl.join_frame]) (Vrl.join_length h.1 r) fun hr => ?_) train
    rw [hrole] at hr
    cases hr
  case isFalse => exact h

@[simp] theorem Vrl.queueReport_role (v : Vrl) (train : Nat) (r : Report) : (v.queueReport train r).role = v.role := by
  unfold Vrl.queueReport
  split
  · rw [Vrl.pump_frame, Vrl.join_frame]
  · rfl

@[simp] theorem Vrl.queueReport_recent (v : Vrl) (train : Nat) (r : Report) : (v.queueReport train r).recent = v.recent := by
  unfold Vrl.queueReport
  split
  · rw [Vrl.pump_frame, Vrl.join_frame]
  · rfl

theorem calm_queueReport {c : Car} (train : Nat) (r : Report) : Calm c { c with vrl := c.vrl.queueReport train r } :=
  ⟨keeps_vrl fun h => h.queueReport train r, rfl, Vrl.queueReport_role .., Vrl.queueReport_recent .., rfl, rfl, rfl⟩

/-! ## Occurrences (R192) -/

section Occurrences
variable (c : Car)

theorem calm_alarmed (src : Source) (detail : Nat) : Calm c { c with vrl := alarmed c src detail } := by
  unfold alarmed
  dsimp only
  split
  · exact calm_queueReport ..
  · exact .refl c

theorem occur_calm (src : Source) (detail : Nat) : Calm c (occur src detail c) :=
  (calm_alarmed c src detail).trans (calm_evr fun h => h.take c.now src detail)

theorem conditionEnd_calm (src : Source) : Calm c (conditionEnd src c) :=
  calm_evr fun h => h.sublist (List.length_modify ..) (.refl _)

theorem levelChange_calm (src : Source) (before after : Bool) (detail : Nat) : Calm c (levelChange src before after detail c) :=
  .ite (.refl c) (.ite (occur_calm ..) (conditionEnd_calm ..))

end Occurrences

/-! ## The consist line interface below acceptance (R170 to R176) -/

/-- The line record with other ports and another queue: no place is reserved by it, and the car keeps its number, filter and
parameters. -/
structure Lif.Steady (l m : Lif) : Prop where
  places : Unreserved l → Unreserved m
  number : m.carNumber = l.carNumber
  groups : m.groups = l.groups
  params : m.params = l.params

theorem Lif.Steady.refl (l : Lif) : l.Steady l := ⟨id, rfl, rfl, rfl⟩

theorem Lif.Steady.trans {l m n : Lif} (h : l.Steady m) (k : m.Steady n) : l.Steady n :=
  ⟨k.places ∘ h.places, k.number.trans h.number, k.groups.trans h.groups, k.params.trans h.params⟩

theorem Lif.Steady.traffic (l : Lif) (ports : PerPort PortState) (queue : List Queued) :
    l.Steady { l with ports := ports, queue := queue } := ⟨id, rfl, rfl, rfl⟩

theorem Lif.Steady.calm {c : Car} {l : Lif} (h : c.lif.Steady l) : Calm c { c with lif := l } :=
  ⟨keeps_lif h.places, rfl, rfl, rfl, h.number, h.groups, h.params⟩

section Line
variable (l : Lif) (link : LinkState)

theorem Lif.startPort_steady (p : Port) : l.Steady (l.startPort link p) := by
  unfold Lif.startPort
  dsimp only
  split
  · exact .traffic ..
  · split
    · exact .traffic ..
    · exact .refl l
  · exact .refl l

theorem Lif.start_steady : l.Steady (l.start link) := (l.startPort_steady link .a).trans (Lif.startPort_steady _ link .b)

theorem Lif.append_steady (frames : List Frame) : l.Steady (l.append link frames) :=
  (Lif.Steady.traffic l l.ports _).trans (Lif.start_steady _ link)

theorem Lif.transmitDone_steady (p : Port) : l.Steady (l.transmitDone link p) := by
  unfold Lif.transmitDone
  split
  · exact (Lif.Steady.traffic ..).trans (Lif.start_steady _ link)
  · exact (Lif.Steady.traffic ..).trans (Lif.start_steady _ link)
  · exact .refl l

theorem Lif.closeRelay_steady (p : Port) (r : Reception) (v : Verdict) (bytes : List Byte) :
    l.Steady (l.closeRelay link p r v bytes) := by
  unfold Lif.closeRelay
  dsimp only
  split
  · exact (Lif.Steady.traffic ..).trans (Lif.start_steady _ link)
  · split
    · exact (Lif.Steady.traffic ..).trans (Lif.start_steady _ link)
    · exact .traffic ..
  · exact .traffic ..

end Line

section Frames
variable (c : Car)

theorem placeNonReply_calm (f : Frame) : Calm c (placeNonReply f c) :=
  .ite (Lif.append_steady ..).calm (occur_calm ..)

theorem placeFaultStop_calm (f : Frame) : Calm c (placeFaultStop f c) := by
  unfold placeFaultStop
  split
  · exact (Lif.append_steady ..).calm
  · split
    · exact ((Lif.Steady.traffic ..).trans (Lif.append_steady ..)).calm
    · exact occur_calm ..

/-- An answer leaves no place reserved, whatever was reserved for it. -/
theorem answer_unreserved {via : Via} (kind : Nat) (result : Result) (parts : List ReplyData) (ha : via.addressing = .car) :
    Unreserved (answer via kind result parts c).lif := by
  rw [answer, if_pos ha]
  exact (Lif.append_steady ..).places ⟨rfl, rfl⟩

theorem answer_calm (via : Via) (kind : Nat) (result : Result) (parts : List ReplyData) :
    Calm c (answer via kind result parts c) := by
  refine .ite ?_ (.refl c)
  have h : c.lif.Steady { c.lif with reservedReplies := 0, reservedBatch := 0 } := ⟨fun _ => ⟨rfl, rfl⟩, rfl, rfl, rfl⟩
  exact (h.trans (Lif.append_steady ..)).calm

theorem abandonReception_calm (p : Port) : Calm c (abandonReception p c) := by
  unfold abandonReception
  split
  · exact (Lif.closeRelay_steady ..).calm
  · exact .refl c

theorem frameHeader_calm (p : Port) (dest source kind : Nat) : Calm c (frameHeader p dest source kind c) := by
  unfold frameHeader
  dsimp only
  refine (abandonReception_calm c p).trans ?_
  generalize abandonReception p c = c
  generalize (if kind = 1 then (false, none) else c.lif.address dest) = decided
  generalize (if decided.1 = true then c.lif.relayRoute p.other else RelayRoute.none) = route
  refine .ite ((Lif.Steady.calm ?_).trans (occur_calm ..)) (Lif.Steady.calm ?_) <;> split <;> exact .traffic ..

theorem relayRollCall_calm (p : Port) (bytes : List Byte) : Calm c (relayRollCall p bytes c) :=
  .ite ((Lif.Steady.traffic ..).trans (Lif.start_steady ..)).calm (occur_calm ..)

theorem rollCall_keeps (p : Port) (dest source hop seq : Nat) (payload : List Byte) :
    Keeps c (rollCall p dest source hop seq payload c) := by
  have hrelay (d : Car) (bytes : List Byte) : Keeps d
      { relayRollCall p bytes d with lif := (relayRollCall p bytes d).lif.start (relayRollCall p bytes d).vrl.link } :=
    ((relayRollCall_calm d p bytes).trans (Lif.start_steady ..).calm).keeps
  unfold rollCall
  dsimp only
  refine Keeps.trans ?_ (hrelay _ _)
  refine .ite (.ite (keeps_lif id) (occur_calm ..).keeps) (Keeps.trans ?_ (occur_calm ..).keeps)
  exact .ite (keeps_lif id) (.refl c)

theorem groupSet_keeps (entry : Nat) (valid : Bool) (value mask : Nat) : Keeps c (groupSet entry valid value mask c).2 := by
  unfold groupSet
  split
  · exact .refl c
  · exact keeps_lif id

end Frames

end Sys2Proof.Machine
end

section
/-! What every command keeps, continued: the brakes, the doors, fault stop and the profile store. -/

namespace Sys2Proof.Machine

/-! ## The emergency cause set (R109 to R114) -/

theorem causesEmpty_iff (q : PerCause (Option CauseRecord)) : causesEmpty q = true ↔ ∀ cause, q.get cause = none := by
  simp only [causesEmpty, List.all_eq_true, Option.isNone_iff_eq_none]
  exact ⟨fun h cause => h cause (by cases cause <;> decide), fun h cause _ => h cause⟩

theorem causesEmpty_set_none {q : PerCause (Option CauseRecord)} (h : causesEmpty q = true) (cause : Cause) :
    causesEmpty (q.set cause none) = true := by
  rw [causesEmpty_iff] at h ⊢
  intro k
  by_cases hk : k = cause
  · rw [hk, PerCause.get_set_self]
  · rw [PerCause.get_set_ne _ _ hk, h k]

/-- A record rewritten in its place leaves the causes held as they were. -/
theorem causesEmpty_set_congr {q : PerCause (Option CauseRecord)} {cause : Cause} {r : Option CauseRecord}
    (h : r = none ↔ q.get cause = none) : causesEmpty (q.set cause r) = causesEmpty q := by
  rw [Bool.eq_iff_iff, causesEmpty_iff, causesEmpty_iff]
  refine forall_congr' fun k => ?_
  by_cases hk : k = cause
  · rw [hk, PerCause.get_set_self, h]
  · rw [PerCause.get_set_ne _ _ hk]

theorem causesEmpty_releaseCauses {q : PerCause (Option CauseRecord)} (h : causesEmpty q = true) (mask : Nat) :
    causesEmpty (releaseCauses mask q) = true := by
  unfold releaseCauses
  generalize Cause.list = l
  induction l generalizing q with
  | nil => exact h
  | cons cause l ih =>
    refine ih ?_
    dsimp only
    rw [(causesEmpty_iff q).1 h cause]
    exact h

/-! ## The law of the brake test (R119, R124) -/

/-- With no test the law holds whatever else stands. -/
theorem TestLaw.of_off {b : Brk} (h : b.test = .off) : TestLaw b := fun _ => h

/-- A test that stands says that neither fault stop nor a cause does. -/
theorem TestLaw.of_on {b d : Brk} (hb : TestLaw b) (hon : b.test ≠ .off) (hf : d.faultStop = b.faultStop)
    (hc : d.causes = b.causes) : TestLaw d := fun h => absurd (hb (by rwa [← hf, ← hc])) hon

/-- The law speaks of the test, fault stop and the causes held alone. -/
theorem TestLaw.congr {b d : Brk} (ht : d.test = b.test) (hf : d.faultStop = b.faultStop)
    (hc : causesEmpty d.causes = causesEmpty b.causes) : TestLaw b → TestLaw d := by
  unfold TestLaw
  rw [ht, hf, hc]
  exact id

/-- Work that ends the test keeps the law of the test, whatever the brakes were given before it. -/
theorem Calm.off_after {c e : Car} {o : Odo} {p : Pst} {b : Brk} {d : Dor} (hp : StoreLaw c.pst → StoreLaw p)
    (h : Calm { c with odo := o, pst := p, brk := b, dor := d } e) (hoff : e.brk.test = .off) : Calm c e :=
  ⟨⟨fun _ => .of_off hoff, h.events, h.restrictions, h.radio, h.store ∘ hp, h.places, h.reset⟩,
    h.now, h.role, h.recent, h.number, h.groups, h.params⟩

section Brake
variable (c : Car)

theorem abortTest_calm : Calm c (abortTest c) := by
  unfold abortTest
  split
  · exact .refl c
  · exact (calm_brk fun _ => TestLaw.of_off rfl).trans (occur_calm ..)
  · exact (calm_brk fun _ => TestLaw.of_off rfl).trans (occur_calm ..)

theorem addCause_calm (cause : Cause) (present : Bool) : Calm c (addCause cause present c) := by
  unfold addCause
  split
  case h_1 r hr =>
    refine calm_brk (TestLaw.congr rfl rfl (causesEmpty_set_congr ?_))
    rw [hr]
    exact ⟨nofun, nofun⟩
  case h_2 =>
    exact Calm.off_after id (Calm.trans (.ite (.refl _) (occur_calm ..)) (abortTest_calm _)) (abortTest_test _)

theorem causeStart_calm (cause : Cause) : Calm c (causeStart cause c) :=
  (calm_brk (by exact TestLaw.congr rfl rfl rfl)).trans (addCause_calm _ cause true)

theorem causeEnd_calm (cause : Cause) : Calm c (causeEnd cause c) :=
  calm_brk (TestLaw.congr rfl rfl (causesEmpty_set_congr Option.map_eq_none_iff))

theorem causeChange_calm (cause : Cause) (before after : Bool) : Calm c (causeChange cause before after c) :=
  .ite (.refl c) (.ite (causeStart_calm ..) (causeEnd_calm ..))

theorem emergencyRelease_calm (mask : Nat) : Calm c (emergencyRelease mask c).2 := by
  have hrelease : Calm c { c with brk := { c.brk with causes := releaseCauses mask c.brk.causes } } := by
    refine calm_brk fun h hstands => h ?_
    refine hstands.imp_right fun hheld => ?_
    by_contra hempty
    rw [causesEmpty_releaseCauses (by simpa using hempty)] at hheld
    cases hheld
  unfold emergencyRelease
  split
  · exact .refl c
  · split
    · split
      · exact .refl c
      · exact hrelease
    · exact .refl c

theorem ssvCause_calm : Calm c (ssvCause c) := calm_ssv id

/-! ## The brake test and the channels (R96 to R100, R119 to R124) -/

/-- The end of a timing, or none, leaves a selection standing. -/
theorem Selection.endTiming_test_ne {s : Selection} {b : Brk} (h : b.test ≠ .off) (time : TestTime) :
    (s.endTiming b time).test ≠ .off := by
  unfold Selection.endTiming
  split
  · exact nofun
  · exact h

theorem completeSelection_calm {c : Car} (h : c.brk.test ≠ .off) (s : Selection) : Calm c (completeSelection s c) :=
  (calm_brk (by exact fun hb => hb.of_on h rfl rfl)).trans (occur_calm ..)

theorem completeIfPending_calm (done : Bool) : Calm c (completeIfPending done c) := by
  unfold completeIfPending
  split
  · rename_i h
    exact .ite (completeSelection_calm (by rw [h]; exact nofun) _) (.refl c)
  · exact .refl c

theorem channelFault_calm (ch : CogChannel) (reason : CogReason) : Calm c (channelFault ch reason c) := by
  have hcomplete (d : Car) (ch : CogChannel) (transit : Bool) : Calm d (match d.brk.test with
      | .onSelected s => completeIfPending (decide (s.channel = ch) && transit && s.timing.isNone) d
      | _ => d) := by
    split
    · exact completeIfPending_calm ..
    · exact .refl d
  unfold channelFault
  dsimp only
  refine (calm_brk ?_).trans ((occur_calm ..).trans (hcomplete ..))
  intro hb
  split
  · rename_i s hs
    have hon : c.brk.test ≠ .off := by rw [show c.brk.test = _ from hs]; exact nofun
    split
    · split
      · exact hb.of_on hon (Selection.endTiming_faultStop ..) (Selection.endTiming_causes ..)
      · exact hb.of_on hon rfl rfl
    · exact hb
  · exact hb

theorem transitExpiry_calm (ch : CogChannel) : Calm c (transitExpiry ch c) := by
  unfold transitExpiry
  dsimp only
  refine .ite ?_ (.refl c)
  split
  · exact channelFault_calm ..
  · exact channelFault_calm ..
  · exact .refl c

theorem departureExpiry_calm (ch : CogChannel) : Calm c (departureExpiry ch c) := by
  unfold departureExpiry
  dsimp only
  refine .ite ?_ (.refl c)
  split
  · exact channelFault_calm ..
  · exact channelFault_calm ..
  · exact .refl c

theorem testTimerExpiry_calm : Calm c (testTimerExpiry c) := by
  unfold testTimerExpiry
  split
  · rename_i s hs
    split
    · refine .ite ((calm_brk fun hb => ?_).trans (completeIfPending_calm ..)) (.refl c)
      exact hb.of_on (by rw [hs]; exact nofun) (Selection.endTiming_faultStop ..) (Selection.endTiming_causes ..)
    · exact .refl c
  · exact .refl c

theorem takeCopy_calm : Calm c (takeCopy c) := calm_brk (TestLaw.congr rfl rfl rfl)

/-- TEST ON is handed on outside fault stop alone (R188), and taken with an empty cause set. -/
theorem testOn_calm {c : Car} (hf : c.brk.faultStop = false) : Calm c (testOn c).2 := by
  unfold testOn
  split
  · refine Calm.of_snd_ite (.refl c) (Calm.of_snd_ite (.refl c) ?_)
    split
    · exact .refl c
    · rename_i hempty
      refine calm_brk fun _ hstands => absurd hstands ?_
      simpa [hf] using hempty
  · exact .refl c

theorem testOff_calm : Calm c (testOff c).2 := by
  unfold testOff
  split
  · exact calm_brk fun _ => TestLaw.of_off rfl
  · exact .refl c

theorem selectChannel_calm (n : Nat) : Calm c (selectChannel n c).2 := by
  unfold selectChannel
  split
  · exact .refl c
  · split
    · rename_i h
      exact calm_brk fun hb => hb.of_on (by rw [h]; exact nofun) rfl rfl
    · exact .refl c

theorem startTiming_frame (s : Selection) (cmd : BrakeCommand) (b : Brk) :
    (startTiming s cmd b).faultStop = b.faultStop ∧ (startTiming s cmd b).causes = b.causes := by
  unfold startTiming
  dsimp only
  split <;> exact ⟨rfl, rfl⟩

theorem changeTestCommand_frame (s : Selection) (cmd : BrakeCommand) (b : Brk) :
    (changeTestCommand s cmd b).faultStop = b.faultStop ∧ (changeTestCommand s cmd b).causes = b.causes := by
  unfold changeTestCommand
  obtain ⟨hf, hc⟩ := startTiming_frame { s with timing := none } cmd (s.endTiming b .incomplete)
  exact ⟨hf.trans (Selection.endTiming_faultStop ..), hc.trans (Selection.endTiming_causes ..)⟩

theorem changeTestCommand_calm {c : Car} (h : c.brk.test ≠ .off) (s : Selection) (cmd : BrakeCommand) :
    Calm c { c with brk := changeTestCommand s cmd c.brk } :=
  calm_brk fun hb => hb.of_on h (changeTestCommand_frame ..).1 (changeTestCommand_frame ..).2

theorem testCommand_calm (cmd : BrakeCommand) : Calm c (testCommand cmd c).2 := by
  unfold testCommand
  split
  · rename_i h
    exact .of_snd_ite (.refl c) (.of_snd_ite (.refl c) (changeTestCommand_calm (by rw [h]; exact nofun) ..))
  · exact .refl c

theorem deselect_calm : Calm c (deselect c).2 := by
  unfold deselect
  split
  · rename_i s h
    have hon : c.brk.test ≠ .off := by rw [h]; exact nofun
    refine .of_snd_ite (.refl c) (.of_snd_ite ?_ (.of_snd_ite (changeTestCommand_calm hon ..) ?_))
    · refine (calm_brk fun hb => ?_).trans (completeSelection_calm (Selection.endTiming_test_ne hon _) _)
      exact hb.of_on hon (Selection.endTiming_faultStop ..) (Selection.endTiming_causes ..)
    · exact calm_brk fun hb => hb.of_on hon rfl rfl
  · exact .refl c

end Brake
end Sys2Proof.Machine
end

section
/-! What every command keeps, continued: the doors, fault stop and the profile store. -/

namespace Sys2Proof.Machine

section Doors
variable (c : Car)

/-! ## The doors (R133 to R149) -/

theorem calm_dor (d : Dor) : Calm c { c with dor := d } := calm_free

theorem leafFault_calm (leaf : Leaf) (reason : LeafReason) : Calm c (leafFault leaf reason c) :=
  (calm_dor c _).trans (occur_calm ..)

theorem acknowledged_calm (leaf : Leaf) (cmd : DoorCommand) : Calm c (acknowledged leaf cmd c) := by
  unfold acknowledged
  dsimp only
  split <;> exact calm_dor ..

theorem takePosition_calm (leaf : Leaf) (p : LeafPosition) : Calm c (takePosition leaf p c) := by
  unfold takePosition
  dsimp only
  split
  all_goals try split
  all_goals first | exact calm_dor .. | exact .refl c | exact leafFault_calm ..

theorem takeObstacle_calm (leaf : Leaf) : Calm c (takeObstacle leaf c) :=
  .ite (.ite (calm_dor ..) ((calm_dor c _).trans (occur_calm ..))) (.refl c)

theorem takeOpenRequest_calm (leaf : Leaf) : Calm c (takeOpenRequest leaf c) := .ite (calm_dor ..) (.refl c)

theorem statusTaken_calm (leaf : Leaf) (s : StatusReply) : Calm c (statusTaken leaf s c) := by
  have hobstacle (d : Car) : Calm d (if s.obstacle then takeObstacle leaf d else d) := .ite (takeObstacle_calm ..) (.refl d)
  have hrequest (d : Car) : Calm d (if s.openRequest then takeOpenRequest leaf d else d) :=
    .ite (takeOpenRequest_calm ..) (.refl d)
  exact (calm_dor c _).trans ((takePosition_calm ..).trans ((hobstacle _).trans (hrequest _)))

theorem exchangeAnswered_calm (x : Exchange) (answered : DouReply) : Calm c (exchangeAnswered x answered c) := by
  unfold exchangeAnswered
  dsimp only
  refine (calm_dor c { c.dor with exchange := none }).trans (Calm.trans ?_ (calm_dor ..))
  refine .ite (.refl _) ?_
  split
  · exact statusTaken_calm ..
  · exact .ite (.refl _) (acknowledged_calm ..)
  · exact .refl _

theorem exchangeFailed_calm (x : Exchange) : Calm c (exchangeFailed x c) := by
  unfold exchangeFailed
  dsimp only
  refine (calm_dor c { c.dor with exchange := none }).trans (Calm.trans ?_ (calm_dor ..))
  refine .ite (.refl _) ?_
  split
  · exact .ite (.refl _) ((calm_dor ..).trans (occur_calm ..))
  · exact .refl _
  · exact .refl _
  · exact leafFault_calm ..

theorem attemptFailed_calm (x : Exchange) : Calm c (attemptFailed x c) := .ite (calm_dor ..) (exchangeFailed_calm ..)

theorem replyTimeout_calm : Calm c (replyTimeout c) := by
  unfold replyTimeout
  split
  · exact .ite (attemptFailed_calm ..) (.refl c)
  · exact .refl c

theorem busReply_calm (address : Nat) (answered : DouReply) (checkOk late : Bool) :
    Calm c (busReply address answered checkOk late c) := by
  unfold busReply
  split
  · exact .refl c
  · exact .ite (.refl c) (.ite (exchangeAnswered_calm ..) (attemptFailed_calm ..))

theorem motionExpiry_calm (leaf : Leaf) : Calm c (motionExpiry leaf c) := by
  unfold motionExpiry
  dsimp only
  refine .ite ?_ (.refl c)
  split
  · exact leafFault_calm ..
  · exact leafFault_calm ..
  · exact leafFault_calm ..
  · exact .refl c

/-! ## The judgement that ends every command -/

theorem handDoor_calm (before after : Bool) : Calm c (handDoor before after c) :=
  .ite (causeStart_calm ..) (.ite (causeEnd_calm ..) (.refl c))

theorem dorJudge_calm : Calm c (dorJudge c) :=
  Calm.trans (calm_brk (by exact TestLaw.congr rfl rfl rfl)) ((levelChange_calm ..).trans (handDoor_calm ..))

theorem brkJudge_calm : Calm c (brkJudge c) := by
  refine ⟨⟨TestLaw.congr rfl rfl rfl, id, ?_, id, id, id, rfl⟩, rfl, rfl, rfl, rfl, rfl, rfl⟩
  simp only [brkJudge]
  split <;> exact id

theorem settle_calm : Calm c (settle c) := (dorJudge_calm c).trans (brkJudge_calm _)

theorem standstillEnd_calm : Calm c (standstillEnd c) := .ite (calm_brk (by exact TestLaw.congr rfl rfl rfl)) (.refl c)

end Doors

/-! ## Fault stop (R125 to R129) -/

section FaultStop
variable (c : Car)

theorem broadcastFaultStop_calm : Calm c (broadcastFaultStop c) := by
  unfold broadcastFaultStop
  split
  · exact .ite (.refl c) (placeFaultStop_calm ..)
  · exact .refl c

theorem laterCause_calm (cause : FaultCause) : Calm c (laterCause cause c) :=
  (calm_brk (by exact TestLaw.congr rfl rfl rfl)).trans (occur_calm ..)

theorem laterCauses_calm (cause : FaultCause) (n : Nat) : Calm c (laterCauses cause n c) := by
  induction n generalizing c with
  | zero => exact .refl c
  | succ n ih => exact (laterCause_calm c cause).trans (ih _)

/-! ### Records rewritten in their places -/

/-- A table rewritten record by record, each with its fields but for the pinned flag, the check word and the check-failed flag as
they were, keeps its law when few enough records are pinned. -/
theorem StoreLaw.map {p q : Pst} {f : Segment → Segment} (h : StoreLaw p) (hq : q.table = p.table.map f)
    (hw : q.windows.length = p.windows.length)
    (hf : ∀ s, f s = { s with pinned := (f s).pinned, check := (f s).check, checkFailed := (f s).checkFailed })
    (hpinned : pinnedCount q.table ≤ 48) : StoreLaw q := by
  obtain ⟨hlen, horder, hid, hmarkers, -, hfits, hwindows⟩ := h
  refine ⟨?_, ?_, ?_, ?_, hpinned, ?_, hw.trans hwindows⟩ <;> rw [hq]
  · rwa [List.length_map]
  · refine List.pairwise_map.2 (horder.imp fun {a b} hab => ?_)
    rw [hf a, hf b]
    exact hab
  · have hmap : (p.table.map f).map Segment.id = p.table.map Segment.id := by
      rw [List.map_map]
      exact List.map_congr_left fun s _ => by rw [Function.comp_apply, hf s]
    rwa [hmap]
  · have hflat : ((p.table.map f).flatMap fun s => s.markers.map MarkerField.id) =
        p.table.flatMap fun s => s.markers.map MarkerField.id := by
      rw [List.flatMap_map]
      exact List.flatMap_congr fun s _ => by rw [hf s]
    rwa [hflat]
  · intro s hs
    obtain ⟨t, ht, rfl⟩ := List.mem_map.1 hs
    rw [hf t]
    exact hfits t ht

theorem Segment.verified_frame (s : Segment) : s.verified = { s with checkFailed := s.verified.checkFailed } := by
  unfold Segment.verified
  split <;> rfl

theorem pinnedCount_map_verified (t : List Segment) : pinnedCount (t.map Segment.verified) = pinnedCount t := by
  simp only [pinnedCount, List.filter_map, List.length_map]
  congr 2
  funext s
  rw [Function.comp_apply, s.verified_frame]

theorem StoreLaw.read {p : Pst} (h : StoreLaw p) : StoreLaw p.read :=
  h.map rfl rfl (fun s => by rw [s.verified_frame]) (by
    show pinnedCount (p.table.map Segment.verified) ≤ 48
    rw [pinnedCount_map_verified]
    exact h.2.2.2.2.1)

/-- The entry ends the brake test, so the law of the test holds after it whatever stood before (R126). -/
theorem enterFaultStop_test (cause : FaultCause) : (enterFaultStop cause c).brk.test = .off := by
  have hbroadcast (d : Car) : (broadcastFaultStop d).brk.test = d.brk.test := by
    unfold broadcastFaultStop placeFaultStop
    split
    · split
      · rfl
      · split
        · rfl
        · split <;> rfl
    · rfl
  have hlater (n : Nat) (d : Car) : (laterCauses .profileCheck n d).brk.test = d.brk.test := by
    induction n generalizing d with
    | zero => rfl
    | succ n ih => exact ih _
  unfold enterFaultStop
  rw [hlater, hbroadcast, occur_brk, abortTest_test]

theorem enterFaultStop_calm (cause : FaultCause) : Calm c (enterFaultStop cause c) := by
  have hread : StoreLaw c.pst → StoreLaw (if c.odo.position.state ≠ .unknown then c.pst.read else c.pst) := by
    split
    · exact StoreLaw.read
    · exact id
  have hafter (e : Car) (n : Nat) :
      Calm e (laterCauses .profileCheck n (broadcastFaultStop (occur .faultStop cause.code (abortTest e)))) :=
    (abortTest_calm e).trans ((occur_calm ..).trans ((broadcastFaultStop_calm _).trans (laterCauses_calm ..)))
  exact Calm.off_after (o := c.odo) hread (hafter _ _) (enterFaultStop_test c cause)

theorem reportFault_calm (cause : FaultCause) : Calm c (reportFault cause c) :=
  .ite (laterCause_calm ..) (enterFaultStop_calm ..)

theorem reportFaults_calm (cause : FaultCause) (n : Nat) : Calm c (reportFaults cause n c) := by
  induction n generalizing c with
  | zero => exact .refl c
  | succ n ih => exact (reportFault_calm c cause).trans (ih _)

theorem readTable_calm : Calm c (readTable c) := (calm_pst StoreLaw.read).trans (reportFaults_calm ..)

theorem readForExtent_calm : Calm c (readForExtent c) := .ite (.refl c) (readTable_calm c)

theorem refreshCoverage_calm : Calm c (refreshCoverage c) :=
  Calm.trans (.ite (readTable_calm c) (.refl c)) (calm_pst (by exact id))

theorem timebaseExpiry_calm : Calm c (timebaseExpiry c) :=
  .ite (Calm.trans (calm_brk (by exact TestLaw.congr rfl rfl rfl)) (reportFault_calm ..)) (.refl c)

theorem broadcastExpiry_calm : Calm c (broadcastExpiry c) :=
  .ite (Calm.trans (calm_brk (by exact TestLaw.congr rfl rfl rfl)) (broadcastFaultStop_calm _)) (.refl c)

theorem readbackChange_calm (ch : CogChannel) (energised : Bool) : Calm c (readbackChange ch energised c) :=
  calm_brk (TestLaw.congr rfl rfl rfl)

theorem readbackExpiry_calm (ch : CogChannel) : Calm c (readbackExpiry ch c) :=
  .ite (Calm.trans (calm_brk (by exact TestLaw.congr rfl rfl rfl)) (reportFault_calm ..)) (.refl c)

end FaultStop

/-! ## The profile store (R1 to R12) -/

theorem storeLaw_windows {p : Pst} {ws : List Window} (h : StoreLaw p) (hw : ws.length = p.windows.length) :
    StoreLaw { p with windows := ws } := by
  obtain ⟨hlen, horder, hid, hmarkers, hpinned, hfits, hwindows⟩ := h
  exact ⟨hlen, horder, hid, hmarkers, hpinned, hfits, hw.trans hwindows⟩

/-- Records taken out of the table leave its law. -/
theorem StoreLaw.sublist {p : Pst} {t : List Segment} (h : StoreLaw p) (ht : t.Sublist p.table) : StoreLaw { p with table := t } := by
  obtain ⟨hlen, horder, hid, hmarkers, hpinned, hfits, hwindows⟩ := h
  exact ⟨ht.length_le.trans hlen, horder.sublist ht, hid.sublist (ht.map _), hmarkers.sublist (ht.flatMap _),
    (ht.filter _).length_le.trans hpinned, fun s hs => hfits s (ht.subset hs), hwindows⟩

/-- A record of a valid body, before it is stored, with its markers distinct (R3). -/
structure Arriving (s : Segment) : Prop where
  fits : s.Fits
  markers : (s.markers.map MarkerField.id).Nodup

/-- A valid record that no stored one overlaps and that shares no id and no marker with one, put in its place beside fewer than 64
(R1, R4 to R6, R8). -/
theorem StoreLaw.insert {p : Pst} {s : Segment} {t : List Segment} (h : StoreLaw { p with table := t }) (hs : Arriving s)
    (hlen : t.length < 64) (hid : ∀ u ∈ t, u.id ≠ s.id) (hover : ∀ u ∈ t, u.overlaps s.low s.high = false)
    (hmarkers : ∀ u ∈ t, ∀ m ∈ u.markers, ∀ n ∈ s.markers, n.id ≠ m.id)
    (hpin : s.pinned = true → pinnedCount t < 48) : StoreLaw { p with table := insertSegment s t } := by
  obtain ⟨-, horder, hids, hmark, hpinned, hfits, hwindows⟩ := h
  have hp : (insertSegment s t).Perm (s :: t) := insertBy_perm ..
  have hlength : ∀ u ∈ t, 100 ≤ u.length := fun u hu => (hfits u hu).2.1
  have hapart : ∀ u ∈ t, (u.low ≤ s.low → u.low + u.length ≤ s.low) ∧ (¬ u.low ≤ s.low → s.low + s.length ≤ u.low) := by
    intro u hu
    have ho := hover u hu
    rw [Segment.overlaps] at ho
    have hu100 := hlength u hu
    have hs100 := hs.fits.2.1
    have ho := of_decide_eq_false ho
    simp only [Segment.high] at ho
    omega
  refine ⟨?_, ?_, ?_, ?_, ?_, ?_, hwindows⟩
  · show (insertSegment s t).length ≤ 64
    rw [hp.length_eq]
    exact hlen
  · refine insertBy_pairwise (fun a b c hab hbc => by omega) (fun u hu hle => (hapart u hu).1 (of_decide_eq_true hle))
      (fun u hu hle => (hapart u hu).2 (of_decide_eq_false hle)) horder
  · show ((insertSegment s t).map Segment.id).Nodup
    rw [(hp.map _).nodup_iff, List.map_cons, List.nodup_cons]
    refine ⟨fun hm => ?_, hids⟩
    obtain ⟨u, hu, hus⟩ := List.mem_map.1 hm
    exact hid u hu hus
  · show ((insertSegment s t).flatMap fun s => s.markers.map MarkerField.id).Nodup
    rw [(hp.flatMap_right _).nodup_iff, List.flatMap_cons, List.nodup_append]
    refine ⟨hs.markers, hmark, fun a ha b hb => ?_⟩
    obtain ⟨n, hn, rfl⟩ := List.mem_map.1 ha
    obtain ⟨u, hu, hb⟩ := List.mem_flatMap.1 hb
    obtain ⟨m, hm, rfl⟩ := List.mem_map.1 hb
    exact hmarkers u hu m hm n hn
  · show ((insertSegment s t).filter (·.pinned)).length ≤ 48
    rw [(hp.filter _).length_eq, List.filter_cons]
    split
    · rename_i hpinned
      exact hpin hpinned
    · exact hpinned
  · intro u hu
    rcases List.mem_cons.1 (hp.mem_iff.1 hu) with rfl | hu
    · exact hs.fits
    · exact hfits u hu

/-- A body taken gives a record within its table (R3). -/
theorem bodySegment_fits {b : SegmentBody} {s : Segment} (h : bodySegment b = some s) : s.Fits := by
  unfold bodySegment at h
  split at h
  · cases h
  · split at h
    case isFalse => cases h
    case isTrue hb =>
      obtain ⟨hid, hlow, hlen, hmax, hend, -, hg, hg', hu, hd, hplatform, hmarkers, hall, hoffsets⟩ := hb
      cases h
      refine ⟨hid, hlen, hmax, hend, hg, hg', hu, hd, hmarkers, fun m hm => ?_, of_decide_eq_true hoffsets, fun q hq => ?_⟩
      · have := List.all_eq_true.1 hall m hm
        simp only [MarkerField.fits, Bool.and_eq_true, decide_eq_true_eq] at this
        exact ⟨this.1.1, this.1.2, this.2⟩
      · obtain ⟨side, hside, rfl⟩ := Option.map_eq_some_iff.1 hq
        simp only [bodyPlatformFits, hside, Bool.and_eq_true, decide_eq_true_eq] at hplatform
        dsimp only
        omega

section Store
variable (c : Car)

theorem profileChange_calm : Calm c { c with ssv := c.ssv.profileChange } := calm_ssv id

theorem refreshStore_calm : Calm c (refreshStore c) := (refreshCoverage_calm c).trans (profileChange_calm _)

/-- A record stored beside records of the table that it can stand beside (R8, R9). -/
theorem storeSegment_calm {c : Car} {s : Segment} {t : List Segment} (hs : Arriving s) (ht : t.Sublist c.pst.table)
    (hlen : StoreLaw c.pst → t.length < 64) (hid : ∀ u ∈ t, u.id ≠ s.id) (hover : ∀ u ∈ t, u.overlaps s.low s.high = false)
    (hmarkers : ∀ u ∈ t, ∀ m ∈ u.markers, ∀ n ∈ s.markers, n.id ≠ m.id) : Calm c (storeSegment s t c) := by
  have hput (d : Car) (hd : d.pst = c.pst) (wants : Bool) : Calm d { d with pst := { d.pst with
      table := insertSegment { s with pinned := wants && decide (pinnedCount t < 48) }.write t } } := by
    refine calm_pst fun h => ?_
    rw [hd] at h ⊢
    refine (h.sublist ht).insert ⟨hs.fits, hs.markers⟩ (hlen h) hid hover hmarkers fun hpin => ?_
    exact of_decide_eq_true (Bool.and_eq_true_iff.1 hpin).2
  have hfull (b : Bool) : Calm c (if b = true then occur .pinFull s.id c else c) := .ite (occur_calm ..) (.refl c)
  unfold storeSegment
  dsimp only
  refine ((hfull _).trans (hput _ ?_ _)).trans (refreshStore_calm _)
  split <;> rfl

theorem furthest_mem {rear : Int} {dir : Sense} {l : List Segment} {s : Segment} (h : furthest rear dir l = some s) : s ∈ l := by
  induction l generalizing s with
  | nil => cases h
  | cons u l ih =>
    simp only [furthest] at h
    split at h
    case h_1 v hv =>
      split at h
      · cases h; exact .head l
      · cases h; exact .tail u (ih hv)
    case h_2 => cases h; exact .head l

theorem evictee_mem {t : List Segment} {p : PositionRecord} {params : Params} {ahead : Option Sense} {s : Segment}
    (h : evictee t p params ahead = some s) : s ∈ t := by
  unfold evictee at h
  split at h
  · exact List.mem_of_mem_filter (furthest_mem h)
  · cases h

theorem judgeArrival_calm {s : Segment} (hs : Arriving s) : Calm c (judgeArrival s c).2 := by
  unfold judgeArrival
  dsimp only
  have hsub : (c.pst.table.filter fun t => !(t.id == s.id)).Sublist c.pst.table := List.filter_sublist
  have hid : ∀ u ∈ c.pst.table.filter fun t => !(t.id == s.id), u.id ≠ s.id := fun u hu => by
    simpa using (List.mem_filter.1 hu).2
  generalize (c.pst.table.filter fun t => !(t.id == s.id)) = others at hsub hid
  split
  · exact .refl c
  · rename_i hover
    have hover : ∀ u ∈ others, u.overlaps s.low s.high = false := by simpa using hover
    split
    · exact .refl c
    · rename_i hmarkers
      have hmarkers : ∀ u ∈ others, ∀ m ∈ u.markers, ∀ n ∈ s.markers, n.id ≠ m.id := by simpa using hmarkers
      split
      · rename_i hroom
        exact storeSegment_calm hs hsub (fun _ => hroom) hid hover hmarkers
      · split
        · rename_i old hold
          have hsub' : (others.filter fun t => !(t.id == old.id)).Sublist others := List.filter_sublist
          refine storeSegment_calm hs (hsub'.trans hsub) (fun hlaw => ?_) (fun u hu => hid u (hsub'.subset hu))
            (fun u hu => hover u (hsub'.subset hu)) (fun u hu => hmarkers u (hsub'.subset hu))
          have hless : (others.filter fun t => !(t.id == old.id)).length < others.length :=
            List.length_filter_lt_length_iff_exists.2 ⟨old, evictee_mem hold, by simp⟩
          exact hless.trans_le (hsub.length_le.trans hlaw.1)
        · exact occur_calm ..

theorem segmentArrival_calm (b : SegmentBody) : Calm c (segmentArrival b c).2 := by
  unfold segmentArrival
  split
  · exact .refl c
  · rename_i s hs
    split
    · rename_i hdistinct
      exact .of_snd_ite (judgeArrival_calm c ⟨bodySegment_fits hs, of_decide_eq_true hdistinct⟩) (readTable_calm c)
    · exact .refl c

theorem segmentRemove_calm (id : Nat) : Calm c (segmentRemove id c).2 := by
  unfold segmentRemove
  refine .of_snd_ite (.refl c) (.of_snd_ite (readTable_calm c) ?_)
  split
  · exact .refl c
  · refine .of_snd_ite (.refl c) ?_
    exact (calm_pst fun h => h.sublist List.filter_sublist).trans (refreshStore_calm _)

theorem Segment.repin_frame (ws : List Window) (s : Segment) : s.repin ws =
    { s with pinned := (s.repin ws).pinned, check := (s.repin ws).check, checkFailed := (s.repin ws).checkFailed } := by
  simp only [Segment.repin, Segment.write]
  split <;> dsimp only

/-- A record's pinned flag follows the windows (R11). -/
theorem Segment.repin_pinned (ws : List Window) (s : Segment) : (s.repin ws).pinned = pinMatch ws s.id := by
  unfold Segment.repin
  dsimp only
  split
  · rename_i h
    exact h.symm
  · rfl

theorem pinnedCount_map_repin (ws : List Window) (t : List Segment) :
    pinnedCount (t.map (·.repin ws)) = (t.filter fun s => pinMatch ws s.id).length := by
  simp only [pinnedCount, List.filter_map, List.length_map]
  congr 2
  funext s
  exact s.repin_pinned ws

theorem pinWindowSet_calm (window : Nat) (valid : Bool) (value mask : Nat) : Calm c (pinWindowSet window valid value mask c).2 := by
  unfold pinWindowSet
  refine .of_snd_ite (.refl c) (.of_snd_ite (readTable_calm c) ?_)
  dsimp only
  split
  · exact .refl c
  · rename_i hlimit
    refine calm_pst fun h => h.map rfl (List.length_set ..) (Segment.repin_frame _) ?_
    rw [pinnedCount_map_repin]
    omega

end Store
end Sys2Proof.Machine
end

section
/-! What every command keeps, continued: the restriction lists, the radio link, the odometry and the tooth loops. -/

namespace Sys2Proof.Machine

/-! ## The restriction and overflow lists (R83 to R91) -/

/-- Entries taken out of both lists keep the law, when the saturated flag stands only with an entry left (R83, R89). -/
theorem RestrictionLaw.sublist {s t : Ssv} (h : RestrictionLaw s) (hr : t.restrictions.Sublist s.restrictions)
    (ho : t.overflow.Sublist s.overflow) (hsat : t.saturated = true → t.overflow ≠ []) : RestrictionLaw t := by
  obtain ⟨hlen, hid, horder, hlen', hid', hapart, -⟩ := h
  exact ⟨hr.length_le.trans hlen, hid.sublist (hr.map _), horder.sublist hr, ho.length_le.trans hlen', hid'.sublist (ho.map _),
    fun r hr' e he => hapart r (hr.subset hr') e (ho.subset he), hsat⟩

/-- An entry of an id that neither list holds takes its place among fewer than 16 (R83, R87). -/
theorem RestrictionLaw.insert {s t : Ssv} (h : RestrictionLaw s) {r : Restriction} (hroom : s.restrictions.length < 16)
    (hnew : ∀ q ∈ s.restrictions, q.id ≠ r.id) (hnone : ∀ e ∈ s.overflow, e.id ≠ r.id)
    (hr : t.restrictions = insertRestriction r s.restrictions) (ho : t.overflow = s.overflow) (hsat : t.saturated = s.saturated) :
    RestrictionLaw t := by
  obtain ⟨-, hid, horder, hlen', hid', hapart, hsaturated⟩ := h
  have hp : (insertRestriction r s.restrictions).Perm (r :: s.restrictions) := insertBy_perm ..
  unfold RestrictionLaw
  rw [hr, ho, hsat]
  refine ⟨hp.length_eq.trans_le hroom, ?_, ?_, hlen', hid', fun q hq e he => ?_, hsaturated⟩
  · rw [(hp.map _).nodup_iff, List.map_cons, List.nodup_cons]
    refine ⟨fun hm => ?_, hid⟩
    obtain ⟨q, hq, hqr⟩ := List.mem_map.1 hm
    exact hnew q hq hqr
  · refine insertBy_pairwise (fun a b c hab hbc => by omega) (fun q hq hle => ?_) (fun q hq hle => ?_) horder
    · have := hnew q hq
      simp only [Restriction.before, Bool.or_eq_true, Bool.and_eq_true, decide_eq_true_eq, beq_iff_eq] at hle
      omega
    · simp only [Restriction.before, Bool.or_eq_false_iff, Bool.and_eq_false_iff, decide_eq_false_iff_not, beq_eq_false_iff_ne] at hle
      omega
  · rcases List.mem_cons.1 (hp.mem_iff.1 hq) with rfl | hq
    · exact (hnone e he).symm
    · exact hapart q hq e he

theorem withoutRestriction_ne {id : Nat} {l : List Restriction} : ∀ r ∈ withoutRestriction id l, r.id ≠ id := fun r hr => by
  simpa using (List.mem_filter.1 hr).2

theorem withoutOverflow_ne {id : Nat} {l : List OverflowEntry} : ∀ e ∈ withoutOverflow id l, e.id ≠ id := fun e he => by
  simpa using (List.mem_filter.1 he).2

/-- The saturated flag that is given up with the last entry stands only with an entry left. -/
theorem saturated_of_and {saturated : Bool} {l : List OverflowEntry} (h : (saturated && !l.isEmpty) = true) : l ≠ [] := by
  simpa using (Bool.and_eq_true_iff.1 h).2

theorem RestrictionLaw.accept {s : Ssv} (h : RestrictionLaw s) (q : RestrictionRequest) (origin : Origin)
    (hroom : (s.restrictions.any fun r => r.id == q.id) = true ∨ s.restrictions.length < 16) :
    RestrictionLaw (s.acceptRestriction q origin) := by
  let others : Ssv := { s with
    restrictions := withoutRestriction q.id s.restrictions
    overflow := withoutOverflow q.id s.overflow
    saturated := s.saturated && !(withoutOverflow q.id s.overflow).isEmpty }
  have hothers : RestrictionLaw others := h.sublist List.filter_sublist List.filter_sublist saturated_of_and
  refine hothers.insert ?_ withoutRestriction_ne withoutOverflow_ne rfl rfl rfl
  show (withoutRestriction q.id s.restrictions).length < 16
  have hle := h.1
  rcases hroom with hany | hroom
  · obtain ⟨r, hr, hrq⟩ := List.any_eq_true.1 hany
    have hless : (withoutRestriction q.id s.restrictions).length < s.restrictions.length :=
      List.length_filter_lt_length_iff_exists.2 ⟨r, hr, by simp [hrq]⟩
    omega
  · exact (List.length_filter_le ..).trans_lt hroom

theorem RestrictionLaw.refuse {s : Ssv} (h : RestrictionLaw s) (id speed : Nat)
    (hnew : ∀ r ∈ s.restrictions, r.id ≠ id) : RestrictionLaw (s.refuseRestriction id speed) := by
  obtain ⟨hlen, hid, horder, hlen', hid', hapart, hsat⟩ := h
  unfold Ssv.refuseRestriction
  split
  case isTrue =>
    have hmap : (s.overflow.map fun e => if e.id = id then { e with speed := min e.speed speed } else e).map OverflowEntry.id =
        s.overflow.map OverflowEntry.id := by
      rw [List.map_map]
      exact List.map_congr_left fun e _ => by simp only [Function.comp_apply]; split <;> rfl
    refine ⟨hlen, hid, horder, by rwa [List.length_map], by rwa [hmap], fun r hr e he => ?_, fun hs => ?_⟩
    · have hmem := List.mem_map_of_mem (f := OverflowEntry.id) he
      rw [hmap] at hmem
      obtain ⟨e', he', hee⟩ := List.mem_map.1 hmem
      exact hee ▸ hapart r hr e' he'
    · simpa using hsat hs
  case isFalse hnone =>
    have hnone : ∀ e ∈ s.overflow, e.id ≠ id := by simpa using hnone
    split
    case isTrue hroom =>
      refine ⟨hlen, hid, horder, by rw [List.length_append]; exact hroom, ?_, fun r hr e he => ?_, fun _ => by simp⟩
      · rw [List.map_append, List.map_singleton, List.nodup_append]
        refine ⟨hid', List.nodup_singleton _, fun a ha b hb => ?_⟩
        obtain ⟨e, he, rfl⟩ := List.mem_map.1 ha
        rw [List.mem_singleton.1 hb]
        exact hnone e he
      · rcases List.mem_append.1 he with he | he
        · exact hapart r hr e he
        · rw [List.mem_singleton.1 he]
          exact hnew r hr
    case isFalse hroom => exact ⟨hlen, hid, horder, hlen', hid', hapart, fun _ he => hroom (by rw [he]; decide)⟩

section Restrictions
variable (c : Car)

theorem handOverflow_calm (before : List OverflowEntry) : Calm c (handOverflow before c) := levelChange_calm ..

theorem handLists_calm (before : Ssv) (changed : Bool) : Calm c (handLists before changed c) :=
  Calm.trans (.ite (ssvCause_calm c) (.refl c)) (handOverflow_calm _ _)

theorem restrictionAdd_calm (id low high speed appliesTo : Nat) (origin : Origin) :
    Calm c (restrictionAdd id low high speed appliesTo origin c).2 := by
  unfold restrictionAdd
  split
  · exact .refl c
  · rename_i q _
    split
    case isTrue hroom => exact (calm_ssv fun h => h.accept q origin hroom).trans (handLists_calm ..)
    case isFalse hfull =>
      refine (calm_ssv fun h => h.refuse q.id q.speed ?_).trans (handLists_calm ..)
      simpa using (not_or.1 hfull).1

theorem restrictionCancel_calm (id : Nat) : Calm c (restrictionCancel id c).2 := by
  unfold restrictionCancel
  refine .of_snd_ite (.refl c) (.of_snd_ite ?_ (.refl c))
  exact (calm_ssv fun h => h.sublist List.filter_sublist List.filter_sublist saturated_of_and).trans (handLists_calm ..)

end Restrictions

/-! ## Link supervision (R155 to R159) -/

section Link
variable (c : Car)

theorem setLink_calm (link : LinkState) : Calm c (setLink link c) := by
  have hlink : Calm c { c with vrl := { c.vrl with link := link } } := calm_vrl rfl rfl rfl
  unfold setLink
  exact hlink.trans (.ite (.refl _) (ssvCause_calm _))

theorem startSupervision_calm : Calm c (startSupervision c) := calm_vrl rfl rfl rfl

theorem enterShadow_calm : Calm c (enterShadow c) := Calm.trans (calm_vrl (by exact rfl) (by exact rfl) (by exact rfl)) (setLink_calm ..)

theorem hearFrame_calm : Calm c (hearFrame c) := by
  unfold hearFrame
  split
  · exact (setLink_calm ..).trans (startSupervision_calm _)
  · have h := ((setLink_calm c .linked).trans (startSupervision_calm _)).trans (occur_calm _ .radioLinked c.vrl.station)
    exact h.trans (.ite (enterShadow_calm _) (.refl _))
  · exact startSupervision_calm c
  · exact .refl c

theorem shadowTest_calm : Calm c (shadowTest c) := by
  have hstands (d : Car) (stands : Bool) : Calm d { d with vrl := { d.vrl with shadowStands := stands } } :=
    calm_vrl rfl rfl rfl
  have hstop (d : Car) : Calm d { d with vrl := { d.vrl with shadow := none } } := calm_vrl rfl rfl rfl
  unfold shadowTest
  dsimp only
  refine .ite ((readForExtent_calm c).trans ?_) (.refl c)
  generalize readForExtent c = d
  generalize shadowOver d.pst.readable d.odo.position d.lif.params.carLength = stands
  split
  · exact (hstands d true).trans (enterShadow_calm _)
  · exact (hstands d false).trans ((hstop _).trans ((setLink_calm ..).trans (startSupervision_calm _)))
  · exact hstands d _

theorem supervisionExpiry_calm : Calm c (supervisionExpiry c) := by
  have hstop : Calm c { c with vrl := { c.vrl with supervision := none } } := calm_vrl rfl rfl rfl
  unfold supervisionExpiry
  refine .ite ?_ (.refl c)
  split
  · exact hstop.trans ((setLink_calm ..).trans (occur_calm ..))
  · exact hstop.trans ((setLink_calm ..).trans (occur_calm ..))
  · exact .refl c

theorem shadowExpiry_calm : Calm c (shadowExpiry c) := by
  have hstop : Calm c { c with vrl := { c.vrl with shadow := none } } := calm_vrl rfl rfl rfl
  unfold shadowExpiry
  split
  · exact .ite (hstop.trans ((setLink_calm ..).trans ((occur_calm ..).trans (occur_calm ..)))) (.refl c)
  · exact .refl c

theorem followerExpiry_calm : Calm c (followerExpiry c) := by
  have hstop : Calm c { c with vrl := { c.vrl with follower := none } } := calm_vrl rfl rfl rfl
  exact .ite ((hstop.trans (setLink_calm ..)).trans (.ite (.refl _) (occur_calm ..))) (.refl c)

theorem takeRadioStatus_calm (link : LinkState) (station : Nat) : Calm c (takeRadioStatus link station c) := by
  have htake : Calm c { c with vrl := { c.vrl with station := station, follower := some 0 } } := calm_vrl rfl rfl rfl
  exact .ite ((htake.trans (setLink_calm ..)).trans (.ite (occur_calm ..) (.ite (occur_calm ..) (.refl _)))) (.refl c)

theorem positionChanged_calm : Calm c (positionChanged c) :=
  (refreshCoverage_calm c).trans ((ssvCause_calm _).trans (shadowTest_calm _))

end Link

/-! ## The odometry unit (R43 to R60) -/

section Odometry
variable (c : Car)

theorem calm_odo (o : Odo) : Calm c { c with odo := o } := calm_free

theorem handValidity_calm (ch : LoopChannel) (valid : Bool) : Calm c (handValidity ch valid c) := calm_odo ..

theorem handPulse_calm (ch : LoopChannel) (idle : Bool) : Calm c (handPulse ch idle c) :=
  (calm_odo c _).trans (standstillEnd_calm _)

theorem handIdle_calm (ch : LoopChannel) : Calm c (handIdle ch c) := calm_odo ..

theorem judgeMesh_calm : Calm c (judgeMesh c) := by
  unfold judgeMesh
  dsimp only
  exact ((calm_odo c _).trans (.ite (.refl _) (ssvCause_calm _))).trans ((levelChange_calm ..).trans (causeChange_calm ..))

theorem handWord_calm (ch : LoopChannel) (cls : Nat) : Calm c (handWord ch cls c) :=
  .ite ((readForExtent_calm c).trans (.ite ((calm_odo ..).trans (judgeMesh_calm _)) (.refl _))) (.refl c)

theorem handLost_calm (before : PositionState) (detail : Nat) : Calm c (handLost before detail c) :=
  .ite (occur_calm ..) (.refl c)

theorem standstillBegin_calm : Calm c (standstillBegin c) := by
  have hbegin (o : Odo) (b : Brk) (s : Ssv) (hb : TestLaw c.brk → TestLaw b) (hs : RestrictionLaw c.ssv → RestrictionLaw s) :
      Calm c { c with odo := o, brk := b, ssv := s } := (calm_brk hb).trans (calm_ssv hs)
  unfold standstillBegin
  dsimp only
  refine (hbegin _ _ _ ?_ ?_).trans ((levelChange_calm ..).trans
    ((causeChange_calm ..).trans ((causeChange_calm ..).trans (judgeMesh_calm _))))
  · exact TestLaw.congr rfl rfl rfl
  · exact id

theorem judgeStandstill_calm : Calm c (judgeStandstill c) := .ite (standstillBegin_calm c) (.refl c)

theorem takeRollback_calm (advance : Nat) : Calm c (takeRollback advance c) :=
  (calm_odo c _).trans ((levelChange_calm ..).trans (causeChange_calm ..))

theorem checkMesh_calm (k : KindSet) : Calm c (checkMesh k c) := .ite (.refl c) ((calm_odo ..).trans (judgeMesh_calm _))

theorem judgeCounts_calm (used : List LoopChannel) : Calm c (judgeCounts used c) := by
  unfold judgeCounts
  dsimp only
  exact ((calm_odo c _).trans (.ite (.refl _) (ssvCause_calm _))).trans ((levelChange_calm ..).trans (causeChange_calm ..))

theorem takeAdvance_calm (advance : Nat) : Calm c (takeAdvance advance c) := (calm_odo c _).trans (handLost_calm ..)

theorem updateConditions_calm (k : KindSet) (used : List LoopChannel) (advance : Nat) :
    Calm c (updateConditions k used advance c) :=
  (takeAdvance_calm c advance).trans ((judgeStandstill_calm _).trans ((takeRollback_calm ..).trans
    ((checkMesh_calm ..).trans (judgeCounts_calm ..))))

theorem closeWindows_calm : Calm c (closeWindows c) := calm_odo ..

theorem fuse_calm (used : List LoopChannel) : Calm c (fuse used c) := calm_odo ..

theorem updateCause_calm : Calm c { c with ssv := c.ssv.updateCause } := calm_ssv id

theorem odometryUpdate_calm : Calm c (odometryUpdate c) := by
  have hstart : Calm c { c with odo := { c.odo with updateTimer := some 0 }, brk := { c.brk with watch := some 0 } } :=
    calm_brk (TestLaw.congr rfl rfl rfl)
  unfold odometryUpdate
  dsimp only
  refine hstart.trans ((closeWindows_calm _).trans ((readForExtent_calm _).trans ?_))
  generalize readForExtent _ = d
  exact (fuse_calm d _).trans ((updateConditions_calm ..).trans ((refreshCoverage_calm _).trans
    ((updateCause_calm _).trans (shadowTest_calm _))))

theorem takeFix_calm (pos unc : Nat) (fix : Fix) : Calm c (takeFix pos unc fix c) :=
  (calm_odo c _).trans ((calm_odo _ _).trans (positionChanged_calm _))

theorem positionSet_calm (pos : Nat) : Calm c (positionSet pos c).2 :=
  .of_snd_ite (.refl c) (.of_snd_ite (.refl c) (takeFix_calm ..))

theorem markerConflict_calm (id : Nat) : Calm c (markerConflict id c) := by
  unfold markerConflict
  dsimp only
  exact (occur_calm ..).trans (.ite (calm_odo ..) ((calm_odo _ _).trans ((occur_calm ..).trans (positionChanged_calm _))))

theorem judgeMarker_calm (id : Nat) : Calm c (judgeMarker id c) := by
  unfold judgeMarker
  dsimp only
  split
  · exact occur_calm ..
  · exact .ite (markerConflict_calm ..) (takeFix_calm ..)

theorem markerRead_calm (id : Nat) (checkOk : Bool) : Calm c (markerRead id checkOk c) :=
  .ite ((readTable_calm c).trans (judgeMarker_calm ..)) (calm_odo ..)

theorem rejudgeUncertainty_calm : Calm c (rejudgeUncertainty c) := by
  unfold rejudgeUncertainty
  dsimp only
  exact .ite (.refl c) (((calm_odo c _).trans (handLost_calm ..)).trans
    (.ite (refreshCoverage_calm _) (positionChanged_calm _)))

theorem commandChanged_calm (d : Direction) : Calm c (commandChanged d c) := by
  unfold commandChanged
  dsimp only
  exact ((calm_odo c _).trans (.ite (.refl _) (refreshCoverage_calm _))).trans (ssvCause_calm _)

end Odometry

/-! ## The tooth loop front end (R25 to R39) -/

section Sensors
variable (c : Car)

theorem setLoop_calm (ch : LoopChannel) (r : TlfChannel) : Calm c (setLoop ch r c) := calm_free

theorem handSaturation_calm (ch : LoopChannel) (code : Nat) (before after : Bool) : Calm c (handSaturation ch code before after c) :=
  .ite (occur_calm ..) (.refl c)

theorem reworkLoop_calm (ch : LoopChannel) (r : TlfChannel) : Calm c (reworkLoop ch r c) :=
  (setLoop_calm c ch _).trans ((handSaturation_calm ..).trans ((handSaturation_calm ..).trans (handSaturation_calm ..)))

theorem passTo_calm (ch : LoopChannel) (state : ChannelState) : Calm c (passTo ch state c) :=
  (setLoop_calm c ch _).trans (.ite (.refl _) (handValidity_calm ..))

theorem levelRise_calm (ch : LoopChannel) (sincePulse lowest : Nat) : Calm c (levelRise ch sincePulse lowest c) :=
  .ite (setLoop_calm ..) (.refl c)

theorem startReceiver_calm (ch : LoopChannel) : Calm c (startReceiver ch c) := setLoop_calm ..

theorem levelEnd_calm (ch : LoopChannel) (duration highest : Nat) : Calm c (levelEnd ch duration highest c) := by
  unfold levelEnd
  dsimp only
  split
  · split
    · exact ((reworkLoop_calm ..).trans (startReceiver_calm ..)).trans (.ite (handPulse_calm ..) (.refl _))
    · exact (setLoop_calm ..).trans (.ite (handIdle_calm ..) (.refl _))
    · exact setLoop_calm ..
  · exact .refl c

theorem latchEvent_calm (ch : LoopChannel) (code : Nat) (wasSet : Bool) : Calm c (latchEvent ch code wasSet c) :=
  .ite (.refl c) (occur_calm ..)

theorem faultWhenActive_calm (ch : LoopChannel) : Calm c (faultWhenActive ch c) := .ite (passTo_calm ..) (.refl c)

theorem latchSensor_calm (ch : LoopChannel) : Calm c (latchSensor ch c) :=
  (setLoop_calm c ch _).trans ((faultWhenActive_calm ..).trans (latchEvent_calm ..))

theorem wordEffect_calm (ch : LoopChannel) (w : DataWord) : Calm c (wordEffect ch w c) :=
  .ite (latchSensor_calm ..) (.ite (handWord_calm ..) (.refl c))

theorem wordComplete_calm (ch : LoopChannel) (samples : List Nat) : Calm c (wordComplete ch samples c) := by
  unfold wordComplete
  dsimp only
  split
  · exact .ite ((reworkLoop_calm ..).trans (.ite (wordEffect_calm ..) (.refl _))) (setLoop_calm ..)
  · exact .refl c

theorem shortDetected_calm (ch : LoopChannel) : Calm c (shortDetected ch c) :=
  .ite (.refl c) ((setLoop_calm ..).trans ((passTo_calm ..).trans (occur_calm ..)))

theorem openDetected_calm (ch : LoopChannel) : Calm c (openDetected ch c) :=
  .ite (.refl c) ((setLoop_calm ..).trans ((faultWhenActive_calm ..).trans (latchEvent_calm ..)))

theorem settlingEnd_calm (ch : LoopChannel) (lowest : Nat) : Calm c (settlingEnd ch lowest c) :=
  .ite ((reworkLoop_calm ..).trans (passTo_calm ..)) (.refl c)

theorem clearLoop_calm (ch : LoopChannel) : Calm c (clearLoop c ch) := by
  unfold clearLoop
  dsimp only
  refine (setLoop_calm c ch (c.tlf.get ch).cleared).trans ?_
  split
  · exact passTo_calm ..
  · exact setLoop_calm ..
  · exact .refl _

/-- Calm work done for each of some channels in turn. -/
theorem foldl_calm {α : Type} {f : Car → α → Car} (hf : ∀ d x, Calm d (f d x)) (l : List α) : Calm c (l.foldl f c) := by
  induction l generalizing c with
  | nil => exact .refl c
  | cons x l ih => exact (hf c x).trans (ih _)

theorem faultRead_calm : Calm c (faultRead c).2 := foldl_calm c clearLoop_calm _

end Sensors
end Sys2Proof.Machine
end

section
/-! What every command keeps, concluded: the supervisor, the valley radio, the parameters and telegram acceptance, and the step
with the statements about it. -/

namespace Sys2Proof.Machine

/-! ## The speed supervisor (R65 to R80) -/

section Supervisor
variable (c : Car)

/-- The supervision record carries no law of these. -/
theorem calm_record (r : Supervision) : Calm c { c with ssv := { c.ssv with record := r } } := calm_ssv id

theorem record_calm (e : EvalCopy) (a : Assessment) : Calm c (record e a c) :=
  (calm_record c _).trans ((levelChange_calm ..).trans (levelChange_calm ..))

theorem compareWarning_calm (v : Nat) : Calm c (compareWarning v c) := (calm_record c _).trans (levelChange_calm ..)

theorem compareIntervention_calm (v : Nat) : Calm c (compareIntervention v c) := by
  have hset (r : Supervision) (request : Bool) :
      Calm c { c with ssv := { c.ssv with record := r }, brk := { c.brk with intervention := request } } :=
    (calm_record c r).trans (calm_brk (TestLaw.congr rfl rfl rfl))
  exact (hset _ _).trans (levelChange_calm ..)

theorem compareOverspeed_calm (v : Nat) : Calm c (compareOverspeed v c) := (calm_record c _).trans (causeChange_calm ..)

theorem compareHold_calm : Calm c (compareHold c) := calm_record ..

theorem compare_calm (v : Nat) : Calm c (compare v c) :=
  (compareWarning_calm c v).trans ((compareIntervention_calm _ v).trans ((compareOverspeed_calm _ v).trans (compareHold_calm _)))

theorem evaluationStart_calm : Calm c (evaluationStart c) := .ite (calm_ssv id) (.refl c)

theorem evaluationEnd_calm (upset : Option Nat) : Calm c (evaluationEnd upset c) := by
  have hstop : Calm c { c with ssv := { c.ssv with running := none } } := calm_ssv id
  have hjudged (d : Car) (e : EvalCopy) (a : Assessment) (p : Prop) [Decidable p] :
      Calm d (if p then (if e.byUpdate then compare e.v (record e a d) else record e a d) else reportFault .crosscheck d) :=
    .ite (.ite ((record_calm ..).trans (compare_calm ..)) (record_calm ..)) (reportFault_calm ..)
  unfold evaluationEnd
  split
  · exact .refl c
  · exact hstop.trans (Calm.trans (.ite (.refl _) (readTable_calm _)) (hjudged ..))

end Supervisor

/-! ## The valley radio link (R152 to R168) -/

section Radio
variable (c : Car)

theorem sendReport_calm (r : Report) : Calm c (sendReport r c) := calm_queueReport ..

theorem reportPosition_calm (number : Nat) : Calm c (reportPosition number c) :=
  (readForExtent_calm c).trans (sendReport_calm ..)

theorem freeTransmit_calm : Calm c (freeTransmit c) := by
  have hfree : Calm c { c with vrl := { c.vrl with transmit := none } } := calm_vrl rfl rfl rfl
  refine hfree.trans ⟨keeps_vrl fun h => h.pump _, rfl, ?_, ?_, rfl, rfl, rfl⟩
  · rw [freeTransmit, Vrl.pump_frame]
  · rw [freeTransmit, Vrl.pump_frame]

theorem sendConfirmed_calm (stale : Bool) : Calm c (sendConfirmed stale c) := .ite (.refl c) (freeTransmit_calm c)

theorem modemTimeout_calm : Calm c (modemTimeout c) := by
  have hcount : Calm c { c with vrl := { c.vrl with modemTimeouts := bump c.vrl.modemTimeouts } } := calm_vrl rfl rfl rfl
  unfold modemTimeout
  split
  · exact .ite (hcount.trans (freeTransmit_calm _)) (.refl c)
  · exact .refl c

theorem reportExpiry_calm : Calm c (reportExpiry c) := by
  have hstart : Calm c { c with vrl := { c.vrl with reportTimer := some 0 } } := calm_vrl rfl rfl rfl
  exact .ite (hstart.trans (reportPosition_calm ..)) (.refl c)

theorem statusExpiry_calm : Calm c (statusExpiry c) := by
  have hstart : Calm c { c with vrl := { c.vrl with statusTimer := some 0 } } := calm_vrl rfl rfl rfl
  exact .ite (hstart.trans (.ite (.refl _) (placeNonReply_calm ..))) (.refl c)

theorem remoteStop_calm (number : Nat) : Calm c (remoteStop number c).2 := by
  have hnumber (d : Car) : Calm d { d with vrl := { d.vrl with stopNumber := some number } } := calm_vrl rfl rfl rfl
  exact Calm.trans (.ite (.refl c) (causeStart_calm ..)) (hnumber _)

theorem stopRelease_calm (named : Nat) : Calm c (stopRelease named c).2 := by
  have hnumber (d : Car) : Calm d { d with vrl := { d.vrl with stopNumber := none } } := calm_vrl rfl rfl rfl
  unfold stopRelease
  split
  · split
    · exact (causeEnd_calm ..).trans (hnumber _)
    · exact .refl c
  · exact .refl c

theorem executeOrder_calm (o : Order) (number : Nat) : Calm c (executeOrder o number c).2 := by
  cases o with
  | restrictionAdd id low high speed appliesTo => exact restrictionAdd_calm ..
  | restrictionCancel id => exact restrictionCancel_calm ..
  | remoteStop => exact remoteStop_calm ..
  | stopRelease named => exact stopRelease_calm ..
  | segmentDelivery b => exact segmentArrival_calm ..
  | positionPoll => exact reportPosition_calm ..

theorem placeRelay_calm (kind number : Nat) (body : List Byte) : Calm c (placeRelay kind number body c).2 :=
  placeNonReply_calm ..

theorem acknowledge_calm (number kind : Nat) (r : Result) (duplicate : Bool) (relay : RelayState) :
    Calm c (acknowledge number kind r duplicate relay c) := sendReport_calm ..

/-- An order of a number that the list does not hold, entered at its newest end (R163). -/
theorem enter_keeps {c : Car} {e : OrderEntry} (h : ∀ x ∈ c.vrl.recent, x.number ≠ e.number) : Keeps c (enter e c) := by
  refine keeps_vrl fun ⟨hreports, hlen, hnumbers, hempty⟩ => ⟨hreports, ?_, ?_, hempty⟩
  · simp only [enterOrder, List.length_drop, List.length_append, List.length_singleton]
    omega
  · have hall : ((c.vrl.recent ++ [e]).map OrderEntry.number).Nodup := by
      rw [List.map_append, List.map_singleton, List.nodup_append]
      refine ⟨hnumbers, List.nodup_singleton _, fun a ha b hb => ?_⟩
      obtain ⟨x, hx, rfl⟩ := List.mem_map.1 ha
      rw [List.mem_singleton.1 hb]
      exact h x hx
    exact hall.sublist ((List.drop_sublist ..).map _)

theorem runOrder_keeps {c : Car} {number : Nat} (o : Order) (body : List Byte)
    (h : ∀ x ∈ c.vrl.recent, x.number ≠ number) : Keeps c (runOrder o number body c) := by
  unfold runOrder
  dsimp only
  have hexecute := executeOrder_calm c o number
  generalize executeOrder o number c = executed at hexecute
  have hrelay : Calm c (if orderCode o = 6 ∨ executed.1 = .faultStop then (RelayState.none, executed.2)
      else placeRelay (orderCode o) number body executed.2).2 :=
    .of_snd_ite hexecute (hexecute.trans (placeRelay_calm ..))
  generalize (if orderCode o = 6 ∨ executed.1 = .faultStop then (RelayState.none, executed.2)
      else placeRelay (orderCode o) number body executed.2) = relayed at hrelay
  refine (hrelay.keeps.trans (enter_keeps ?_)).trans ((acknowledge_calm ..).trans (occur_calm ..)).keeps
  rw [hrelay.recent]
  exact h

theorem repeatOrder_keeps (e : OrderEntry) : Keeps c (repeatOrder e c) := by
  have hrecent (d : Car) (relay : RelayState) : Keeps d { d with vrl := { d.vrl with
      recent := d.vrl.recent.map fun x => if x.number = e.number then { x with relay := relay } else x } } := by
    refine keeps_vrl fun ⟨hreports, hlen, hnumbers, hempty⟩ => ⟨hreports, by rwa [List.length_map], ?_, hempty⟩
    have hmap : (d.vrl.recent.map fun x => if x.number = e.number then { x with relay := relay } else x).map OrderEntry.number =
        d.vrl.recent.map OrderEntry.number := by
      rw [List.map_map]
      exact List.map_congr_left fun x _ => by simp only [Function.comp_apply]; split <;> rfl
    rwa [hmap]
  unfold repeatOrder
  dsimp only
  have hrelay : Calm c (if e.relay = .dropped then placeRelay e.kind e.number e.body c else (e.relay, c)).2 :=
    .of_snd_ite (placeRelay_calm ..) (.refl c)
  exact (hrelay.keeps.trans (hrecent _ _)).trans (acknowledge_calm ..).keeps

theorem handleOrder_keeps (f : RadioFrame) : Keeps c (handleOrder f c) := by
  unfold handleOrder
  refine .ite (.refl c) (.ite (acknowledge_calm ..).keeps ?_)
  split
  · exact repeatOrder_keeps ..
  · rename_i hnone
    have hnew : ∀ x ∈ c.vrl.recent, x.number ≠ f.number := by simpa using hnone
    split
    · exact (enter_keeps hnew).trans (acknowledge_calm ..).keeps
    · exact runOrder_keeps _ _ hnew

theorem radioReceived_keeps (bytes : List Byte) : Keeps c (radioReceived bytes c) := by
  have hstation (station : Nat) : Calm c { c with vrl := { c.vrl with station := station } } := calm_vrl rfl rfl rfl
  unfold radioReceived
  refine .ite (.refl c) ?_
  split
  · exact Calm.keeps (calm_vrl (by exact rfl) (by exact rfl) (by exact rfl))
  · rename_i f _
    have hheard := (hstation f.station).trans (hearFrame_calm _)
    exact .ite hheard.keeps (hheard.keeps.trans (handleOrder_keeps ..))

theorem takeRelay_keeps (kind number : Nat) (body : List Byte) : Keeps c (takeRelay kind number body c) := by
  unfold takeRelay
  split
  · exact .refl c
  · rename_i hnew
    have hnew : ∀ x ∈ c.vrl.recent, x.number ≠ number := by simpa using (not_or.1 hnew).2
    split
    · exact .refl c
    · exact .refl c
    · rename_i o _ _
      have hexecute := executeOrder_calm c o number
      refine hexecute.keeps.trans ((enter_keeps ?_).trans (occur_calm ..).keeps)
      rw [hexecute.recent]
      exact hnew

end Radio

/-! ## Parameters and telegrams (R181 to R191, R194) -/

section Telegrams
variable (c : Car)

theorem applyParameter_calm (q : Parameter) : Calm c (applyParameter q c) := by
  unfold applyParameter
  split
  all_goals first
    | exact reworkLoop_calm ..
    | exact foldl_calm c (fun d ch => reworkLoop_calm d ch _) _
    | exact (refreshCoverage_calm c).trans (ssvCause_calm _)
    | exact rejudgeUncertainty_calm c
    | exact ssvCause_calm c
    | exact .refl c

theorem installParameter_keeps (q : Parameter) (v : Nat) : Keeps c (installParameter q v c) := by
  have hinstall : Keeps c { c with lif := { c.lif with params := c.lif.params.install q v } } := keeps_lif id
  exact hinstall.trans (.ite (.refl _) (applyParameter_calm ..).keeps)

theorem parameterSet_keeps (id v : Nat) : Keeps c (parameterSet id v c).2 := by
  unfold parameterSet
  split
  · exact .refl c
  · rename_i q _
    split
    · exact .refl c
    · split
      · exact .refl c
      · split
        · exact .refl c
        · dsimp only
          split
          · exact installParameter_keeps ..
          · exact (installParameter_keeps ..).trans (occur_calm ..).keeps

theorem takeDemand_keeps (d : DriverDemand) : Keeps c (takeDemand d c) := by
  have himage : Keeps c { c with lif := { c.lif with demand := d, lineLossTimer := some 0, lineLoss := false } } := keeps_lif id
  have hdirection (e : Car) (p : Prop) [Decidable p] : Calm e (if p then e else commandChanged d.direction e) :=
    .ite (.refl e) (commandChanged_calm ..)
  have hload (e : Car) (p : Prop) [Decidable p] : Calm e (if p then e else ssvCause e) := .ite (.refl e) (ssvCause_calm e)
  have hcopy (e : Car) (p : Prop) [Decidable p] : Calm e (if p then e else takeCopy e) := .ite (.refl e) (takeCopy_calm e)
  exact himage.trans ((hdirection ..).trans ((hload ..).trans ((hcopy ..).trans ((levelChange_calm ..).trans
    (causeChange_calm ..))))).keeps

theorem driverDemand_keeps (direction level release load : Nat) : Keeps c (driverDemand direction level release load c).2 := by
  unfold driverDemand
  split
  · exact .refl c
  · exact takeDemand_keeps ..

theorem lineLossExpiry_keeps : Keeps c (lineLossExpiry c) := by
  have hloss : Keeps c { c with lif := { c.lif with lineLossTimer := none, lineLoss := true } } := keeps_lif id
  exact .ite (hloss.trans ((takeCopy_calm _).trans ((levelChange_calm ..).trans (causeChange_calm ..))).keeps) (.refl c)

theorem grantRelease_calm (side : Side) (autoOpen waived : Bool) : Calm c (grantRelease side autoOpen waived c) := calm_dor ..

theorem judgeRelease_calm (side : Side) (autoOpen noPlatform : Bool) : Calm c (judgeRelease side autoOpen noPlatform c).2 := by
  unfold judgeRelease
  refine .of_snd_ite (.refl c) (.of_snd_ite (.refl c) (.of_snd_ite (.refl c) (.of_snd_ite (grantRelease_calm ..) ?_)))
  exact .of_snd_ite (readForExtent_calm c) (.of_snd_ite (readForExtent_calm c)
    ((readForExtent_calm c).trans (grantRelease_calm ..)))

theorem handRefusal_calm (addressing : Addressing) (side : Side) (r : Result) : Calm c (handRefusal addressing side r c) := by
  unfold handRefusal
  split
  · exact .refl c
  · exact occur_calm ..
  · exact .refl c

theorem doorRelease_calm (addressing : Addressing) (side : Nat) (autoOpen noPlatform : Bool) :
    Calm c (doorRelease addressing side autoOpen noPlatform c).2 := by
  unfold doorRelease
  split
  · exact .refl c
  · exact (judgeRelease_calm ..).trans (handRefusal_calm ..)

theorem doorClose_calm (side : Nat) : Calm c (doorClose side c).2 := by
  unfold doorClose
  split
  · exact .refl c
  · exact calm_dor ..

theorem masked_calm (mask : Nat) (f : Nat → SourceRecord → SourceRecord) : Calm c { c with evr := c.evr.masked mask f } :=
  calm_evr fun h => h.sublist (by simp [Evr.masked]) (.refl _)

theorem eventLevelSet_calm (source level route : Nat) : Calm c (eventLevelSet source level route c).2 := by
  unfold eventLevelSet
  split
  · exact .refl c
  · exact .of_snd_ite (.refl c) (calm_evr fun h => h.sublist (List.length_modify ..) (.refl _))

theorem noticePoll_calm (seq : Nat) : Calm c (noticePoll seq c) := by
  have hnotices : Calm c { c with evr := { c.evr with notices := c.evr.notices.drop 4 } } :=
    calm_evr fun h => h.sublist rfl (List.drop_sublist ..)
  have hfree : c.lif.Steady { c.lif with reservedReplies := 0, reservedBatch := 0 } := ⟨fun _ => ⟨rfl, rfl⟩, rfl, rfl, rfl⟩
  exact hnotices.trans (Lif.Steady.calm (hfree.trans (Lif.append_steady ..)))

/-- A NOTICE POLL leaves no place reserved. -/
theorem noticePoll_unreserved (seq : Nat) : Unreserved (noticePoll seq c).lif := (Lif.append_steady ..).places ⟨rfl, rfl⟩

/-! ## RESTART (R187) -/

theorem restartEvr_calm : Calm c (restartEvr c) :=
  calm_evr fun h => h.sublist (by simp) (List.nil_sublist _)

theorem restartSsv_calm : Calm c (restartSsv c) := by
  have hssv (r : Supervision) : RestrictionLaw { Ssv.reset with record := r } :=
    ⟨Nat.zero_le _, List.nodup_nil, List.Pairwise.nil, Nat.zero_le _, List.nodup_nil, nofun, nofun⟩
  have hstart (r : Supervision) : Calm c { c with
      ssv := { Ssv.reset with record := r }, brk := { c.brk with intervention := false } } :=
    (calm_ssv fun _ => hssv r).trans (calm_brk (TestLaw.congr rfl rfl rfl))
  exact (hstart _).trans ((levelChange_calm ..).trans ((levelChange_calm ..).trans ((levelChange_calm ..).trans
    ((levelChange_calm ..).trans ((causeChange_calm ..).trans (handOverflow_calm ..))))))

theorem restartOdo_calm : Calm c (restartOdo c) := by
  have hstart (o : Odo) : Calm c { c with odo := o, pst := { c.pst with table := [], coverage := none } } :=
    (calm_odo c o).trans (calm_pst fun h => h.sublist (List.nil_sublist _))
  exact (hstart _).trans ((levelChange_calm ..).trans (causeChange_calm ..))

theorem restartVrl_keeps : Keeps c (restartVrl c) := by
  have hstart (v : Vrl) (hreports : v.reports = []) (hrecent : v.recent = []) : Keeps c { c with vrl := v } :=
    keeps_vrl fun _ => by unfold RadioLaw; rw [hreports, hrecent]; simp
  exact (hstart _ (by rfl) (by rfl)).trans (setLink_calm ..).keeps

theorem restartDor_calm : Calm c (restartDor c) := calm_dor ..

theorem restartBrk_calm : Calm c (restartBrk c) := (causeEnd_calm c .radioStop).trans (addCause_calm ..)

theorem restartLif_keeps : Keeps c (restartLif c) := by
  have himage : Keeps c { c with lif := { c.lif with demand := { c.lif.demand with direction := .neutral, load := .full } } } :=
    keeps_lif id
  have hdirection (e : Car) (p : Prop) [Decidable p] : Calm e (if p then e else commandChanged .neutral e) :=
    .ite (.refl e) (commandChanged_calm ..)
  have hload (e : Car) (p : Prop) [Decidable p] : Calm e (if p then e else ssvCause e) := .ite (.refl e) (ssvCause_calm e)
  exact himage.trans ((hdirection ..).trans (hload ..)).keeps

theorem restartBlocks_keeps : Keeps c (restartBlocks c) :=
  (restartEvr_calm c).keeps.trans ((restartLif_keeps _).trans ((restartSsv_calm _).keeps.trans ((restartOdo_calm _).keeps.trans
    ((restartVrl_keeps _).trans ((restartDor_calm _).trans (restartBrk_calm _)).keeps))))

end Telegrams

/-! ## Telegram acceptance (R177, R188) -/

section Acceptance
variable (c : Car)

theorem reply_keeps {c : Car} {r : Result × Car} (h : Keeps c r.2) (via : Via) (kind : Nat) : Keeps c (reply via kind r) :=
  h.trans (answer_calm ..).keeps

theorem testReply_keeps {c : Car} {r : Result × Car} (h : Calm c r.2) (via : Via) (kind : Nat) :
    Keeps c (testReply via kind r) :=
  (h.trans ((settle_calm _).trans (answer_calm ..))).keeps

/-- A telegram handed to its block keeps the laws. TEST ON reaches the BRK outside fault stop alone (R188). -/
theorem deliver_keeps {c : Car} {t : Telegram} (hf : t = .testOn → c.brk.faultStop = false) (via : Via) :
    Keeps c (deliver via t c) := by
  cases t with
  | driverDemand direction level release load => exact reply_keeps (driverDemand_keeps ..) ..
  | positionSet position => exact reply_keeps (positionSet_calm ..).keeps ..
  | emergency => exact reply_keeps (addCause_calm ..).keeps ..
  | emergencyRelease mask => exact (emergencyRelease_calm ..).keeps.trans (answer_calm ..).keeps
  | doorRelease side autoOpen noPlatform => exact reply_keeps (doorRelease_calm ..).keeps ..
  | doorClose side => exact reply_keeps (doorClose_calm ..).keeps ..
  | testOn => exact testReply_keeps (testOn_calm (hf rfl)) ..
  | testOff => exact testReply_keeps (testOff_calm c) ..
  | select channel => exact testReply_keeps (selectChannel_calm ..) ..
  | deselect => exact testReply_keeps (deselect_calm c) ..
  | testRelease => exact testReply_keeps (testCommand_calm ..) ..
  | testApply => exact testReply_keeps (testCommand_calm ..) ..
  | segmentLoad body => exact reply_keeps (segmentArrival_calm ..).keeps ..
  | segmentRemove id => exact reply_keeps (segmentRemove_calm ..).keeps ..
  | pinWindowSet window valid value mask => exact reply_keeps (pinWindowSet_calm ..).keeps ..
  | restrictionAdd id low high speed appliesTo => exact reply_keeps (restrictionAdd_calm ..).keeps ..
  | restrictionCancel id => exact reply_keeps (restrictionCancel_calm ..).keeps ..
  | parameterSet id value => exact reply_keeps (parameterSet_keeps ..) ..
  | parameterRead id => exact (answer_calm ..).keeps
  | statusRead page => exact (answer_calm ..).keeps
  | faultRead => exact (faultRead_calm c).keeps.trans (answer_calm ..).keeps
  | faultRecordRead => exact (answer_calm ..).keeps
  | groupSet entry valid value mask => exact reply_keeps (groupSet_keeps ..) ..
  | restart => exact (answer_calm ..).keeps.trans (.ite (restartBlocks_keeps _) (.refl _))
  | eventEnableSet mask => exact reply_keeps (masked_calm ..).keeps ..
  | eventEnableClear mask => exact reply_keeps (masked_calm ..).keeps ..
  | eventLevelSet source level route => exact reply_keeps (eventLevelSet_calm ..).keeps ..
  | eventClear mask => exact reply_keeps (masked_calm ..).keeps ..
  | noticePoll => exact (noticePoll_calm ..).keeps
  | radioRelay kind number body => exact takeRelay_keeps ..
  | radioStatus link station => exact (takeRadioStatus_calm ..).keeps

/-- A telegram that is addressed to the car leaves no place reserved once its block has answered. RADIO RELAY and RADIO STATUS,
which get no answer, are not taken so (R178). -/
theorem deliver_unreserved {via : Via} {t : Telegram} (ha : via.addressing = .car) (ht : takenByCar (telegramKind t) = true) :
    Unreserved (deliver via t c).lif := by
  cases t with
  | restart =>
    unfold deliver
    dsimp only
    split
    · exact (restartBlocks_keeps _).places (answer_unreserved c _ _ _ ha)
    · exact answer_unreserved c _ _ _ ha
  | noticePoll => exact noticePoll_unreserved ..
  | radioRelay kind number body => cases ht
  | radioStatus link station => cases ht
  | _ => exact answer_unreserved _ _ _ _ ha

theorem reserve_frame {kind : Nat} {c d : Car} (h : reserve kind c = some d) : ∃ n m,
    d = { c with lif := { c.lif with reservedReplies := n, reservedBatch := m } } := by
  unfold reserve at h
  split at h
  · split at h
    · cases h; exact ⟨_, _, rfl⟩
    · cases h
  · split at h
    · cases h; exact ⟨_, _, rfl⟩
    · cases h

/-- Acceptance keeps the laws, and once it has ended no place stands reserved for its answer (R177). -/
theorem accept_keeps (via : Via) (kind : Nat) (t : Option Telegram) (ht : ∀ u, t = some u → telegramKind u = kind) :
    Keeps c (accept via kind t c) := by
  have hcar (n m : Nat) (e : Car) (he : Keeps { c with lif := { c.lif with reservedReplies := n, reservedBatch := m } } e)
      (hu : Unreserved e.lif) : Keeps c e :=
    ⟨he.test, he.events, he.restrictions, he.radio, he.store, fun _ => hu, he.reset⟩
  have hon (d : Car) (u : Telegram) (hu : telegramKind u = kind) (hshut : shutOut kind d = false) :
      u = .testOn → d.brk.faultStop = false := by
    rintro rfl
    rw [← hu] at hshut
    simpa [shutOut, telegramKind] using hshut
  unfold accept
  split
  · exact .refl c
  · split
    case h_1 ha =>
      cases hreserve : reserve kind c with
      | none => exact (occur_calm ..).keeps
      | some d =>
        obtain ⟨n, m, rfl⟩ := reserve_frame hreserve
        have hanswer (result : Result) (parts : List ReplyData) := hcar n m _ (answer_calm _ via kind result parts).keeps
          (answer_unreserved _ kind result parts ha)
        dsimp only
        split
        · exact hanswer ..
        · rename_i hshut
          unfold acceptCar
          split
          · exact hanswer ..
          · split
            · exact hanswer ..
            · rename_i htaken
              cases t with
              | none => exact hanswer ..
              | some u =>
                have hu := ht u rfl
                exact hcar n m _ (deliver_keeps (hon _ u hu (by simpa using hshut)) via)
                  (deliver_unreserved _ ha (by rw [hu]; simpa using htaken))
    case h_2 =>
      split
      · exact .refl c
      · rename_i hfault
        unfold acceptTrain
        split
        · exact deliver_keeps (fun _ => by simpa using hfault) via
        · exact .refl c

theorem take_keeps (via : Via) (t : Telegram) : Keeps c (take via t c) :=
  accept_keeps c via _ _ fun _ h => by cases h; rfl

/-- A payload read as a telegram of a kind is one of that kind (R179). -/
theorem telegramKind_of_parse {kind : Nat} {p : List Byte} {t : Telegram} (h : parseTelegram kind p = some t) :
    telegramKind t = kind := by
  unfold parseTelegram at h
  split at h
  all_goals first
    | (obtain ⟨b, -, rfl⟩ := Option.map_eq_some_iff.1 h; rfl)
    | (split at h <;> first | (cases h; rfl) | (split at h <;> cases h; rfl) | cases h)
    | cases h

theorem frameEnd_keeps (p : Port) (closing : Closing) (rest : List Byte) : Keeps c (frameEnd p closing rest c) := by
  have hcopy (d : Car) (v : Verdict) (f : Car → Car) (hf : Keeps d (f d)) : Keeps d (copyEnd p v f d) := by
    cases v
    · exact hf
    · exact (occur_calm ..).keeps
    · exact .refl d
  unfold frameEnd
  split
  · exact .refl c
  · dsimp only
    refine (Lif.closeRelay_steady ..).calm.keeps.trans (.ite (hcopy _ _ _ (rollCall_keeps ..)) ?_)
    split
    · exact .refl _
    · exact hcopy _ _ _ (accept_keeps _ _ _ _ fun _ h => telegramKind_of_parse h)

end Acceptance
end Sys2Proof.Machine
end

section
/-! What every step keeps: the cases of a step, the laws of the outputs of a settled part, and O1, O3 and O6 to O12. -/

namespace Sys2Proof.Machine

/-! ## A part between commands obeys the laws of its outputs -/

section Settled
variable {c : Car}

theorem CogRecord.takeCommand_command (r : CogRecord) (holder : Holder) (cmd : BrakeCommand) :
    (r.takeCommand holder cmd).command = cmd ∧ (r.takeCommand holder cmd).holder = holder := by
  have hsettle (q : CogRecord) : q.settleReading.command = q.command ∧ q.settleReading.holder = q.holder := by
    unfold CogRecord.settleReading
    split <;> exact ⟨rfl, rfl⟩
  unfold CogRecord.takeCommand
  dsimp only
  split
  · exact hsettle _
  · split
    · exact hsettle _
    · exact ⟨rfl, rfl⟩

theorem BrakesSettled.holder (h : BrakesSettled c) (ch : CogChannel) :
    ((c.brk.channels.get ch).holder, (c.brk.channels.get ch).command) = arbitrate c ch := by
  obtain ⟨hcommand, hholder⟩ := CogRecord.takeCommand_command (c.brk.channels.get ch) (arbitrate c ch).1 (arbitrate c ch).2
  rw [← h.channels ch, judgeChannel, CogRecord.drive_holder, CogRecord.drive_command, hcommand, hholder]

theorem arbitrate_of_stopped (h : c.brk.faultStop = true ∨ causesEmpty c.brk.causes = false) (ch : CogChannel) :
    (arbitrate c ch).2 = .apply := by
  unfold arbitrate
  rcases h with h | h
  · rw [if_pos h]
  · rw [h]
    split <;> rfl

theorem BrakesSettled.brakeLaw (h : BrakesSettled c) : BrakeLaw c := fun hstop => by
  have hcommand (ch : CogChannel) : (c.brk.channels.get ch).command = .apply := by
    rw [← arbitrate_of_stopped hstop ch, ← h.holder ch]
  exact ⟨hcommand .cbA, hcommand .cbB⟩

theorem tractionPermitted_iff (c : Car) (q : PerCog CogRecord) : tractionPermitted c q = true ↔
    c.brk.faultStop = false ∧ causesEmpty c.brk.causes = true ∧ c.brk.doorsProven = true ∧
    q.cbA.state = .released ∧ q.cbB.state = .released ∧ c.brk.intervention = false := by
  simp only [tractionPermitted, Bool.and_eq_true, Bool.not_eq_true', beq_iff_eq, and_assoc]

/-- The value a settled channel drives is the one that R100 names, and its readback has been compared with it. -/
theorem BrakesSettled.driven (h : BrakesSettled c) (ch : CogChannel) : ∃ r : CogRecord,
    c.brk.channels.get ch = r.drive (r.drives (c.brk.test.commandFor ch)) := ⟨_, (h.channels ch).symm⟩

theorem BrakesSettled.releaseLaw (h : BrakesSettled c) : ReleaseLaw c := fun ch => by
  obtain ⟨r, hr⟩ := h.driven ch
  rw [hr, CogRecord.drive_energised, CogRecord.drive_state, CogRecord.drive_command, CogRecord.drives]
  by_cases hf : r.state = .fault <;> simp [hf]

theorem BrakesSettled.readbackLaw (h : BrakesSettled c) : ReadbackLaw c := fun ch => by
  obtain ⟨r, hr⟩ := h.driven ch
  obtain ⟨htimer, hreported⟩ := CogRecord.drive_readback r (r.drives (c.brk.test.commandFor ch))
  rw [hr, CogRecord.drive_energised, CogRecord.drive_readsBack, htimer, hreported]
  by_cases hb : r.readsBack = r.drives (c.brk.test.commandFor ch) <;> simp [hb]

theorem DoorsSettled.doorLaw (h : DoorsSettled c) : DoorLaw c := by
  have hproven : c.dor.proven = c.dor.allSafe := (congrArg Dor.proven h.judged).symm
  have hhold : c.dor.hold = (c.dor.anyGranted || !c.dor.allSafe) := (congrArg Dor.hold h.judged).symm
  have hcondition : c.dor.condition = (!c.dor.allSafe && decide (25 < c.odo.fused)) := (congrArg Dor.condition h.judged).symm
  refine ⟨hproven, h.handedProven.trans hproven, h.handedHold.trans hhold, fun hunsafe hfast => ?_⟩
  obtain ⟨r, hr, -⟩ := h.cause (by rw [hcondition, hunsafe]; simpa using hfast)
  rw [hr]
  rfl

/-- A part out of reset whose outputs are decided from its state obeys their laws (R100 to R108, R147, R148). -/
theorem outputLaws_of_settled (hreset : c.inReset = false) (h : settle c = c) : OutputLaws c := by
  obtain ⟨hd, hb⟩ := (settle_eq_self_iff c).1 h
  unfold OutputLaws
  rw [hreset]
  exact ⟨hb.svcValid, hb.brakeLaw, ⟨hb.holder, hb.available, hb.holdPending⟩, hb.svcLevel,
    by rw [TractionLaw, hb.tractionOk, tractionPermitted_iff], hb.releaseLaw, hb.readbackLaw, hd.doorLaw⟩

end Settled

/-! ## The tick -/

/-- The timers of the doors one tick on. -/
def Dor.tick (d : Dor) : Dor :=
  { d with
    leaves := d.leaves.map LeafRecord.tick
    sides := d.sides.map SideRecord.tick
    exchange := d.exchange.map Exchange.tick
    pollTimer := Timer.tick Limit.poll d.pollTimer }

/-- The timers of the brakes one tick on. -/
def Brk.tick (b : Brk) : Brk :=
  { b with
    channels := b.channels.map CogRecord.tick
    test := b.test.tick
    watch := Timer.tick Limit.watch b.watch
    broadcastTimer := Timer.tick Limit.broadcast b.broadcastTimer }

@[simp] theorem PerCog.get_map {α β : Type} (f : α → β) (q : PerCog α) (ch : CogChannel) : (q.map f).get ch = f (q.get ch) := by
  cases ch <;> rfl
@[simp] theorem PerLeaf.get_map {α β : Type} (f : α → β) (q : PerLeaf α) (leaf : Leaf) : (q.map f).get leaf = f (q.get leaf) := by
  cases leaf <;> rfl
@[simp] theorem PerSide.get_map {α β : Type} (f : α → β) (q : PerSide α) (side : Side) : (q.map f).get side = f (q.get side) := by
  cases side <;> rfl
@[simp] theorem PerPort.get_map {α β : Type} (f : α → β) (q : PerPort α) (p : Port) : (q.map f).get p = f (q.get p) := by
  cases p <;> rfl
@[simp] theorem PerLoop.get_map {α β : Type} (f : α → β) (q : PerLoop α) (ch : LoopChannel) : (q.map f).get ch = f (q.get ch) := by
  cases ch <;> rfl

section Tick
variable {c : Car}

theorem Car.tick_of_inReset (h : c.inReset = true) : c.tick = c := if_pos h

theorem Car.tick_eq (h : c.inReset = false) : c.tick = { c with
    now := (c.now + 1) % 4294967296
    lif := { c.lif with lineLossTimer := Timer.tick Limit.lineLoss c.lif.lineLossTimer }
    tlf := c.tlf.map fun r => { r with settle := Timer.tick Limit.settling r.settle }
    odo := { c.odo with updateTimer := Timer.tick Limit.update c.odo.updateTimer }
    brk := c.brk.tick
    dor := c.dor.tick
    vrl := c.vrl.tick } := if_neg (by simp [h])

theorem BrakeTest.tick_off_iff (t : BrakeTest) : t.tick = .off ↔ t = .off := by
  cases t <;> simp [BrakeTest.tick]

theorem BrakeTest.tick_commandFor (t : BrakeTest) (ch : CogChannel) : t.tick.commandFor ch = t.commandFor ch := by
  cases t <;> rfl

theorem BrakeTest.tick_isSelected (t : BrakeTest) : t.tick.isSelected = t.isSelected := by cases t <;> rfl

theorem tick_keeps (c : Car) : Keeps c c.tick := by
  by_cases h : c.inReset = true
  · rw [Car.tick_of_inReset h]
    exact .refl c
  · rw [Car.tick_eq (by simpa using h)]
    refine ⟨fun ht hstop => ?_, id, id, id, id, id, rfl⟩
    exact (BrakeTest.tick_off_iff _).2 (ht hstop)

theorem Dor.tick_openBlocks (d : Dor) : d.tick.openBlocks = d.openBlocks := by
  have hblock : d.tick.inBlock = d.inBlock := by
    funext leaf
    have hrunning : d.tick.running leaf (· == .close) = d.running leaf (· == .close) := by
      simp only [Dor.running, Dor.tick]
      cases d.exchange <;> rfl
    simp only [Dor.inBlock, hrunning]
    simp only [Dor.tick, PerLeaf.get_map]
    rfl
  rw [Dor.openBlocks, hblock]
  rfl

theorem Dor.tick_allSafe (d : Dor) : d.tick.allSafe = d.allSafe := rfl

theorem Dor.tick_anyGranted (d : Dor) : d.tick.anyGranted = d.anyGranted := rfl

theorem Dor.tick_chimed (d : Dor) (side : Side) : d.tick.chimed side = d.chimed side := by
  have hrunning (leaf : Leaf) : d.tick.running leaf (· == .chime) = d.running leaf (· == .chime) := by
    simp only [Dor.running, Dor.tick]
    cases d.exchange <;> rfl
  simp only [Dor.chimed, Dor.waitingOrRunning, hrunning]
  simp only [Dor.tick, PerLeaf.get_map]
  rfl

/-- A side that has nothing to pass on has nothing to pass on after a tick. -/
theorem Dor.tick_passed {d : Dor} {side : Side} (h : d.passed side = d.sides.get side) :
    d.tick.passed side = (d.sides.get side).tick := by
  have hget : d.tick.sides.get side = (d.sides.get side).tick := PerSide.get_map ..
  have hstays : ¬ ((d.sides.get side).step = .chiming ∧ d.chimed side = true) := by
    intro hpass
    simp only [Dor.passed] at h
    rw [if_pos hpass] at h
    have hstep := congrArg SideRecord.step h
    rw [hpass.1] at hstep
    cases hstep
  simp only [Dor.passed]
  rw [hget, Dor.tick_chimed]
  exact if_neg hstays

theorem Dor.tick_judge {d : Dor} {fused : Nat} (h : d.judge fused = d) : d.tick.judge fused = d.tick := by
  have hpassed (side : Side) : d.tick.passed side = (d.sides.get side).tick := by
    have hjudged : (d.judge fused).sides.get side = d.passed side := by cases side <;> rfl
    exact Dor.tick_passed (by rw [← hjudged, h])
  have hblocks : d.tick.openBlocks = d.blocks := by rw [Dor.tick_openBlocks]; exact congrArg Dor.blocks h
  have hproven : d.allSafe = d.proven := congrArg Dor.proven h
  have hhold : (d.anyGranted || !d.allSafe) = d.hold := congrArg Dor.hold h
  have hcondition : (!d.allSafe && decide (25 < fused)) = d.condition := congrArg Dor.condition h
  rw [Dor.judge, hblocks, hpassed, hpassed, Dor.tick_allSafe, Dor.tick_anyGranted, hhold, hcondition, hproven]
  rfl

/-- A command that leaves the state of a channel finds it there or on its way there (R96). -/
theorem CogRecord.takeCommand_stays {r : CogRecord} {holder : Holder} {cmd : BrakeCommand}
    (h : (r.takeCommand holder cmd).state = r.state) :
    ¬ (cmd = .release ∧ (r.state = .applied ∨ r.state = .applying)) ∧
    ¬ (cmd = .apply ∧ (r.state = .released ∨ r.state = .releasing)) := by
  obtain ⟨state, command, _, en, reading, tr, de, pin, rb, rep, reason⟩ := r
  cases cmd <;> cases state <;> cases reading <;> simp_all [CogRecord.takeCommand, CogRecord.settleReading]

/-- A channel that takes its command and drives its output without a change takes the command without one, and does so after a
tick. -/
theorem CogRecord.takeCommand_of_judged {r : CogRecord} {holder : Holder} {cmd : BrakeCommand} {value : Bool}
    (h : (r.takeCommand holder cmd).drive value = r) :
    r.takeCommand holder cmd = r ∧ r.tick.takeCommand holder cmd = r.tick := by
  obtain ⟨hcommand, hholder⟩ := CogRecord.takeCommand_command r holder cmd
  rw [← CogRecord.drive_command _ value, h] at hcommand
  rw [← CogRecord.drive_holder _ value, h] at hholder
  obtain ⟨hrelease, happly⟩ := CogRecord.takeCommand_stays (r := r) (holder := holder) (cmd := cmd)
    (by rw [← CogRecord.drive_state _ value, h])
  subst hcommand hholder
  exact ⟨(if_neg hrelease).trans (if_neg happly), (if_neg hrelease).trans (if_neg happly)⟩

theorem CogRecord.tick_drive {r : CogRecord} {value : Bool} (h : r.drive value = r) : r.tick.drive value = r.tick := by
  by_cases hb : r.readsBack = value
  · have hr : { r with energised := value, readback := none, reported := false } = r := (if_pos hb).symm.trans h
    calc r.tick.drive value
        = CogRecord.tick { r with energised := value, readback := none, reported := false } := if_pos hb
      _ = r.tick := by rw [hr]
  · have hr : { r with energised := value, readback := some (r.readback.getD 0) } = r := (if_neg hb).symm.trans h
    have hvalue : r.tick.energised = value := (congrArg CogRecord.energised hr).symm
    have htimer : some (r.tick.readback.getD 0) = r.tick.readback := by
      obtain ⟨n, hn⟩ : ∃ n, r.readback = some n := ⟨_, (congrArg CogRecord.readback hr).symm⟩
      simp [CogRecord.tick, hn, Timer.tick]
    calc r.tick.drive value
        = { r.tick with energised := value, readback := some (r.tick.readback.getD 0) } := if_neg hb
      _ = r.tick := by rw [htimer, ← hvalue]

theorem tick_holdPlaced (c : Car) (h : c.inReset = false) : holdPlaced c.tick = holdPlaced c := by
  rw [Car.tick_eq h]
  rfl

theorem tick_arbitrate (h : c.inReset = false) (ch : CogChannel) : arbitrate c.tick ch = arbitrate c ch := by
  have hrelease : releasePresent c.tick.brk ch = releasePresent c.brk ch := by
    have hoff : (c.brk.test.tick == .off) = (c.brk.test == .off) := by
      rw [Bool.eq_iff_iff, beq_iff_eq, beq_iff_eq, BrakeTest.tick_off_iff]
    rw [Car.tick_eq h]
    simp only [releasePresent, Brk.tick, hoff, PerCog.get_map]
    rfl
  simp only [arbitrate, tick_holdPlaced c h, hrelease]
  rw [Car.tick_eq h]
  simp only [Brk.tick, BrakeTest.tick_commandFor]

theorem tick_settled (h : c.inReset = false) (hs : settle c = c) : settle c.tick = c.tick := by
  obtain ⟨hd, hb⟩ := (settle_eq_self_iff c).1 hs
  refine settle_eq_self_of ?doors ?brakes
  case doors =>
    obtain ⟨hjudged, hproven, hhold, hcondition, hcause⟩ := hd
    rw [Car.tick_eq h]
    exact ⟨Dor.tick_judge hjudged, hproven, hhold, hcondition, hcause⟩
  case brakes =>
    refine ⟨fun ch => ?_, ?_, ?_, ?_, ?_, ?_⟩
    · have hch := hb.channels ch
      have hget : c.tick.brk.channels.get ch = (c.brk.channels.get ch).tick := by
        rw [Car.tick_eq h]
        exact PerCog.get_map ..
      have htest : c.tick.brk.test.commandFor ch = c.brk.test.commandFor ch := by
        rw [Car.tick_eq h]
        exact BrakeTest.tick_commandFor ..
      simp only [judgeChannel] at hch ⊢
      obtain ⟨htake, htick⟩ := CogRecord.takeCommand_of_judged hch
      rw [htake] at hch
      rw [tick_arbitrate h, hget, htest, htick]
      exact CogRecord.tick_drive hch
    · rw [tick_holdPlaced c h, Car.tick_eq h]
      show c.brk.holdPending = (c.brk.test.tick.isSelected && _)
      rw [BrakeTest.tick_isSelected, hb.holdPending]
    · rw [Car.tick_eq h]
      exact hb.available
    · rw [Car.tick_eq h]
      exact hb.svcValid
    · rw [Car.tick_eq h]
      exact hb.svcLevel
    · rw [Car.tick_eq h]
      exact hb.tractionOk

/-- The laws of the outputs hold after a tick of a part on which they hold. -/
theorem tick_outputLaws (h : OutputLaws c) : OutputLaws c.tick := by
  by_cases hreset : c.inReset = true
  · rwa [Car.tick_of_inReset hreset]
  · have hreset : c.inReset = false := by simpa using hreset
    unfold OutputLaws at h ⊢
    have hch (ch : CogChannel) : c.tick.brk.channels.get ch = (c.brk.channels.get ch).tick := by
      rw [Car.tick_eq hreset]
      exact PerCog.get_map ..
    have hcommand (ch : CogChannel) : c.tick.brk.test.commandFor ch = c.brk.test.commandFor ch := by
      rw [Car.tick_eq hreset]
      exact BrakeTest.tick_commandFor ..
    have hstill : c.tick.inReset = false := by rw [Car.tick_eq hreset, hreset]
    rw [hreset] at h
    rw [hstill]
    obtain ⟨hvalid, hbrake, ⟨hholder, havailable, hpending⟩, hservice, htraction, hrelease, hreadback, hdoor⟩ := h
    have htestSelected := BrakeTest.tick_isSelected c.brk.test
    refine ⟨?_, ?_, ⟨fun ch => ?_, ?_, ?_⟩, ?_, ?_, fun ch => ?_, fun ch => ?_, ?_⟩
    · rw [Car.tick_eq hreset]
      exact hvalid
    · rw [Car.tick_eq hreset]
      exact hbrake
    · rw [hch, tick_arbitrate hreset]
      exact hholder ch
    · rw [Car.tick_eq hreset]
      exact havailable
    · rw [Car.tick_eq hreset]
      show c.brk.holdPending = (c.brk.test.tick.isSelected && _)
      rw [htestSelected]
      exact hpending
    · rw [Car.tick_eq hreset]
      exact hservice
    · rw [Car.tick_eq hreset]
      exact htraction
    · rw [hch, hcommand]
      exact hrelease ch
    · obtain ⟨hiff, hreported⟩ := hreadback ch
      rw [hch]
      exact ⟨Option.map_eq_none_iff.trans hiff, fun hr hn => hreported hr (Option.map_eq_none_iff.1 hn)⟩
    · rw [Car.tick_eq hreset]
      exact hdoor

end Tick

/-! ## The cases of a step -/

/-- A pin read while RESETn is held low changes its reading: the laws are kept and the outputs stay as they are. -/
structure PinRead (c d : Car) : Prop extends Keeps c d where
  svcValid : d.brk.svcValid = c.brk.svcValid
  tractionOk : d.brk.tractionOk = c.brk.tractionOk
  energised : ∀ ch, (d.brk.channels.get ch).energised = (c.brk.channels.get ch).energised

theorem PinRead.refl (c : Car) : PinRead c c := ⟨.refl c, rfl, rfl, fun _ => rfl⟩

/-- A channel whose record is replaced by one that drives the same leaves every output as it is. -/
theorem energised_set {q : PerCog CogRecord} {ch : CogChannel} {r : CogRecord} (h : r.energised = (q.get ch).energised)
    (k : CogChannel) : ((q.set ch r).get k).energised = (q.get k).energised := by
  cases ch <;> cases k <;> first | rfl | exact h

theorem feedbackHeld_pinRead (ch : CogChannel) (applied released : Bool) (c : Car) :
    PinRead c (feedbackHeld ch applied released c) :=
  ⟨Calm.keeps (calm_brk (by exact TestLaw.congr rfl rfl rfl)), rfl, rfl, energised_set rfl⟩

theorem readbackChange_pinRead (ch : CogChannel) (energised : Bool) (c : Car) : PinRead c (readbackChange ch energised c) :=
  ⟨(readbackChange_calm ..).keeps, rfl, rfl, energised_set rfl⟩

theorem contactHeld_pinRead (leaf : Leaf) (closed : Bool) (c : Car) : PinRead c (contactHeld leaf closed c) :=
  ⟨(calm_dor ..).keeps, rfl, rfl, fun _ => rfl⟩

theorem Selection.takeReading_frame (s : Selection) (reading : Reading) (b : Brk) :
    (s.takeReading reading b).faultStop = b.faultStop ∧ (s.takeReading reading b).causes = b.causes := by
  unfold Selection.takeReading
  dsimp only
  split
  · split <;> exact ⟨rfl, rfl⟩
  · split
    · split <;> exact ⟨rfl, rfl⟩
    · exact ⟨rfl, rfl⟩

theorem feedbackChange_calm (ch : CogChannel) (applied released : Bool) (c : Car) :
    Calm c (feedbackChange ch applied released c) := by
  have hreading (q : PerCog CogRecord) : Calm c { c with brk := { c.brk with channels := q } } :=
    calm_brk (TestLaw.congr rfl rfl rfl)
  unfold feedbackChange
  dsimp only
  refine .ite (.refl c) ?_
  split
  · rename_i s hs
    refine .ite ((hreading _).trans ((calm_brk fun hb => ?_).trans (completeIfPending_calm ..))) (hreading _)
    exact hb.of_on (by rw [hs]; exact nofun) (Selection.takeReading_frame ..).1 (Selection.takeReading_frame ..).2
  · exact hreading _

theorem contactChange_calm (leaf : Leaf) (closed : Bool) (c : Car) : Calm c (contactChange leaf closed c) :=
  .ite (.refl c) (calm_dor ..)

/-- A command other than a reset: the effect it has on a part out of reset keeps the laws, and under reset it reads its pin. -/
def RunsAs (i : Instr) (held f : Car → Car) : Prop :=
  (∀ s, exec i s = .next (s.runPin held f)) ∧ (∀ c, PinRead c (held c)) ∧ ∀ c, Keeps c (f c)

theorem runs_of {i : Instr} {f : Car → Car} (h : ∀ s, exec i s = .next (s.run f)) (hf : ∀ c, Keeps c (f c)) :
    ∃ held f, RunsAs i held f := ⟨id, f, h, .refl, hf⟩

/-- Every command but the three resets runs as its effect, which keeps the laws. -/
theorem exec_runs {i : Instr} (hpower : ∀ strap, i ≠ .powerOnReset strap) (hassert : i ≠ .resetnAssert)
    (hline : ∀ strap, i ≠ .resetLineReset strap) : ∃ held f, RunsAs i held f := by
  cases hi : i.telegram with
  | some v =>
    obtain ⟨via, t⟩ := v
    exact runs_of (exec_of_telegram hi) fun c => take_keeps c via t
  | none =>
    cases i with
    | powerOnReset strap => exact absurd rfl (hpower strap)
    | resetnAssert => exact absurd rfl hassert
    | resetLineReset strap => exact absurd rfl (hline strap)
    | rollCall => exact runs_of (fun _ => rfl) fun _ => rollCall_keeps ..
    | lineFrameHeader => exact runs_of (fun _ => rfl) fun _ => (frameHeader_calm ..).keeps
    | lineFrameEnd => exact runs_of (fun _ => rfl) fun _ => frameEnd_keeps ..
    | lineTransmitDone => exact runs_of (fun _ => rfl) fun _ => (Lif.Steady.calm (Lif.transmitDone_steady ..)).keeps
    | lineLossTimerExpiry => exact runs_of (fun _ => rfl) lineLossExpiry_keeps
    | highLevelRise => exact runs_of (fun _ => rfl) fun _ => (levelRise_calm ..).keeps
    | highLevelEnd => exact runs_of (fun _ => rfl) fun _ => (levelEnd_calm ..).keeps
    | dataWordComplete => exact runs_of (fun _ => rfl) fun _ => (wordComplete_calm ..).keeps
    | shortDetected => exact runs_of (fun _ => rfl) fun _ => (shortDetected_calm ..).keeps
    | openDetected => exact runs_of (fun _ => rfl) fun _ => (openDetected_calm ..).keeps
    | settlingEnd => exact runs_of (fun _ => rfl) fun _ => (settlingEnd_calm ..).keeps
    | odometryUpdate => exact runs_of (fun _ => rfl) fun c => (odometryUpdate_calm c).keeps
    | markerRead => exact runs_of (fun _ => rfl) fun _ => (markerRead_calm ..).keeps
    | evaluationStart => exact runs_of (fun _ => rfl) fun c => (evaluationStart_calm c).keeps
    | evaluationEnd => exact runs_of (fun _ => rfl) fun _ => (evaluationEnd_calm ..).keeps
    | cbFeedbackChange => exact ⟨_, _, fun _ => rfl, feedbackHeld_pinRead _ _ _, fun _ => (feedbackChange_calm ..).keeps⟩
    | transitTimeout => exact runs_of (fun _ => rfl) fun _ => (transitExpiry_calm ..).keeps
    | departureTimeout => exact runs_of (fun _ => rfl) fun _ => (departureExpiry_calm ..).keeps
    | readbackChange => exact ⟨_, _, fun _ => rfl, readbackChange_pinRead _ _, fun _ => (readbackChange_calm ..).keeps⟩
    | readbackTimeout => exact runs_of (fun _ => rfl) fun _ => (readbackExpiry_calm ..).keeps
    | testTimerExpiry => exact runs_of (fun _ => rfl) fun c => (testTimerExpiry_calm c).keeps
    | timebaseWatchExpiry => exact runs_of (fun _ => rfl) fun c => (timebaseExpiry_calm c).keeps
    | faultStopBroadcastTimer => exact runs_of (fun _ => rfl) fun c => (broadcastExpiry_calm c).keeps
    | doorExchangeStart => exact runs_of (fun _ => rfl) fun _ => (calm_dor ..).keeps
    | doorBusReply => exact runs_of (fun _ => rfl) fun _ => (busReply_calm ..).keeps
    | doorReplyTimeout => exact runs_of (fun _ => rfl) fun c => (replyTimeout_calm c).keeps
    | pollTimerExpiry => exact runs_of (fun _ => rfl) fun _ => (calm_dor ..).keeps
    | isolationContactChange => exact ⟨_, _, fun _ => rfl, contactHeld_pinRead _ _, fun _ => (contactChange_calm ..).keeps⟩
    | motionTimeout => exact runs_of (fun _ => rfl) fun _ => (motionExpiry_calm ..).keeps
    | reopenPauseEnd => exact runs_of (fun _ => rfl) fun _ => (calm_dor ..).keeps
    | warningTimerEnd => exact runs_of (fun _ => rfl) fun _ => (calm_dor ..).keeps
    | radioFrameReceived => exact runs_of (fun _ => rfl) fun _ => radioReceived_keeps ..
    | sendConfirmation => exact runs_of (fun _ => rfl) fun _ => (sendConfirmed_calm ..).keeps
    | modemTimeout => exact runs_of (fun _ => rfl) fun c => (modemTimeout_calm c).keeps
    | supervisionTimerExpiry => exact runs_of (fun _ => rfl) fun c => (supervisionExpiry_calm c).keeps
    | shadowTimerExpiry => exact runs_of (fun _ => rfl) fun c => (shadowExpiry_calm c).keeps
    | followerTimerExpiry => exact runs_of (fun _ => rfl) fun c => (followerExpiry_calm c).keeps
    | statusTimerExpiry => exact runs_of (fun _ => rfl) fun c => (statusExpiry_calm c).keeps
    | reportTimerExpiry => exact runs_of (fun _ => rfl) fun c => (reportExpiry_calm c).keeps
    | _ => cases hi

/-- What a step does to the part; `asserted` says that it drives RESETn low. -/
inductive CarStep (asserted : Prop) (c : Car) : Car → Prop
  | tick : CarStep asserted c c.tick
  | reset (strap : Bool) (record : Option FaultRecord) : CarStep asserted c (hardwareReset strap record c)
  | resetHeld (strap : Bool) : c.inReset = true → CarStep asserted c (assertReset (hardwareReset strap none c))
  | asserts : asserted → CarStep asserted c (assertReset c)
  | held (d : Car) : c.inReset = true → PinRead c d → CarStep asserted c d
  | command (d : Car) : c.inReset = false → Keeps c d → CarStep asserted c (settle d)

theorem step_car {s t : State} (h : step s = .next t) : CarStep (s.pending.head? = some .resetnAssert) s.car t.car := by
  unfold step at h
  cases hp : s.pending with
  | nil =>
    rw [hp] at h
    cases h
    exact .tick
  | cons i rest =>
    rw [hp] at h
    dsimp only at h
    by_cases hpower : ∃ strap, i = .powerOnReset strap
    · obtain ⟨strap, rfl⟩ := hpower
      cases h
      dsimp only
      split
      · rename_i hheld
        exact .resetHeld strap hheld
      · exact .reset strap none
    · by_cases hassert : i = .resetnAssert
      · subst hassert
        cases h
        exact .asserts rfl
      · by_cases hline : ∃ strap, i = .resetLineReset strap
        · obtain ⟨strap, rfl⟩ := hline
          cases h
          exact .reset strap _
        · obtain ⟨held, f, hrun, hheld, hf⟩ := exec_runs (i := i) (fun strap hi => hpower ⟨strap, hi⟩) hassert
            fun strap hi => hline ⟨strap, hi⟩
          rw [hrun] at h
          cases h
          simp only [State.runPin]
          split
          · rename_i hreset
            exact .held _ hreset (hheld _)
          · rename_i hreset
            exact .command _ (by simpa using hreset) (hf _)

/-! ## What a hardware reset leaves (R81, R117, R131, R150, R169, R190, R195) -/

section Fresh
variable (readings : PerCog Reading) (readbacks : PerCog Bool) (contacts : PerLeaf Bool) (closings : PerPort (Option Closing))
  (strap : Bool) (record : Option FaultRecord)

/-- With every leaf as its contact leaves it, the doors are proven exactly when each is isolated (R147, R150). -/
theorem Dor.reset_allSafe : (Dor.reset contacts).allSafe = provenAtReset contacts := by
  have hunsafe (closed : Bool) : (LeafRecord.reset closed).unsafeLeaf = !closed := by cases closed <;> rfl
  simp only [Dor.allSafe, Dor.reset, Leaf.list, List.all_cons, List.all_nil, PerLeaf.get, hunsafe, Bool.not_not, Bool.and_true,
    provenAtReset, Bool.and_assoc]

theorem CogRecord.reset_judged (reading : Reading) (readsBack : Bool) :
    ((CogRecord.reset reading readsBack).takeCommand .emergency .apply).drive
      (((CogRecord.reset reading readsBack).takeCommand .emergency .apply).drives none) = CogRecord.reset reading readsBack := by
  cases reading <;> cases readsBack <;> rfl

/-- The part that a hardware reset gives has its outputs decided from its state. -/
theorem settle_reset : settle (Car.reset readings readbacks contacts closings strap record) =
    Car.reset readings readbacks contacts closings strap record := by
  refine settle_eq_self_of ⟨?_, rfl, rfl, nofun, nofun⟩ ⟨fun ch => ?_, rfl, ?_, rfl, ?_, rfl⟩
  · show (Dor.reset contacts).judge 0 = Dor.reset contacts
    rw [Dor.judge, Dor.reset_allSafe]
    simp only [Nat.not_lt_zero, decide_false, Bool.and_false]
    rfl
  · have hjudge (reading : Reading) (readsBack : Bool)
        (hget : (Brk.reset readings readbacks (provenAtReset contacts) record).channels.get ch = .reset reading readsBack) :
        judgeChannel (Car.reset readings readbacks contacts closings strap record) ch =
          (Brk.reset readings readbacks (provenAtReset contacts) record).channels.get ch := by
      rw [judgeChannel, show arbitrate (Car.reset readings readbacks contacts closings strap record) ch = (.emergency, .apply)
        from rfl]
      exact (congrArg (fun r : CogRecord => (r.takeCommand .emergency .apply).drive
        ((r.takeCommand .emergency .apply).drives none)) hget).trans ((CogRecord.reset_judged ..).trans hget.symm)
    cases ch <;> exact hjudge _ _ rfl
  · have hstate (reading : Reading) (readsBack : Bool) : (CogRecord.reset reading readsBack).state ≠ .fault := by
      cases reading <;> exact nofun
    show 2 = availableCount ⟨_, _⟩
    rw [availableCount, if_neg (hstate _ _), if_neg (hstate _ _)]
  · show 7 = serviceLevel _
    cases h : provenAtReset contacts <;> simp [serviceLevel, Car.reset, Brk.reset, h] <;> decide

/-- It keeps every law, and no place of its originate queue is reserved. -/
theorem reset_laws : TestLaw (Brk.reset readings readbacks (provenAtReset contacts) record) ∧ EvrLaw Evr.reset ∧
    RestrictionLaw Ssv.reset ∧ RadioLaw (Vrl.reset strap) ∧ StoreLaw Pst.reset ∧ Unreserved (Lif.reset closings) :=
  ⟨.of_off rfl, ⟨rfl, Nat.zero_le _, List.Pairwise.nil, List.nodup_nil⟩,
    ⟨Nat.zero_le _, List.nodup_nil, List.Pairwise.nil, Nat.zero_le _, List.nodup_nil, nofun, nofun⟩,
    ⟨Nat.zero_le _, Nat.zero_le _, List.nodup_nil, fun _ => rfl⟩,
    ⟨Nat.zero_le _, List.Pairwise.nil, List.nodup_nil, List.nodup_nil, Nat.zero_le _, nofun, rfl⟩, ⟨rfl, rfl⟩⟩

end Fresh

section Reset
variable (strap : Bool) (record : Option FaultRecord) (c : Car)

theorem hardwareReset_eq : hardwareReset strap record c = Car.reset (c.brk.channels.map CogRecord.reading)
    (c.brk.channels.map CogRecord.readsBack) (c.dor.leaves.map LeafRecord.contactClosed) (c.lif.ports.map PortState.cut)
    strap record := settle_reset ..

theorem hardwareReset_laws : TestLaw (hardwareReset strap record c).brk ∧ EvrLaw (hardwareReset strap record c).evr ∧
    RestrictionLaw (hardwareReset strap record c).ssv ∧ RadioLaw (hardwareReset strap record c).vrl ∧
    StoreLaw (hardwareReset strap record c).pst ∧ Unreserved (hardwareReset strap record c).lif := by
  rw [hardwareReset_eq]
  exact reset_laws ..

theorem hardwareReset_inReset : (hardwareReset strap record c).inReset = false := by rw [hardwareReset_eq]; rfl

theorem hardwareReset_settled : settle (hardwareReset strap record c) = hardwareReset strap record c := settle_settle _

theorem assertReset_outputLaws : OutputLaws (assertReset c) := by
  rw [OutputLaws, assertReset]
  exact ⟨rfl, rfl, fun ch => by rw [PerCog.get_map]⟩

end Reset

/-- Settles O1. -/
theorem stepRunsFrontCommand : Obligations.StepRunsFrontCommand := fun i rest s h => by simp only [step, h]

/-- Settles O3: the reset state is settled, so that it is ready and keeps the laws of the outputs, and its lists are empty. -/
theorem resetKeepsTheLaws : Obligations.ResetKeepsTheLaws := by
  have hsettled : settle State.reset.car = State.reset.car := settle_reset ..
  obtain ⟨htest, hevents, hrestrictions, hradio, hstore, hfree⟩ :=
    reset_laws (.all .applied) (.all false) (.all false) (.all none) false none
  exact ⟨⟨rfl, hsettled, hfree⟩, outputLaws_of_settled rfl hsettled, htest, hevents.2, hrestrictions, hradio, hstore⟩

/-! ## The statements about every step -/

/-- A law of one block that every command keeps and every hardware reset gives holds after every step. -/
theorem CarStep.induct {asserted : Prop} {c d : Car} (h : CarStep asserted c d) {P : Car → Prop} (hc : P c)
    (hkeeps : ∀ d, Keeps c d → P d) (hsettle : ∀ d, Keeps c d → P d → P (settle d))
    (hreset : ∀ strap record, P (hardwareReset strap record c)) (hasserts : ∀ d, P d → P (assertReset d)) : P d := by
  cases h with
  | tick => exact hkeeps _ (tick_keeps c)
  | reset strap record => exact hreset ..
  | resetHeld strap => exact hasserts _ (hreset ..)
  | asserts => exact hasserts c hc
  | held d _ hd => exact hkeeps d hd.toKeeps
  | command d _ hd => exact hsettle d hd (hkeeps d hd)

/-- Settles O6: a tick keeps a part settled, a command ends by settling it, and neither leaves a place reserved. -/
theorem everyStepKeepsReady : Obligations.EveryStepKeepsReady := by
  unfold Obligations.EveryStepKeepsReady
  intro s t ⟨hreset, hs, hplaces⟩ hne hstep
  have hcar := step_car hstep
  show t.car.inReset = false ∧ settle t.car = t.car ∧ Unreserved t.car.lif
  generalize t.car = d at hcar
  cases hcar with
  | tick => exact ⟨(tick_keeps _).reset.trans hreset, tick_settled hreset hs, (tick_keeps _).places hplaces⟩
  | reset strap record =>
    obtain ⟨-, -, -, -, -, hfree⟩ := hardwareReset_laws strap record s.car
    exact ⟨hardwareReset_inReset .., hardwareReset_settled .., hfree⟩
  | resetHeld strap hheld => rw [hreset] at hheld; cases hheld
  | asserts hassert => exact absurd hassert hne
  | held d hheld => rw [hreset] at hheld; cases hheld
  | command d _ hd =>
    have h := hd.trans (settle_calm d).keeps
    exact ⟨h.reset.trans hreset, settle_settle d, h.places hplaces⟩

/-- Settles O7: the laws hold of a settled part, a tick and a pin read under reset keep them, and RESETn low silences the outputs. -/
theorem everyStepKeepsTheOutputLaws : Obligations.EveryStepKeepsTheOutputLaws := by
  unfold Obligations.EveryStepKeepsTheOutputLaws
  intro s t hlaws hstep
  have hcar := step_car hstep
  generalize t.car = d at hcar
  cases hcar with
  | tick => exact tick_outputLaws hlaws
  | reset strap record =>
    exact outputLaws_of_settled (hardwareReset_inReset ..) (hardwareReset_settled ..)
  | resetHeld => exact assertReset_outputLaws _
  | asserts => exact assertReset_outputLaws _
  | held _ hheld hd =>
    rw [OutputLaws, hheld] at hlaws
    rw [OutputLaws, hd.reset, hheld]
    obtain ⟨hvalid, htraction, henergised⟩ := hlaws
    exact ⟨hd.svcValid.trans hvalid, hd.tractionOk.trans htraction, fun ch => (hd.energised ch).trans (henergised ch)⟩
  | command d hout hd =>
    exact outputLaws_of_settled ((settle_inReset d).trans (hd.reset.trans hout)) (settle_settle d)

/-- Settles O8. -/
theorem everyStepKeepsTheTestLaw : Obligations.EveryStepKeepsTheTestLaw := fun s _ h hstep =>
  (step_car hstep).induct (P := fun d => TestLaw d.brk) h (fun _ hd => hd.test h) (fun d _ => (settle_calm d).test)
    (fun strap record => (hardwareReset_laws strap record s.car).1) fun _ => TestLaw.congr rfl rfl rfl

/-- Settles O9. -/
theorem everyStepKeepsTheNoticeLaw : Obligations.EveryStepKeepsTheNoticeLaw := fun s _ hlen h hstep =>
  (step_car hstep).induct (P := fun d => EvrLaw d.evr) ⟨hlen, h⟩ (fun _ hd => hd.events ⟨hlen, h⟩)
    (fun d _ => (settle_calm d).events) (fun strap record => (hardwareReset_laws strap record s.car).2.1) fun _ => id

/-- Settles O10. -/
theorem everyStepKeepsTheRestrictionLaw : Obligations.EveryStepKeepsTheRestrictionLaw := fun s _ h hstep =>
  (step_car hstep).induct (P := fun d => RestrictionLaw d.ssv) h (fun _ hd => hd.restrictions h)
    (fun d _ => (settle_calm d).restrictions) (fun strap record => (hardwareReset_laws strap record s.car).2.2.1) fun _ => id

/-- Settles O11. -/
theorem everyStepKeepsTheRadioLaw : Obligations.EveryStepKeepsTheRadioLaw := fun s _ h hstep =>
  (step_car hstep).induct (P := fun d => RadioLaw d.vrl) h (fun _ hd => hd.radio h)
    (fun d _ => (settle_calm d).radio) (fun strap record => (hardwareReset_laws strap record s.car).2.2.2.1) fun _ => id

/-- Settles O12. -/
theorem everyStepKeepsTheStoreLaw : Obligations.EveryStepKeepsTheStoreLaw := fun s _ h hstep =>
  (step_car hstep).induct (P := fun d => StoreLaw d.pst) h (fun _ hd => hd.store h)
    (fun d _ => (settle_calm d).store) (fun strap record => (hardwareReset_laws strap record s.car).2.2.2.2.1) fun _ => id

end Sys2Proof.Machine
end

section
/-! The statements about the tick, the hardware resets and RESETn held low. -/

namespace Sys2Proof.Machine

/-- Settles O2: a tick advances the running timers alone. -/
theorem idleStepTicks : Obligations.IdleStepTicks := by
  intro s hpending
  have hstep : step s = .next { s with car := s.car.tick } := by simp only [step, hpending]
  refine ⟨fun hheld => ?_, fun hout => ?_⟩
  · rw [hstep, Car.tick_of_inReset hheld]
  · rw [Car.tick_eq hout] at hstep
    refine ⟨_, hstep, hpending, hout, rfl, rfl, fun ch => PerLoop.get_map .., rfl, rfl, rfl, rfl, rfl,
      fun ch => PerCog.get_map .., fun hnone => ?_, fun sel hsel => ?_, rfl, fun leaf => PerLeaf.get_map ..,
      fun side => PerSide.get_map .., rfl⟩
    · show s.car.brk.test.tick = s.car.brk.test
      generalize s.car.brk.test = t at hnone
      cases t with
      | onSelected sel => cases hnone
      | _ => rfl
    · show s.car.brk.test.tick = _
      rw [hsel]
      rfl

/-! ## Hardware resets -/

/-- No source of a reset event block is pending, one that it does not hold among them. -/
theorem Evr.reset_pending (n : Nat) : (Evr.reset.source n).pending = false := by
  show ((Evr.defaults.map fun d => SourceRecord.reset d.1 d.2).getD n ⟨0, false, .notice, false⟩).pending = false
  rw [List.getD_eq_getElem?_getD, List.getElem?_map]
  cases Evr.defaults[n]? <;> rfl

/-- The leaves of a part with every leaf isolated are what its doors being proven at a reset means (R147, R150). -/
theorem provenAtReset_iff (contacts : PerLeaf Bool) : provenAtReset contacts = true ↔ contacts = .all true := by
  obtain ⟨a, b, c, d⟩ := contacts
  cases a <;> cases b <;> cases c <;> cases d <;> decide

section
variable (readings : PerCog Reading) (readbacks : PerCog Bool) (contacts : PerLeaf Bool) (closings : PerPort (Option Closing))
  (strap : Bool) (record : Option FaultRecord)

/-- A part that a hardware reset leaves while RESETn is low has its outputs deasserted; its ports and release outputs are silent
as it is. -/
theorem assertReset_reset : assertReset (Car.reset readings readbacks contacts closings strap record) =
    { Car.reset readings readbacks contacts closings strap record with
      inReset := true,
      brk := { (Car.reset readings readbacks contacts closings strap record).brk with svcValid := false, tractionOk := false } } :=
  rfl

/-- A hardware reset, by what the pins read: of a part in reset, POWER_ON_RESET leaves it so. -/
theorem exec_hardwareReset {s : State} {i : Instr} {strap : Bool} {record : Option FaultRecord}
    (h : (i = .powerOnReset strap ∧ record = none) ∨ (i = .resetLineReset strap ∧ record = s.car.brk.faultRecord)) :
    exec i s = .next { s with
      car := if s.car.inReset = true ∧ i = .powerOnReset strap then assertReset (hardwareReset strap record s.car)
        else hardwareReset strap record s.car } := by
  rcases h with ⟨rfl, rfl⟩ | ⟨rfl, rfl⟩
  · simp only [and_true]
    rfl
  · simp only [reduceCtorEq, and_false, if_false]
    rfl

theorem Dor.reset_proven : (Dor.reset contacts).proven = provenAtReset contacts := rfl

theorem Dor.reset_leaf (leaf : Leaf) :
    ((Dor.reset contacts).leaves.get leaf).state = if contacts.get leaf then .isolated else .unread := by cases leaf <;> rfl

theorem Brk.reset_channel (proven : Bool) (ch : CogChannel) : (Brk.reset readings readbacks proven record).channels.get ch =
    .reset (readings.get ch) (readbacks.get ch) := by cases ch <;> rfl

end

/-- Settles O4. -/
theorem hardwareResetState : Obligations.HardwareResetState := by
  intro s i strap record hi readings readbacks contacts closings fresh held
  have hexec := exec_hardwareReset hi
  rw [hardwareReset_eq] at hexec
  have hproven : fresh.dor.proven = true ↔ contacts = .all true := provenAtReset_iff contacts
  have hchannel (ch : CogChannel) : (fresh.brk.channels.get ch).command = .apply ∧
      (fresh.brk.channels.get ch).state = (if readings.get ch = .applied then .applied else .applying) ∧
      (fresh.brk.channels.get ch).energised = false ∧ (fresh.brk.channels.get ch).reported = false ∧
      (fresh.brk.channels.get ch).readback = if readbacks.get ch then some 0 else none := by
    rw [show fresh.brk.channels.get ch = .reset (readings.get ch) (readbacks.get ch) from Brk.reset_channel ..]
    exact ⟨rfl, rfl, rfl, rfl, rfl⟩
  by_cases hheld : held
  · rw [if_pos hheld, assertReset_reset] at hexec
    exact ⟨_, hexec, (absurd hheld ·), fun _ => rfl, rfl, Evr.reset_pending, rfl, rfl, hproven, rfl, rfl, Dor.reset_leaf contacts,
      hchannel⟩
  · rw [if_neg hheld] at hexec
    exact ⟨_, hexec, fun _ => rfl, (absurd · hheld), rfl, Evr.reset_pending, rfl, rfl, hproven, rfl, rfl, Dor.reset_leaf contacts,
      hchannel⟩

/-! ## RESETn held low -/

/-- Settles O5: each command runs on the part only while RESETn is not low, and the three pins read then write their reading alone. -/
theorem resetLineHeldLow : Obligations.ResetLineHeldLow := by
  refine ⟨fun s => ⟨_, rfl, rfl, rfl, rfl, fun ch => PerCog.get_map .., fun p => PerPort.get_map .., rfl⟩, fun i s hheld => ?_⟩
  have hrun (f : Car → Car) : s.run f = s := by simp only [State.run, hheld, if_true]
  have hpin (held f : Car → Car) : s.runPin held f = { s with car := held s.car } := by
    simp only [State.runPin, hheld, if_true]
  cases i with
  | powerOnReset | resetnAssert | resetLineReset => trivial
  | cbFeedbackChange | readbackChange | isolationContactChange => exact congrArg Host.Outcome.next (hpin _ _)
  | _ => exact congrArg Host.Outcome.next (hrun _)

end Sys2Proof.Machine
end

section
/-! How a command of a ready part is run and how telegram acceptance judges a copy, said once for the statements about them
(R175, R177, R178, R188). -/

namespace Sys2Proof.Machine

/-! ## Running a command on a ready part -/

section Run
variable {s : State} (hr : Ready s)
include hr

theorem Ready.settled : settle s.car = s.car := hr.2.1

theorem Ready.unreserved : Unreserved s.car.lif := hr.2.2

theorem Ready.run (f : Car → Car) : s.run f = ⟨settle (f s.car), s.pending⟩ := State.run_of_ready hr.1 f

theorem Ready.runPin (held f : Car → Car) : s.runPin held f = ⟨settle (f s.car), s.pending⟩ := by
  rw [State.runPin, hr.1]
  rfl

/-- What a command leaves is settled when the command leaves alone what the outputs are decided from. -/
theorem Ready.settle_quiet {d : Car} (hd : d.dor = s.car.dor) (hb : d.brk = s.car.brk) (hf : d.odo.fused = s.car.odo.fused)
    (hh : d.ssv.record.hold = s.car.ssv.record.hold) : settle d = d := settle_transfer hr.settled hd hb hf hh

end Run

/-! ## The line record under a judgement -/

/-- Two line records that an alarm is the same for. -/
structure Lif.SameCar (l m : Lif) : Prop where
  number : m.carNumber = l.carNumber
  params : m.params = l.params

theorem Lif.Steady.sameCar {l m : Lif} (h : l.Steady m) : l.SameCar m := ⟨h.number, h.params⟩

/-- The part with another line record. -/
def Car.withLif (c : Car) (l : Lif) : Car := { c with lif := l }

section WithLif
variable {c : Car} {l : Lif} (h : c.lif.SameCar l)
include h

theorem occur_withLif (src : Source) (detail : Nat) : occur src detail (c.withLif l) = (occur src detail c).withLif l := by
  have halarm : alarmed (c.withLif l) src detail = alarmed c src detail := by
    simp only [alarmed, Car.withLif, h.number, h.params]
  simp only [occur, halarm]
  rfl

theorem levelChange_withLif (src : Source) (before after : Bool) (detail : Nat) :
    levelChange src before after detail (c.withLif l) = (levelChange src before after detail c).withLif l := by
  unfold levelChange
  split
  · rfl
  · split
    · exact occur_withLif h src detail
    · rfl

theorem abortTest_withLif : abortTest (c.withLif l) = (abortTest c).withLif l := by
  cases htest : c.brk.test with
  | off => simp only [abortTest, htest, show (c.withLif l).brk.test = c.brk.test from rfl]
  | onIdle =>
    simp only [abortTest, htest, show (c.withLif l).brk.test = c.brk.test from rfl]
    exact occur_withLif (c := { c with brk := { c.brk with test := .off } }) h ..
  | onSelected sel =>
    simp only [abortTest, htest, show (c.withLif l).brk.test = c.brk.test from rfl]
    generalize hb : sel.endTiming c.brk .incomplete = b
    rw [show (c.withLif l).brk = c.brk from rfl, hb]
    exact occur_withLif (c := { c with brk := { b with test := .off, results := _ } }) h ..

theorem addCause_withLif (cause : Cause) (present : Bool) :
    addCause cause present (c.withLif l) = (addCause cause present c).withLif l := by
  cases hcause : c.brk.causes.get cause with
  | some r => simp only [addCause, hcause, show (c.withLif l).brk = c.brk from rfl]; rfl
  | none =>
    simp only [addCause, hcause, show (c.withLif l).brk = c.brk from rfl]
    generalize hb : ({ c.brk with causes := c.brk.causes.set cause (some ⟨c.now, present⟩) } : Brk) = b
    rw [show (c.withLif l).now = c.now from rfl, hb]
    have hoccur := occur_withLif (c := { c with brk := b }) h .emergencySet cause.code
    by_cases hreset : cause = .reset
    · rw [if_pos hreset, if_pos hreset]
      exact abortTest_withLif (c := { c with brk := b }) h
    · rw [if_neg hreset, if_neg hreset]
      exact (congrArg abortTest hoccur).trans (abortTest_withLif (c := occur _ _ { c with brk := b }) h)

theorem causeStart_withLif (cause : Cause) : causeStart cause (c.withLif l) = (causeStart cause c).withLif l :=
  addCause_withLif (c := { c with brk := { c.brk with conditions := c.brk.conditions.set cause true } }) h cause true

theorem handDoor_withLif (before after : Bool) : handDoor before after (c.withLif l) = (handDoor before after c).withLif l := by
  cases after
  · cases before <;> rfl
  · exact causeStart_withLif h .door

theorem dorJudge_withLif : dorJudge (c.withLif l) = (dorJudge c).withLif l := by
  generalize hj : c.dor.judge c.odo.fused = d
  simp only [dorJudge, hj, show (c.withLif l).dor.judge (c.withLif l).odo.fused = d from hj]
  generalize hx : ({ c with dor := d, brk := { c.brk with doorsProven := d.proven, doorHold := d.hold } } : Car) = x
  have hl : x.lif.SameCar l := by rw [← hx]; exact h
  have hy : levelChange .doorsProven c.dor.proven d.proven 0 (x.withLif l) =
      (levelChange .doorsProven c.dor.proven d.proven 0 x).withLif l := levelChange_withLif hl ..
  rw [← handDoor_withLif (by rw [levelChange_lif]; exact hl), ← hy, ← hx]
  rfl

theorem settle_withLif : settle (c.withLif l) = (settle c).withLif l := by
  rw [settle, dorJudge_withLif h]
  rfl

end WithLif

/-! ## The reports that an occurrence queues -/

/-- Two link records that differ in the report queue and the modem alone. -/
def Vrl.SameLink (v w : Vrl) : Prop := w = { v with reports := w.reports, lostReports := w.lostReports, transmit := w.transmit }

theorem Vrl.SameLink.refl (v : Vrl) : v.SameLink v := rfl

theorem Vrl.SameLink.trans {u v w : Vrl} (h : u.SameLink v) (k : v.SameLink w) : u.SameLink w := by
  unfold Vrl.SameLink at *
  rw [h] at k
  exact k

theorem Vrl.SameLink.link {v w : Vrl} (h : v.SameLink w) : w.link = v.link := by rw [h]

theorem Vrl.join_sameLink (v : Vrl) (r : Report) : v.SameLink (v.join r) := by
  rw [Vrl.join_frame]
  rfl

theorem Vrl.pump_sameLink (v : Vrl) (train : Nat) : v.SameLink (v.pump train) := by
  rw [Vrl.pump_frame]
  rfl

theorem Vrl.queueReport_sameLink (v : Vrl) (train : Nat) (r : Report) : v.SameLink (v.queueReport train r) := by
  unfold Vrl.queueReport
  split
  · exact (v.join_sameLink r).trans (Vrl.pump_sameLink ..)
  · exact .refl v

section Occurrences
variable (c : Car)

theorem occur_sameLink (src : Source) (detail : Nat) : c.vrl.SameLink (occur src detail c).vrl := by
  show c.vrl.SameLink (alarmed c src detail)
  unfold alarmed
  dsimp only
  split
  · exact Vrl.queueReport_sameLink ..
  · exact .refl _

theorem levelChange_sameLink (src : Source) (before after : Bool) (detail : Nat) :
    c.vrl.SameLink (levelChange src before after detail c).vrl := by
  unfold levelChange
  split
  · exact .refl _
  · split
    · exact occur_sameLink ..
    · exact .refl _

theorem abortTest_sameLink : c.vrl.SameLink (abortTest c).vrl := by
  unfold abortTest
  split
  · exact .refl _
  · exact occur_sameLink { c with brk := _ } ..
  · exact occur_sameLink { c with brk := _ } ..

theorem addCause_sameLink (cause : Cause) (present : Bool) : c.vrl.SameLink (addCause cause present c).vrl := by
  unfold addCause
  split
  · exact .refl _
  · dsimp only
    split
    · exact abortTest_sameLink { c with brk := _ }
    · exact (occur_sameLink { c with brk := _ } ..).trans (abortTest_sameLink _)

theorem causeChange_sameLink (cause : Cause) (before after : Bool) : c.vrl.SameLink (causeChange cause before after c).vrl := by
  unfold causeChange
  split
  · exact .refl _
  · split
    · exact addCause_sameLink { c with brk := _ } ..
    · exact .refl _

theorem handDoor_sameLink (before after : Bool) : c.vrl.SameLink (handDoor before after c).vrl := by
  unfold handDoor
  split
  · exact addCause_sameLink { c with brk := _ } ..
  · split <;> exact .refl _

theorem settle_sameLink : c.vrl.SameLink (settle c).vrl := by
  have hlevel := levelChange_sameLink { c with dor := c.dor.judge c.odo.fused, brk := { c.brk with
    doorsProven := (c.dor.judge c.odo.fused).proven, doorHold := (c.dor.judge c.odo.fused).hold } }
    .doorsProven c.dor.proven (c.dor.judge c.odo.fused).proven 0
  exact hlevel.trans (handDoor_sameLink ..)

end Occurrences

/-! ## A telegram that is answered -/

theorem Lif.append_sameCar (l : Lif) (link : LinkState) (frames : List Frame) : l.SameCar (l.append link frames) :=
  (Lif.append_steady l link frames).sameCar

theorem Lif.answered_sameCar (l : Lif) (link : LinkState) (via : Via) (kind : Nat) (result : Result) (parts : List ReplyData) :
    l.SameCar (l.answered link via kind result parts) := by
  unfold Lif.answered
  split
  · exact Lif.append_sameCar ..
  · exact ⟨rfl, rfl⟩

/-- An answer is the same before the outputs are decided and after. -/
theorem settle_replied_comm (via : Via) (kind : Nat) (result : Result) (parts : List ReplyData) (c : Car) :
    settle (replied via kind result parts c) = replied via kind result parts (settle c) := by
  have hlif : (settle c).lif = c.lif := settle_lif c
  rw [replied, replied, hlif, (settle_sameLink c).link]
  exact settle_withLif (Lif.answered_sameCar ..)

/-- A telegram that reaches its block and is delivered by placing an answer on a part `d` leaves `d`, its outputs decided, with
that answer. -/
theorem exec_eq_replied_settle {i : Instr} {via : Via} {t : Telegram} (hi : i.telegram = some (via, t)) {s : State} (hr : Ready s)
    (h : Reaches via t s.car) (hp : telegramKind t ≠ 40) {kind : Nat} {result : Result} {parts : List ReplyData} {d : Car}
    (hd : Unreserved d.lif)
    (hdeliver : ∀ n, deliver via t (s.car.reserving n) = answer via kind result parts (d.reserving n)) :
    exec i s = .next ⟨replied via kind result parts (settle d), s.pending⟩ := by
  obtain ⟨n, hexec, hn⟩ := exec_of_reaches hi hr h hp
  rw [hexec, hdeliver n, answer_of_reaches via kind result parts hd.1 hd.2 hn, settle_replied_comm]

/-! ## What acceptance turns away -/

section Accept
variable {via : Via} {kind : Nat} {t : Option Telegram} {c : Car}

theorem accept_unnumbered (h : c.lif.carNumber = none ∨ relayedOnly kind = true) : accept via kind t c = c := by
  rw [accept, if_pos]
  simpa only [Option.isNone_iff_eq_none] using h

section Numbered
variable (hn : c.lif.carNumber ≠ none) (hk : relayedOnly kind = false)
include hn hk

theorem judged_of_numbered : ¬ (c.lif.carNumber.isNone = true ∨ relayedOnly kind = true) := by
  rw [Option.isNone_iff_eq_none, hk]
  exact fun h => h.elim hn Bool.false_ne_true

theorem accept_train (ha : via.addressing ≠ .car) :
    accept via kind t c = if c.brk.faultStop then c else acceptTrain via kind t c := by
  rw [accept, if_neg (judged_of_numbered hn hk)]
  cases hv : via.addressing with
  | car => exact absurd hv ha
  | group | broadcast => rfl

theorem accept_car_none (ha : via.addressing = .car) (hres : reserve kind c = none) :
    accept via kind t c = occur .originateFull (256 + kind) c := by
  rw [accept, if_neg (judged_of_numbered hn hk), ha]
  simp only [hres]

theorem accept_car_some (ha : via.addressing = .car) {d : Car} (hres : reserve kind c = some d) :
    accept via kind t c =
      if shutOut kind d then answer via kind .faultStop [answerData kind d] d else acceptCar via kind t d := by
  rw [accept, if_neg (judged_of_numbered hn hk), ha]
  simp only [hres]

end Numbered

/-- A copy by group or broadcast in fault stop, of a kind not taken so, or with a payload that does not fit is discarded. -/
theorem accept_train_discarded (ha : via.addressing ≠ .car)
    (h : c.brk.faultStop = true ∨ takenUnder kind via.addressing = false ∨ t = none) : accept via kind t c = c := by
  by_cases hout : c.lif.carNumber = none ∨ relayedOnly kind = true
  · exact accept_unnumbered hout
  · obtain ⟨hn, hk⟩ := not_or.1 hout
    rw [accept_train hn (by simpa using hk) ha]
    rcases h with hstop | hdropped
    · rw [if_pos hstop]
    · have hdrop : acceptTrain via kind t c = c := by
        unfold acceptTrain
        rcases hdropped with htaken | rfl
        · rw [htaken]
        · cases takenUnder kind via.addressing <;> rfl
      rw [hdrop, ite_self]

/-- The reply places that acceptance finds: room for a NOTICE POLL's batch outside fault stop, or for the answer's frames. -/
def Lif.roomFor (l : Lif) (kind : Nat) (faultStop : Bool) : Prop :=
  if kind = 40 ∧ faultStop = false then l.nonReplyRoom = true else placesFor kind ≤ l.freePlaces

theorem reserve_none (h : ¬ c.lif.roomFor kind c.brk.faultStop) : reserve kind c = none := by
  unfold Lif.roomFor at h
  unfold reserve
  split <;> rename_i hpoll
  · rw [if_pos hpoll] at h
    exact if_neg h
  · rw [if_neg hpoll] at h
    exact if_neg h

/-- The part with places reserved, from which an answer is placed as on the part itself. -/
theorem reserve_some (hu : Unreserved c.lif) (h : c.lif.roomFor kind c.brk.faultStop) :
    ∃ replies batch, reserve kind c =
        some { c with lif := { c.lif with reservedReplies := replies, reservedBatch := batch } } ∧
      (¬ (kind = 40 ∧ c.brk.faultStop = false) → replies = placesFor kind ∧ batch = 0) := by
  obtain ⟨hreplies, hbatch⟩ := hu
  unfold Lif.roomFor at h
  unfold reserve
  by_cases hpoll : kind = 40 ∧ c.brk.faultStop = false
  · rw [if_pos hpoll] at h ⊢
    rw [if_pos h]
    exact ⟨c.lif.reservedReplies, _, rfl, fun hn => absurd hpoll hn⟩
  · rw [if_neg hpoll] at h ⊢
    rw [if_pos h, hreplies, Nat.zero_add]
    exact ⟨placesFor kind, c.lif.reservedBatch, rfl, fun _ => ⟨rfl, hbatch⟩⟩

theorem Unreserved.free_eq {l : Lif} (hu : Unreserved l) : { l with reservedReplies := 0, reservedBatch := 0 } = l := by
  obtain ⟨hreplies, hbatch⟩ := hu
  cases l
  dsimp only at hreplies hbatch
  rw [hreplies, hbatch]

theorem answer_reserved (hu : Unreserved c.lif) (ha : via.addressing = .car) (k : Nat) (result : Result)
    (parts : List ReplyData) (replies batch : Nat) :
    answer via k result parts { c with lif := { c.lif with reservedReplies := replies, reservedBatch := batch } } =
      replied via k result parts c := by
  simp only [answer, if_pos ha, replied, Lif.answered, hu.free_eq]

section Car
variable (hu : Unreserved c.lif) (hn : c.lif.carNumber ≠ none) (hk : relayedOnly kind = false) (ha : via.addressing = .car)
include hn hk ha

theorem accept_car_full (h : ¬ c.lif.roomFor kind c.brk.faultStop) :
    accept via kind t c = occur .originateFull (256 + kind) c := by
  exact accept_car_none hn hk ha (reserve_none h)

include hu
variable (h : c.lif.roomFor kind c.brk.faultStop)
include h

theorem accept_car_stopped (hstop : shutOut kind c = true) :
    accept via kind t c = replied via kind .faultStop [answerData kind c] c := by
  obtain ⟨replies, batch, hres, -⟩ := reserve_some hu h
  rw [accept_car_some hn hk ha hres, if_pos (by exact hstop)]
  exact answer_reserved hu ha ..

theorem accept_car_open (hopen : shutOut kind c = false) : ∃ replies batch, accept via kind t c =
    acceptCar via kind t { c with lif := { c.lif with reservedReplies := replies, reservedBatch := batch } } := by
  obtain ⟨replies, batch, hres, -⟩ := reserve_some hu h
  refine ⟨replies, batch, ?_⟩
  rw [accept_car_some hn hk ha hres]
  exact if_neg (ne_true_of_eq_false hopen)

theorem accept_car_unknown (hopen : shutOut kind c = false) (hunknown : knownKind kind = false) :
    accept via kind t c = replied via kind .unknownKind [answerData kind c] c := by
  obtain ⟨replies, batch, hopened⟩ := accept_car_open (t := t) hu hn hk ha h hopen
  rw [hopened]
  simp only [acceptCar, hunknown, Bool.not_false, if_true]
  exact answer_reserved hu ha ..

theorem accept_car_untaken (hopen : shutOut kind c = false) (hknown : knownKind kind = true) (htaken : takenByCar kind = false) :
    accept via kind t c = replied via kind .state [answerData kind c] c := by
  obtain ⟨replies, batch, hopened⟩ := accept_car_open (t := t) hu hn hk ha h hopen
  rw [hopened]
  simp only [acceptCar, hknown, htaken, Bool.not_true, Bool.not_false, Bool.false_eq_true, if_true, if_false]
  exact answer_reserved hu ha ..

theorem accept_car_unfit (hopen : shutOut kind c = false) (hknown : knownKind kind = true) (htaken : takenByCar kind = true)
    (ht : t = none) : accept via kind t c = replied via kind .range [answerData kind c] c := by
  obtain ⟨replies, batch, hopened⟩ := accept_car_open (t := t) hu hn hk ha h hopen
  rw [hopened]
  simp only [acceptCar, hknown, htaken, ht, Bool.not_true, Bool.false_eq_true, if_false]
  exact answer_reserved hu ha ..

end Car
end Accept

theorem nonReplies_eq (q : List Queued) :
    (q.filter fun x => !x.frame.isReply) = q.filter fun x => x.frame.kind != 48 := by
  congr 1
  funext x
  cases x.frame <;> rfl

/-- The room for an answer of a part that has no place reserved, by the frames it has queued (R173, R177). -/
theorem Lif.roomFor_iff {l : Lif} (hu : Unreserved l) (kind : Nat) (stop : Bool) : l.roomFor kind stop ↔
    if kind = 40 ∧ stop = false then l.queue.length < 8 ∧ (l.queue.filter fun q => q.frame.kind != 48).length < 6
    else l.queue.length + placesFor kind ≤ 8 := by
  obtain ⟨hreplies, hbatch⟩ := hu
  have hplaces : 0 < placesFor kind := by unfold placesFor; split_ifs <;> decide
  simp only [Lif.roomFor, Lif.nonReplyRoom, Lif.nonReplies, Lif.freePlaces, nonReplies_eq, hreplies, hbatch, Nat.add_zero,
    Bool.and_eq_true, decide_eq_true_eq]
  split
  · omega
  · omega

/-- An occurrence leaves what the outputs are decided from as it was. -/
theorem Ready.settle_occur {s : State} (hr : Ready s) (src : Source) (detail : Nat) :
    settle (occur src detail s.car) = occur src detail s.car := hr.settle_quiet rfl rfl rfl rfl

/-- Settles O13: each case is the branch of telegram acceptance that the telegram takes. -/
theorem acceptanceTurnsAway : Obligations.AcceptanceTurnsAway := by
  intro i via t s hi hr
  have hexec : exec i s = .next ⟨settle (take via t s.car), s.pending⟩ := (exec_of_telegram hi s).trans (congrArg _ (hr.run _))
  have hkind : relayedOnly (telegramKind t) = false := relayedOnly_telegramKind t
  have hroom := Lif.roomFor_iff hr.unreserved (telegramKind t) s.car.brk.faultStop
  unfold placesFor at hroom
  dsimp only
  rw [hexec, ← hroom]
  refine ⟨fun hn => ?_, fun ha hstop => ?_, fun ha hgroup hradio => ?_, fun ha hn hfull => ?_, fun ha hn hplaces hstop h30 h32 => ?_,
    fun ha hn hplaces hstop hradio => ?_⟩
  · rw [take, accept_unnumbered (.inl hn), hr.settled]
  · rw [take, accept_train_discarded ha (.inl hstop), hr.settled]
  · have htaken : takenUnder (telegramKind t) via.addressing = false := by
      cases hv : via.addressing with
      | car => exact absurd hv ha
      | group => simpa only [takenUnder, takenByGroup, decide_eq_false_iff_not] using hgroup
      | broadcast =>
        have hother : ¬ (telegramKind t = 44 ∨ telegramKind t = 45) := fun h => hradio ⟨hv, h⟩
        simp only [takenUnder, takenByGroup, Bool.or_eq_false_iff, decide_eq_false_iff_not]
        exact ⟨hgroup, by simpa only [List.mem_cons, List.not_mem_nil, or_false] using hother⟩
    rw [take, accept_train_discarded ha (.inr (.inl htaken)), hr.settled]
  · rw [take, accept_car_full hn hkind ha hfull, hr.settle_occur]
  · have hshut : shutOut (telegramKind t) s.car = true := by
      simp only [shutOut, hstop, Bool.true_and, Bool.not_eq_true', Bool.or_eq_false_iff, beq_eq_false_iff_ne]
      exact ⟨h30, h32⟩
    rw [take, accept_car_stopped hr.unreserved hn hkind ha hplaces hshut, settle_replied hr.settled]
    rfl
  · have hopen : shutOut (telegramKind t) s.car = false := by rw [shutOut, hstop, Bool.false_and]
    have hknown := knownKind_telegramKind t
    have htaken : takenByCar (telegramKind t) = false := by
      rcases hradio with h | h <;> rw [h] <;> rfl
    rw [take, accept_car_untaken hr.unreserved hn hkind ha hplaces hopen hknown htaken, settle_replied hr.settled]
    rcases hradio with h | h <;> rw [h] <;> rfl

end Sys2Proof.Machine
end

section
/-! What is written as bytes is read back: fields, segment bodies, telegrams, orders, radio frames and line frames (R154, R170,
R179, R180, section 9.2). -/

namespace Sys2Proof.Machine

/-! ## Fields -/

theorem Byte.toNat_ofNat {n : Nat} (h : n < 256) : (Byte.ofNat n).toNat = n :=
  (BitVec.toNat_ofNat n 8).trans (Nat.mod_eq_of_lt h)

theorem toNat_fits1 {n : Nat} (h : fits1 n = true) : (Byte.ofNat n).toNat = n := Byte.toNat_ofNat (of_decide_eq_true h)

theorem flagOf_flagByte (b : Bool) : flagOf (flagByte b) = b := by cases b <;> rfl

theorem beBytes_length (k n : Nat) : (beBytes k n).length = k := by
  induction k with
  | zero => rfl
  | succ k ih => rw [beBytes, List.length_cons, ih]

theorem foldl_beBytes (k n m : Nat) :
    (beBytes k n).foldl (fun a (b : Byte) => a * 256 + b.toNat) m = m * 256 ^ k + n % 256 ^ k := by
  induction k generalizing m with
  | zero => simp [beBytes, Nat.mod_one]
  | succ k ih =>
    have htop : (Byte.ofNat (n / 256 ^ k)).toNat = n / 256 ^ k % 256 := BitVec.toNat_ofNat ..
    have hsplit : n % 256 ^ (k + 1) = n % 256 ^ k + 256 ^ k * (n / 256 ^ k % 256) := Nat.mod_pow_succ
    rw [beBytes, List.foldl_cons, ih, htop, hsplit]
    ring

/-- A field of `k` bytes carries its value, modulo what `k` bytes hold. -/
theorem be_beBytes (k n : Nat) : be (beBytes k n) = n % 256 ^ k := by
  rw [be, foldl_beBytes, Nat.zero_mul, Nat.zero_add]

theorem be_beBytes_of_lt {k n : Nat} (h : n < 256 ^ k) : be (beBytes k n) = n := by
  rw [be_beBytes, Nat.mod_eq_of_lt h]

theorem be_fits2 {n : Nat} (h : fits2 n = true) : be (beBytes 2 n) = n := be_beBytes_of_lt (of_decide_eq_true h)
theorem be_fits3 {n : Nat} (h : fits3 n = true) : be (beBytes 3 n) = n := be_beBytes_of_lt (of_decide_eq_true h)
theorem be_fits4 {n : Nat} (h : fits4 n = true) : be (beBytes 4 n) = n := be_beBytes_of_lt (of_decide_eq_true h)

theorem signed16_signedBytes {i : Int} (hlo : -32768 ≤ i) (hhi : i < 32768) : signed16 (be (signedBytes i)) = i := by
  rw [signedBytes, be_beBytes_of_lt (by omega), signed16]
  split <;> omega

/-! ## Segment bodies -/

theorem parseMarkers_bytes {ms : List MarkerField} (h : ∀ m ∈ ms, m.id < 65536 ∧ m.offset < 16777216) :
    parseMarkers ms.length (ms.flatMap fun m => beBytes 2 m.id ++ beBytes 3 m.offset) = some ms := by
  induction ms with
  | nil => rfl
  | cons m ms ih =>
    obtain ⟨⟨hid, hoffset⟩, hrest⟩ := List.forall_mem_cons.1 h
    have hhead : parseMarkers (m :: ms).length ((m :: ms).flatMap fun m => beBytes 2 m.id ++ beBytes 3 m.offset) =
        (parseMarkers ms.length (ms.flatMap fun m => beBytes 2 m.id ++ beBytes 3 m.offset)).map
          (⟨be (beBytes 2 m.id), be (beBytes 3 m.offset)⟩ :: ·) := rfl
    rw [hhead, ih hrest, be_beBytes_of_lt hid, be_beBytes_of_lt hoffset]
    rfl

theorem parseSegment_bytes {b : SegmentBody} (h : b.wellFormed = true) : parseSegment (segmentBytes b) = some b := by
  simp only [SegmentBody.wellFormed, MarkerField.wellFormed, fits1, fits2, fits3, Bool.and_eq_true, decide_eq_true_eq,
    List.all_eq_true] at h
  obtain ⟨⟨⟨⟨⟨⟨⟨⟨⟨⟨⟨hid, hlow⟩, hlength⟩, hkind⟩, hmin⟩, hmax⟩, hup⟩, hdown⟩, hplow⟩, hphigh⟩, hmarkers⟩, hfit⟩ := h
  have hread : parseSegment (segmentBytes b) =
      (parseMarkers (Byte.ofNat b.markers.length).toNat (b.markers.flatMap fun m => beBytes 2 m.id ++ beBytes 3 m.offset)).map
        (⟨be (beBytes 2 b.id), be (beBytes 3 b.low), be (beBytes 3 b.length), (Byte.ofNat b.kindByte).toNat,
          signed16 (be (signedBytes b.gradient)), (Byte.ofNat b.upLimit).toNat, (Byte.ofNat b.downLimit).toNat,
          be (beBytes 3 b.platformLow), be (beBytes 3 b.platformHigh), ·⟩) := rfl
  rw [hread, Byte.toNat_ofNat (n := b.markers.length) (by omega), parseMarkers_bytes hmarkers, be_beBytes_of_lt hid, be_beBytes_of_lt hlow,
    be_beBytes_of_lt hlength, be_beBytes_of_lt hplow, be_beBytes_of_lt hphigh, signed16_signedBytes hmin hmax,
    Byte.toNat_ofNat hkind, Byte.toNat_ofNat hup, Byte.toNat_ofNat hdown]
  rfl

/-! ## Telegrams -/

/-- Settles O15: each payload is a list of fields in bytes, and each field is read back. -/
theorem telegramPayloadsRoundTrip : Obligations.TelegramPayloadsRoundTrip := by
  intro t h
  cases t with
  | segmentLoad body => exact congrArg (Option.map Telegram.segmentLoad) (parseSegment_bytes h)
  | emergency | testOn | testOff | deselect | testRelease | testApply | faultRead | faultRecordRead | restart | noticePoll => rfl
  | driverDemand d l r c =>
    simp only [Telegram.wellFormed, Bool.and_eq_true] at h
    show some (Telegram.driverDemand (Byte.ofNat d).toNat (Byte.ofNat l).toNat (Byte.ofNat r).toNat (Byte.ofNat c).toNat) = _
    simp only [toNat_fits1, h]
  | positionSet p => exact congrArg (fun n => some (Telegram.positionSet n)) (be_fits3 h)
  | emergencyRelease m => exact congrArg (fun n => some (Telegram.emergencyRelease n)) (be_fits2 h)
  | doorRelease s o n =>
    show some (Telegram.doorRelease (Byte.ofNat s).toNat (flagOf (flagByte o)) (flagOf (flagByte n))) = _
    simp only [toNat_fits1 h, flagOf_flagByte]
  | doorClose s => exact congrArg (fun n => some (Telegram.doorClose n)) (toNat_fits1 h)
  | select n => exact congrArg (fun n => some (Telegram.select n)) (toNat_fits1 h)
  | segmentRemove i => exact congrArg (fun n => some (Telegram.segmentRemove n)) (be_fits2 h)
  | pinWindowSet w f v m =>
    simp only [Telegram.wellFormed, Bool.and_eq_true] at h
    show some (Telegram.pinWindowSet (Byte.ofNat w).toNat (flagOf (flagByte f)) (be (beBytes 2 v)) (be (beBytes 2 m))) = _
    simp only [toNat_fits1, flagOf_flagByte, be_fits2, h]
  | restrictionAdd i l k s a =>
    simp only [Telegram.wellFormed, Bool.and_eq_true] at h
    show some (Telegram.restrictionAdd (Byte.ofNat i).toNat (be (beBytes 3 l)) (be (beBytes 3 k)) (Byte.ofNat s).toNat (Byte.ofNat a).toNat) = _
    simp only [toNat_fits1, be_fits3, h]
  | restrictionCancel i => exact congrArg (fun n => some (Telegram.restrictionCancel n)) (toNat_fits1 h)
  | parameterSet i v =>
    simp only [Telegram.wellFormed, Bool.and_eq_true] at h
    show some (Telegram.parameterSet (Byte.ofNat i).toNat (be (beBytes 4 v))) = _
    simp only [toNat_fits1, be_fits4, h]
  | parameterRead i => exact congrArg (fun n => some (Telegram.parameterRead n)) (toNat_fits1 h)
  | statusRead g => exact congrArg (fun n => some (Telegram.statusRead n)) (toNat_fits1 h)
  | groupSet e f v m =>
    simp only [Telegram.wellFormed, Bool.and_eq_true] at h
    show some (Telegram.groupSet (Byte.ofNat e).toNat (flagOf (flagByte f)) (Byte.ofNat v).toNat (Byte.ofNat m).toNat) = _
    simp only [toNat_fits1, flagOf_flagByte, h]
  | eventEnableSet m => exact congrArg (fun n => some (Telegram.eventEnableSet n)) (be_fits4 h)
  | eventEnableClear m => exact congrArg (fun n => some (Telegram.eventEnableClear n)) (be_fits4 h)
  | eventLevelSet s l r =>
    simp only [Telegram.wellFormed, Bool.and_eq_true] at h
    show some (Telegram.eventLevelSet (Byte.ofNat s).toNat (Byte.ofNat l).toNat (Byte.ofNat r).toNat) = _
    simp only [toNat_fits1, h]
  | eventClear m => exact congrArg (fun n => some (Telegram.eventClear n)) (be_fits4 h)
  | radioStatus l s =>
    simp only [Telegram.wellFormed, Bool.and_eq_true] at h
    show some (Telegram.radioStatus (Byte.ofNat l).toNat (Byte.ofNat s).toNat) = _
    simp only [toNat_fits1, h]
  | radioRelay k n body =>
    simp only [Telegram.wellFormed, Bool.and_eq_true, decide_eq_true_eq] at h
    show (if body.length ≤ 40 then some (Telegram.radioRelay (Byte.ofNat k).toNat (be (beBytes 2 n)) body) else none) = _
    simp only [toNat_fits1, be_fits2, h, if_true]

/-! ## Checked frames -/

theorem ofNat_be_check (check : Check) : BitVec.ofNat 16 (be (beBytes 2 check.toNat)) = check := by
  rw [be_beBytes_of_lt check.isLt, BitVec.ofNat_toNat, BitVec.setWidth_eq]

theorem parseRadio_radioBytes {f : RadioFrame} (hstation : f.station < 256) (htrain : f.train < 65536) (hkind : f.kind < 256)
    (hnumber : f.number < 65536) (hbody : f.body.length ≤ 40) : parseRadio (radioBytes f) = some f := by
  generalize hhead : [Byte.ofNat f.station] ++ beBytes 2 f.train ++ [Byte.ofNat f.kind] ++ beBytes 2 f.number ++
    [Byte.ofNat f.body.length] ++ f.body = head
  have hbytes : radioBytes f = head ++ beBytes 2 (crc head).toNat := by simp only [radioBytes, hhead]
  have hlen : (Byte.ofNat f.body.length).toNat = f.body.length := Byte.toNat_ofNat (by omega)
  have hheadLength : head.length = 7 + f.body.length := by
    simp only [← hhead, List.length_append, beBytes_length, List.length_singleton]
  have hlength : (radioBytes f).length = 9 + f.body.length := by
    rw [hbytes, List.length_append, beBytes_length, hheadLength]
    omega
  have hcheck : crc ((radioBytes f).take (7 + f.body.length)) =
      BitVec.ofNat 16 (be ((radioBytes f).drop (7 + f.body.length))) := by
    rw [hbytes, ← hheadLength, List.take_left, List.drop_left, ofNat_be_check]
  have hopen : parseRadio (radioBytes f) =
      if (radioBytes f).length = 9 + (Byte.ofNat f.body.length).toNat ∧ (Byte.ofNat f.body.length).toNat ≤ 40 ∧
        crc ((radioBytes f).take (7 + (Byte.ofNat f.body.length).toNat)) =
          BitVec.ofNat 16 (be ((radioBytes f).drop (7 + (Byte.ofNat f.body.length).toNat)))
      then some ⟨(Byte.ofNat f.station).toNat, be (beBytes 2 f.train), (Byte.ofNat f.kind).toNat, be (beBytes 2 f.number),
        ((radioBytes f).drop 7).take (Byte.ofNat f.body.length).toNat⟩
      else none := by
    rfl
  rw [hopen, hlen, if_pos ⟨hlength, hbody, hcheck⟩, Byte.toNat_ofNat hstation, be_beBytes_of_lt htrain, Byte.toNat_ofNat hkind,
    be_beBytes_of_lt hnumber, hbytes, ← hhead]
  show some _ = some _
  congr 2
  exact List.take_left

section Frame
variable (dest source kind hop seq : Nat) {payload : List Byte}

theorem frameBytes_eq (payload : List Byte) : ∃ check : List Byte, check.length = 2 ∧
    frameBytes dest source kind hop seq payload = [Byte.ofNat dest, Byte.ofNat source, Byte.ofNat kind, Byte.ofNat hop,
      Byte.ofNat seq, Byte.ofNat payload.length] ++ payload ++ check :=
  ⟨_, beBytes_length 2 _, rfl⟩

theorem frameBytes_length (payload : List Byte) : (frameBytes dest source kind hop seq payload).length = 8 + payload.length := by
  obtain ⟨check, hcheck, h⟩ := frameBytes_eq dest source kind hop seq payload
  rw [h, List.length_append, List.length_append, hcheck]
  simp only [List.length_cons, List.length_nil]
  omega

theorem frameFits_frameBytes (h : payload.length ≤ 48) : frameFits (frameBytes dest source kind hop seq payload) = true := by
  have hlength := frameBytes_length dest source kind hop seq payload
  have hlen : ((frameBytes dest source kind hop seq payload).getD 5 0).toNat = payload.length :=
    Byte.toNat_ofNat (by omega)
  unfold frameFits
  dsimp only
  rw [hlength, hlen]
  generalize hhead : [Byte.ofNat dest, Byte.ofNat source, Byte.ofNat kind, Byte.ofNat hop, Byte.ofNat seq,
    Byte.ofNat payload.length] ++ payload = head
  have hbytes : frameBytes dest source kind hop seq payload = head ++ beBytes 2 (crc head).toNat := by
    simp only [frameBytes, hhead]
  have hheadLength : 8 + payload.length - 2 = head.length := by
    rw [← hhead]
    simp only [List.length_append, List.length_cons, List.length_nil]
    omega
  rw [hheadLength, hbytes, List.take_left, List.drop_left, ofNat_be_check]
  simp only [decide_true, Bool.and_true, Bool.true_and, decide_eq_true_eq]
  exact h

theorem verdict_frameBytes (h : payload.length ≤ 48) :
    verdict .endSymbol (frameBytes dest source kind hop seq payload) = .wellFormed := by
  have hshort : ¬ (Closing.endSymbol ≠ .endSymbol ∨ (frameBytes dest source kind hop seq payload).length ≥ 57) := by
    rw [frameBytes_length]
    exact fun hlong => hlong.elim (fun hne => hne rfl) fun hlong => by omega
  rw [verdict, if_neg hshort, if_pos (frameFits_frameBytes dest source kind hop seq h)]

theorem framePayload_frameBytes (payload : List Byte) : framePayload (frameBytes dest source kind hop seq payload) = payload := by
  obtain ⟨check, hcheck, h⟩ := frameBytes_eq dest source kind hop seq payload
  rw [framePayload, frameBytes_length, h, Nat.add_sub_cancel_left]
  exact List.take_left

end Frame

/-- A frame that an end symbol closes within 56 bytes is bad when its length byte or its CRC does not fit. -/
theorem verdict_bad {bytes : List Byte} (hlength : bytes.length < 57) (h : frameFits bytes = false) :
    verdict .endSymbol bytes = .bad := by
  have hshort : ¬ (Closing.endSymbol ≠ .endSymbol ∨ bytes.length ≥ 57) :=
    fun hlong => hlong.elim (fun hne => hne rfl) fun hlong => by omega
  rw [verdict, if_neg hshort, if_neg (ne_true_of_eq_false h)]

theorem replyBytes_length (part : Nat) (data : ReplyData) : (replyBytes part data).length ≤ 45 := by
  cases data <;> first | exact Nat.zero_le _ | exact List.length_take_le ..

theorem Frame.payload_length {f : Frame} (link : LinkState)
    (h : ∀ kind number body, f = .radioRelay kind number body → body.length ≤ 40) : (f.payload link).length ≤ 48 := by
  cases f with
  | reply kind seq result part parts data =>
    have := replyBytes_length part data
    simp only [Frame.payload, List.length_append, List.length_cons, List.length_nil]
    omega
  | noticeBatch | faultStop => exact List.length_take_le ..
  | radioStatus station => exact Nat.le_of_ble_eq_true rfl
  | radioRelay kind number body =>
    have hbody := h kind number body rfl
    simp only [Frame.payload, telegramBytes, List.length_append, List.length_cons, beBytes_length]
    omega

/-- Settles O16. -/
theorem framesRoundTrip : Obligations.FramesRoundTrip := by
  refine ⟨fun id low high speed appliesTo h => ?_, fun id h => ?_, rfl, fun n h => ?_, fun body h => ?_, rfl, fun f => parseRadio_radioBytes,
    fun dest source kind hop seq payload h => ⟨verdict_frameBytes _ _ _ _ _ h, framePayload_frameBytes ..⟩,
    fun bytes hlength h => verdict_bad hlength ?_, fun bytes hlength hmin h => verdict_bad hlength ?_,
    fun closing bytes h => if_pos h, fun f source link h => verdict_frameBytes _ _ _ _ _ (Frame.payload_length link h),
    fun kind seq source result part parts data link => ?_, fun station source link => ?_⟩
  · simp only [Telegram.wellFormed, Bool.and_eq_true] at h
    show some (Order.restrictionAdd (Byte.ofNat id).toNat (be (beBytes 3 low)) (be (beBytes 3 high)) (Byte.ofNat speed).toNat
      (Byte.ofNat appliesTo).toNat) = _
    simp only [toNat_fits1, be_fits3, h]
  · exact congrArg (fun n => some (Order.restrictionCancel n)) (Byte.toNat_ofNat h)
  · exact congrArg (fun n => some (Order.stopRelease n)) (be_beBytes_of_lt (k := 2) (n := n) h)
  · exact congrArg (Option.map Order.segmentDelivery) (parseSegment_bytes h)
  · simp only [frameFits, decide_eq_false h, Bool.false_and]
  · simp only [frameFits, decide_eq_false h, Bool.and_false]
  · obtain ⟨check, hcheck, h⟩ := frameBytes_eq 0 source 48 0 seq ((Frame.reply kind seq result part parts data).payload link)
    refine ⟨replyBytes part data, check, replyBytes_length .., hcheck, fun h => by rw [h]; rfl, ?_⟩
    have hlength : ((Frame.reply kind seq result part parts data).payload link).length = 3 + (replyBytes part data).length := by
      simp only [Frame.payload, List.length_append, List.length_cons, List.length_nil]
    rw [hlength] at h
    rw [Nat.mul_comm 16 part]
    exact h
  · obtain ⟨check, hcheck, h⟩ := frameBytes_eq 255 source 45 0 0 ((Frame.radioStatus station).payload link)
    exact ⟨check, hcheck, h⟩

end Sys2Proof.Machine
end

section
/-! The end of a frame: its relay side, its copy handed to telegram acceptance (R170, R171, R175, R177). -/

namespace Sys2Proof.Machine

/-! ## The frames that the transmitters leave queued -/

section Frames
variable (l : Lif) (link : LinkState)

theorem beginFirst_frames {f : Queued → Bool} {p : Port} {q : List Queued} {r : Queued × List Queued}
    (h : beginFirst f p q = some r) : r.2.map (·.frame) = q.map (·.frame) := by
  induction q generalizing r with
  | nil => cases h
  | cons x q ih =>
    unfold beginFirst at h
    split at h
    · cases h
      rfl
    · obtain ⟨y, hy, rfl⟩ := Option.map_eq_some_iff.1 h
      simp only [List.map_cons, ih hy]

theorem Lif.startPort_frames (p : Port) : (l.startPort link p).frames = l.frames := by
  unfold Lif.startPort
  dsimp only
  split
  · rfl
  · split
    · rename_i hbegin
      exact beginFirst_frames hbegin
    · rfl
  · rfl

theorem Lif.start_frames : (l.start link).frames = l.frames := by
  rw [Lif.start, Lif.startPort_frames, Lif.startPort_frames]

theorem Lif.closeRelay_frames (p : Port) (r : Reception) (v : Verdict) (bytes : List Byte) :
    (l.closeRelay link p r v bytes).frames = l.frames := by
  unfold Lif.closeRelay
  dsimp only
  split
  · rw [Lif.start_frames]
    rfl
  · split
    · rw [Lif.start_frames]
      rfl
    · rfl
  · rfl

end Frames

/-- The room for an answer is that of the frames queued. -/
theorem Lif.roomFor_congr {l m : Lif} (hl : Unreserved l) (hm : Unreserved m) (h : m.frames = l.frames) (kind : Nat) (stop : Bool) :
    m.roomFor kind stop ↔ l.roomFor kind stop := by
  have hlength : m.queue.length = l.queue.length := by
    rw [← List.length_map (f := (·.frame)), ← List.length_map (as := l.queue) (f := (·.frame))]
    exact congrArg List.length h
  have hfilter (q : List Queued) : (q.filter fun x => x.frame.kind != 48).length =
      ((q.map (·.frame)).filter fun f => f.kind != 48).length := by
    rw [List.filter_map, List.length_map]
    rfl
  rw [Lif.roomFor_iff hl, Lif.roomFor_iff hm, hlength, hfilter, hfilter]
  rw [show m.queue.map (·.frame) = l.queue.map (·.frame) from h]

/-! ## A frame's end -/

/-- The part with the relay side of a frame's end done. -/
def Car.relayed (c : Car) (p : Port) (r : Reception) (v : Verdict) (bytes : List Byte) : Car :=
  { c with lif := c.lif.closeRelay c.vrl.link p r v bytes }

section End
variable {s : State} {p : Port} {r : Reception} (hr : Ready s) (hrx : (s.car.lif.ports.get p).rx = some r)

theorem Ready.relayed (hr : Ready s) (p : Port) (r : Reception) (v : Verdict) (bytes : List Byte) :
    Ready ⟨s.car.relayed p r v bytes, s.pending⟩ :=
  ⟨hr.1, hr.settle_quiet rfl rfl rfl rfl, (Lif.closeRelay_steady ..).places hr.unreserved⟩

/-- The bytes of a frame that ends, its first three taken at its header. -/
def Reception.bytes (r : Reception) (rest : List Byte) : List Byte :=
  [Byte.ofNat r.dest, Byte.ofNat r.source, Byte.ofNat r.kind] ++ rest

include hr hrx
variable (closing : Closing) (rest : List Byte)

theorem exec_frameEnd_rollCall (hk : r.kind = 1) : exec (.lineFrameEnd p closing rest) s =
    .next ⟨settle (copyEnd p (verdict closing (r.bytes rest)) (rollCall p r.dest r.source ((r.bytes rest).getD 3 0).toNat
      ((r.bytes rest).getD 4 0).toNat (framePayload (r.bytes rest)))
      (s.car.relayed p r (verdict closing (r.bytes rest)) (r.bytes rest))), s.pending⟩ := by
  have h : frameEnd p closing rest s.car = copyEnd p (verdict closing (r.bytes rest)) (rollCall p r.dest r.source
      ((r.bytes rest).getD 3 0).toNat ((r.bytes rest).getD 4 0).toNat (framePayload (r.bytes rest)))
      (s.car.relayed p r (verdict closing (r.bytes rest)) (r.bytes rest)) := by
    unfold frameEnd
    rw [hrx]
    exact if_pos hk
  exact congrArg Host.Outcome.next ((hr.run _).trans (by rw [h]))

theorem exec_frameEnd_uncopied (hk : r.kind ≠ 1) (hcopy : r.copy = none) : exec (.lineFrameEnd p closing rest) s =
    .next ⟨s.car.relayed p r (verdict closing (r.bytes rest)) (r.bytes rest), s.pending⟩ := by
  have h : frameEnd p closing rest s.car = s.car.relayed p r (verdict closing (r.bytes rest)) (r.bytes rest) := by
    unfold frameEnd
    rw [hrx]
    exact (if_neg hk).trans (by rw [hcopy]; rfl)
  exact congrArg Host.Outcome.next ((hr.run _).trans (by rw [h, (hr.relayed ..).settled]))

theorem exec_frameEnd_copied (hk : r.kind ≠ 1) {a : Addressing} (hcopy : r.copy = some a) :
    exec (.lineFrameEnd p closing rest) s = .next ⟨settle (copyEnd p (verdict closing (r.bytes rest))
      (accept ⟨a, ((r.bytes rest).getD 4 0).toNat⟩ r.kind (parseTelegram r.kind (framePayload (r.bytes rest))))
      (s.car.relayed p r (verdict closing (r.bytes rest)) (r.bytes rest))), s.pending⟩ := by
  have h : frameEnd p closing rest s.car = copyEnd p (verdict closing (r.bytes rest))
      (accept ⟨a, ((r.bytes rest).getD 4 0).toNat⟩ r.kind (parseTelegram r.kind (framePayload (r.bytes rest))))
      (s.car.relayed p r (verdict closing (r.bytes rest)) (r.bytes rest)) := by
    unfold frameEnd
    rw [hrx]
    exact (if_neg hk).trans (by rw [hcopy]; rfl)
  exact congrArg Host.Outcome.next ((hr.run _).trans (by rw [h]))

end End

/-! ## A frame that ends well-formed -/

theorem telegramBytes_length {t : Telegram} (h : t.wellFormed = true) : (telegramBytes t).length ≤ 48 := by
  cases t with
  | segmentLoad b =>
    simp only [Telegram.wellFormed, SegmentBody.wellFormed, Bool.and_eq_true, decide_eq_true_eq] at h
    have hmarkers : (b.markers.flatMap fun m => beBytes 2 m.id ++ beBytes 3 m.offset).length = 5 * b.markers.length := by
      simp only [List.length_flatMap, List.length_append, beBytes_length, List.map_const', List.sum_replicate, smul_eq_mul]
      omega
    simp only [telegramBytes, segmentBytes, signedBytes, List.length_append, beBytes_length, List.length_cons, List.length_nil,
      hmarkers]
    omega
  | radioRelay k n body =>
    simp only [Telegram.wellFormed, Bool.and_eq_true, decide_eq_true_eq] at h
    simp only [telegramBytes, List.length_append, List.length_cons, beBytes_length]
    omega
  | _ => exact Nat.le_of_ble_eq_true rfl

section WellFormed
variable {s : State} {p : Port} {dest source kind hop seq : Nat} {payload : List Byte}

/-- A well-formed frame whose copy is taken: the rest of the frame after its header is handed as the telegram it carries. -/
theorem exec_frameEnd_accepts (hr : Ready s) (hseq : seq < 256) (hpayload : payload.length ≤ 48) (hk : kind ≠ 1)
    {route : RelayRoute} {a : Addressing} (hrx : (s.car.lif.ports.get p).rx = some ⟨dest, source, kind, route, some a⟩) :
    exec (.lineFrameEnd p .endSymbol ((frameBytes dest source kind hop seq payload).drop 3)) s =
      .next ⟨settle (accept ⟨a, seq⟩ kind (parseTelegram kind payload)
        (s.car.relayed p ⟨dest, source, kind, route, some a⟩ .wellFormed (frameBytes dest source kind hop seq payload))),
        s.pending⟩ := by
  have h := exec_frameEnd_copied hr hrx .endSymbol ((frameBytes dest source kind hop seq payload).drop 3) hk rfl
  rw [show Reception.bytes ⟨dest, source, kind, route, some a⟩ ((frameBytes dest source kind hop seq payload).drop 3) =
    frameBytes dest source kind hop seq payload from rfl, verdict_frameBytes _ _ _ _ _ hpayload, framePayload_frameBytes,
    show ((frameBytes dest source kind hop seq payload).getD 4 0).toNat = seq from Byte.toNat_ofNat hseq] at h
  exact h

theorem exec_frameEnd_rolls (hr : Ready s) (hhop : hop < 256) (hseq : seq < 256)
    (hrx : (s.car.lif.ports.get p).rx = some ⟨dest, source, 1, .none, none⟩) :
    exec (.lineFrameEnd p .endSymbol ((frameBytes dest source 1 hop seq []).drop 3)) s =
      .next ⟨settle (rollCall p dest source hop seq []
        (s.car.relayed p ⟨dest, source, 1, .none, none⟩ .wellFormed (frameBytes dest source 1 hop seq []))), s.pending⟩ := by
  have h := exec_frameEnd_rollCall hr hrx .endSymbol ((frameBytes dest source 1 hop seq []).drop 3) rfl
  rw [show Reception.bytes ⟨dest, source, 1, .none, none⟩ ((frameBytes dest source 1 hop seq []).drop 3) =
    frameBytes dest source 1 hop seq [] from rfl, verdict_frameBytes _ _ _ _ _ (Nat.zero_le _), framePayload_frameBytes,
    show ((frameBytes dest source 1 hop seq []).getD 3 0).toNat = hop from Byte.toNat_ofNat hhop,
    show ((frameBytes dest source 1 hop seq []).getD 4 0).toNat = seq from Byte.toNat_ofNat hseq] at h
  exact h

end WellFormed

theorem telegramKind_ne_rollCall (t : Telegram) : telegramKind t ≠ 1 := by
  intro h
  have hrelayed := relayedOnly_telegramKind t
  rw [h] at hrelayed
  exact absurd hrelayed (by decide)

theorem knownKind_iff (kind : Nat) : knownKind kind = true ↔ kind ∈ [2, 3, 4, 5, 8, 9, 12, 13, 14, 15, 16, 17, 20, 21, 22, 24, 25,
    28, 29, 30, 31, 32, 33, 34, 36, 37, 38, 39, 40, 44, 45] := decide_eq_true_iff

/-- A kind not taken by group or broadcast. -/
theorem takenUnder_train {kind : Nat} {a : Addressing} (ha : a ≠ .car)
    (hgroup : ¬ kind ∈ [2, 3, 4, 5, 8, 9, 20, 21, 22, 24, 25, 28, 34, 36, 37, 38, 39])
    (hradio : ¬ (a = .broadcast ∧ (kind = 44 ∨ kind = 45))) : takenUnder kind a = false := by
  cases a with
  | car => exact absurd rfl ha
  | group => simpa only [takenUnder, takenByGroup, decide_eq_false_iff_not] using hgroup
  | broadcast =>
    simp only [takenUnder, takenByGroup, Bool.or_eq_false_iff, decide_eq_false_iff_not]
    exact ⟨hgroup, by simpa only [List.mem_cons, List.not_mem_nil, or_false, true_and] using hradio⟩

/-- Settles O14: the relay side of the frame is closed, and telegram acceptance then judges the copy of the part so left. -/
theorem frameEndHandsTheTelegram : Obligations.FrameEndHandsTheTelegram := by
  refine ⟨?telegram, ?copy, ?rollCall⟩
  case telegram =>
    intro i via t p dest source hop route s hi hwf hr hdest hsource hhop r bytes hrx
    simp only [Instr.wellFormed, hi, Via.wellFormed, fits1, Bool.and_eq_true, decide_eq_true_eq] at hwf
    obtain ⟨-, hseq, hfields⟩ := hwf
    have hend := exec_frameEnd_accepts (hop := hop) hr hseq (telegramBytes_length hfields)
      (telegramKind_ne_rollCall t) hrx
    rw [telegramPayloadsRoundTrip t hfields] at hend
    rw [hend, exec_of_telegram hi]
    exact congrArg Host.Outcome.next ((hr.relayed p r .wellFormed bytes).run _).symm
  case copy =>
    intro p dest source kind hop seq payload route a s hr hdest hsource hkind hhop hseq hpayload hk r bytes closed ends known
      groupKind data hrx
    have hend : ends = .next ⟨settle (accept ⟨a, seq⟩ kind (parseTelegram kind payload) closed), s.pending⟩ :=
      exec_frameEnd_accepts (hop := hop) hr hseq hpayload hk hrx
    have hclosed : Ready ⟨closed, s.pending⟩ := hr.relayed p r .wellFormed bytes
    have hnumber : closed.lif.carNumber = s.car.lif.carNumber := (Lif.closeRelay_steady ..).number
    have hrelayed : relayedOnly kind = true ↔ kind ∈ [48, 49, 50] := by
      simp only [relayedOnly, decide_eq_true_eq, List.mem_cons, hk, false_or]
    have hroom := Lif.roomFor_congr hr.unreserved hclosed.unreserved (Lif.closeRelay_frames ..) kind false
    have hrelayedFalse (hown : kind ∉ [48, 49, 50]) : relayedOnly kind = false := by rwa [← Bool.not_eq_true, hrelayed]
    have hshut (hstop : s.car.brk.faultStop = false) : shutOut kind closed = false := by
      rw [shutOut, show closed.brk.faultStop = false from hstop, Bool.false_and]
    have hfits (hstop : s.car.brk.faultStop = false) (hfree : s.car.lif.roomFor kind false) :
        closed.lif.roomFor kind closed.brk.faultStop := by
      rw [show closed.brk.faultStop = false from hstop]
      exact hroom.2 hfree
    rw [hend]
    refine ⟨fun hout => ?_, fun ha hdrop => ?_, fun ha hn hstop hown => ⟨fun hunknown hplaces => ?_,
      fun hknown h44 h45 hparse hplaces => ?_⟩⟩
    · exact congrArg (fun c => Host.Outcome.next (State.mk c _)) ((congrArg settle (accept_unnumbered
        (hout.imp hnumber.trans hrelayed.2))).trans hclosed.settled)
    · have hdiscard : closed.brk.faultStop = true ∨ takenUnder kind a = false ∨ parseTelegram kind payload = none :=
        hdrop.imp_right (Or.imp_left fun ⟨hgroup, hradio⟩ => takenUnder_train ha hgroup hradio)
      exact congrArg (fun c => Host.Outcome.next (State.mk c _)) ((congrArg settle (accept_train_discarded (via := ⟨a, seq⟩) ha
        hdiscard)).trans hclosed.settled)
    · have hplacesFor : placesFor kind = 1 := by
        have hother : kind ≠ 31 ∧ kind ≠ 30 ∧ kind ≠ 32 := by
          refine ⟨?_, ?_, ?_⟩ <;> (rintro rfl; exact hunknown (by decide))
        rw [placesFor, if_neg hother.1, if_neg hother.2.1, if_neg hother.2.2]
      have hfree : s.car.lif.roomFor kind false := by
        have h40 : ¬ (kind = 40 ∧ false = false) := by
          rintro ⟨rfl, -⟩
          exact hunknown (by decide)
        rw [Lif.roomFor, if_neg h40, hplacesFor]
        exact hplaces
      have hanswer := accept_car_unknown (c := closed) (via := ⟨.car, seq⟩) (t := parseTelegram kind payload) hclosed.unreserved (hnumber ▸ hn)
        (hrelayedFalse hown) rfl (hfits hstop hfree) (hshut hstop) (by simpa only [← Bool.not_eq_true, knownKind_iff] using hunknown)
      rw [ha, hanswer, settle_replied hclosed.settled, answerData, if_neg (fun ⟨h12, h17⟩ => hunknown (by simp only [known, List.mem_cons]; omega))]
    · have hfree : s.car.lif.roomFor kind false := by
        simpa only [Lif.roomFor, and_true] using hplaces
      have hanswer := accept_car_unfit (c := closed) (via := ⟨.car, seq⟩) hclosed.unreserved (hnumber ▸ hn) (hrelayedFalse hown) rfl
        (hfits hstop hfree) (hshut hstop) ((knownKind_iff kind).2 hknown)
        (by simp only [takenByCar, List.mem_cons, h44, h45, List.not_mem_nil, or_self, decide_false, Bool.not_false]) hparse
      rw [ha, hanswer, settle_replied hclosed.settled]
      rfl
  case rollCall =>
    intro p closing dest source hop seq rest s hr hdest hsource hhop hseq hrx closed v
    have hclosed (v : Verdict) (bytes : List Byte) : s.car.relayed p ⟨dest, source, 1, .none, none⟩ v bytes = closed := rfl
    have hready : Ready ⟨closed, s.pending⟩ := hr.relayed p ⟨dest, source, 1, .none, none⟩ v []
    have hend := exec_frameEnd_rollCall hr hrx closing rest rfl
    refine ⟨?_, fun hv => ?_, fun hv => ?_⟩
    · rw [exec_frameEnd_rolls hr hhop hseq hrx, hclosed]
      exact congrArg Host.Outcome.next (hready.run _).symm
    · rw [hend, show verdict closing (Reception.bytes ⟨dest, source, 1, .none, none⟩ rest) = .bad from hv, hclosed]
      exact congrArg (fun c => Host.Outcome.next (State.mk c _)) (hready.settle_occur ..)
    · rw [hend, show verdict closing (Reception.bytes ⟨dest, source, 1, .none, none⟩ rest) = .aborted from hv, hclosed]
      exact congrArg (fun c => Host.Outcome.next (State.mk c _)) hready.settled

end Sys2Proof.Machine
end

section
/-! What a port starts (R172, R174): the choice of one port is not moved by what the other port starts, so that each port of a
line record can be judged by itself. -/

namespace Sys2Proof.Machine

theorem Port.other_ne (p : Port) : p.other ≠ p := by cases p <;> exact nofun

@[simp] theorem Port.other_other (p : Port) : p.other.other = p := by cases p <;> rfl

theorem PerPort.get_set_other {α : Type} (q : PerPort α) (p : Port) (x : α) : (q.set p x).get p.other = q.get p.other :=
  PerPort.get_set_ne _ _ (Port.other_ne p)

/-! ## Which queued frame a port starts -/

/-- The frames that go to a port and that it has not begun (R174). -/
theorem Lif.eligible_iff (l : Lif) (p : Port) (q : Queued) : l.eligible p q = true ↔
    ((q.frame.kind = 48 ∨ q.frame.kind = 49) ∧ l.cabSide = some p ∧ q.progress = ⟨.waiting, .waiting⟩) ∨
    (¬ (q.frame.kind = 48 ∨ q.frame.kind = 49) ∧ q.progress.get p = .waiting) := by
  have hcab : q.frame.toCab = true ↔ (q.frame.kind = 48 ∨ q.frame.kind = 49) := by cases q.frame <;> simp [Frame.toCab, Frame.kind]
  unfold Lif.eligible
  by_cases h : q.frame.toCab = true
  · rw [if_pos h]
    simp only [hcab.1 h, true_and, not_true_eq_false, false_and, or_false, Bool.and_eq_true, decide_eq_true_eq, Queued.begun,
      Bool.not_not, beq_iff_eq]
  · rw [if_neg h]
    simp only [mt hcab.2 h, false_and, false_or, not_false_eq_true, true_and, beq_iff_eq]

section Begin
variable {f : Queued → Bool} {p : Port}

theorem beginFirst_eq_none {q : List Queued} (h : ∀ x ∈ q, f x = false) : beginFirst f p q = none := by
  induction q with
  | nil => rfl
  | cons x q ih =>
    obtain ⟨hx, hq⟩ := List.forall_mem_cons.1 h
    rw [beginFirst, if_neg (ne_true_of_eq_false hx), ih hq]
    rfl

theorem beginFirst_append {before : List Queued} {x : Queued} (rest : List Queued) (hx : f x = true)
    (h : ∀ y ∈ before, f y = false) : beginFirst f p (before ++ x :: rest) =
      some (x, before ++ { x with progress := x.progress.set p .sending } :: rest) := by
  induction before with
  | nil => rw [List.nil_append, beginFirst, if_pos hx, List.nil_append]
  | cons y before ih =>
    obtain ⟨hy, hbefore⟩ := List.forall_mem_cons.1 h
    rw [List.cons_append, beginFirst, if_neg (ne_true_of_eq_false hy), ih hbefore]
    rfl

end Begin

section Start
variable (l : Lif) (link : LinkState) (p : Port)

/-- A frame begun at one port goes to the other port as it did. -/
theorem Lif.eligible_begun {x : Queued} (h : l.eligible p x = true) :
    l.eligible p.other { x with progress := x.progress.set p .sending } = l.eligible p.other x := by
  unfold Lif.eligible at h ⊢
  dsimp only
  by_cases hcab : x.frame.toCab = true
  · rw [if_pos hcab] at h ⊢
    rw [if_pos hcab]
    have hside : l.cabSide = some p := of_decide_eq_true (Bool.and_elim_left h)
    have hother : ¬ l.cabSide = some p.other := by
      rw [hside]
      exact fun hp => Port.other_ne p (Option.some.inj hp).symm
    rw [decide_eq_false hother, Bool.false_and, Bool.false_and]
  · rw [if_neg hcab, if_neg hcab, PerPort.get_set_other]

/-- What the other port would start of a queue is the same after a port has begun a frame of it. -/
theorem beginFirst_other {q : List Queued} {r : Queued × List Queued} (h : beginFirst (l.eligible p) p q = some r) :
    (beginFirst (l.eligible p.other) p.other r.2).map (fun r => l.outgoing link r.1) =
      (beginFirst (l.eligible p.other) p.other q).map fun r => l.outgoing link r.1 := by
  induction q generalizing r with
  | nil => cases h
  | cons x q ih =>
    unfold beginFirst at h
    split at h
    · rename_i hx
      cases h
      rw [beginFirst, beginFirst, l.eligible_begun p hx]
      split
      · rfl
      · rw [Option.map_map, Option.map_map]
        rfl
    · obtain ⟨y, hy, rfl⟩ := Option.map_eq_some_iff.1 h
      have hrest := ih hy
      rw [beginFirst, beginFirst]
      split
      · rfl
      · rw [Option.map_map, Option.map_map]
        exact hrest

/-! ## One port -/

theorem Lif.startPort_busy (h : (l.ports.get p).tx ≠ .idle) : l.startPort link p = l := by
  unfold Lif.startPort
  dsimp only
  split
  · exact absurd ‹_› h
  · exact absurd ‹_› h
  · rfl

theorem Lif.startPort_held {b : List Byte} {rest : List (List Byte)} (h : (l.ports.get p).tx = .idle)
    (hheld : (l.ports.get p).held = b :: rest) :
    l.startPort link p = { l with ports := l.ports.set p { l.ports.get p with tx := .sendingHeld b, held := rest } } := by
  simp only [Lif.startPort, h, hheld]

theorem Lif.startPort_none (hheld : (l.ports.get p).held = []) (hnone : beginFirst (l.eligible p) p l.queue = none) :
    l.startPort link p = l := by
  by_cases h : (l.ports.get p).tx = .idle
  · simp only [Lif.startPort, h, hheld, hnone]
  · exact Lif.startPort_busy l link p h

theorem Lif.startPort_some {r : Queued × List Queued} (h : (l.ports.get p).tx = .idle) (hheld : (l.ports.get p).held = [])
    (hsome : beginFirst (l.eligible p) p l.queue = some r) : l.startPort link p = { l with
      queue := r.2
      ports := l.ports.set p { l.ports.get p with tx := .sendingOriginated (l.outgoing link r.1) } } := by
  simp only [Lif.startPort, h, hheld, hsome]

theorem Lif.startPort_quiet (hheld : (l.ports.get p).held = []) (hnone : ∀ q ∈ l.queue, l.eligible p q = false) :
    l.startPort link p = l := Lif.startPort_none l link p hheld (beginFirst_eq_none hnone)

theorem Lif.startPort_originated {before : List Queued} {q : Queued} {rest : List Queued} (h : (l.ports.get p).tx = .idle)
    (hheld : (l.ports.get p).held = []) (hqueue : l.queue = before ++ q :: rest) (hq : l.eligible p q = true)
    (hbefore : ∀ x ∈ before, l.eligible p x = false) :
    l.startPort link p = { l with
      queue := before ++ { q with progress := q.progress.set p .sending } :: rest
      ports := l.ports.set p { l.ports.get p with tx := .sendingOriginated (l.outgoing link q) } } :=
  Lif.startPort_some l link p h hheld (hqueue ▸ beginFirst_append rest hq hbefore)

/-- A port that starts leaves the other one as it was. -/
theorem Lif.startPort_other : (l.startPort link p).ports.get p.other = l.ports.get p.other := by
  unfold Lif.startPort
  dsimp only
  split
  · exact PerPort.get_set_other ..
  · split
    · exact PerPort.get_set_other ..
    · rfl
  · rfl

/-- What a port that holds no frame starts, by the frame it takes from the queue. -/
theorem Lif.startPort_port (h : (l.ports.get p).tx = .idle) (hheld : (l.ports.get p).held = []) :
    (l.startPort link p).ports.get p = ((beginFirst (l.eligible p) p l.queue).map fun r => l.outgoing link r.1).elim
      (l.ports.get p) fun o => { l.ports.get p with tx := .sendingOriginated o } := by
  cases hbegin : beginFirst (l.eligible p) p l.queue with
  | none =>
    rw [Lif.startPort_none l link p hheld hbegin]
    rfl
  | some r =>
    rw [Lif.startPort_some l link p h hheld hbegin]
    exact PerPort.get_set_self ..

/-- A port's starting leaves what the other port would start. -/
theorem Lif.startPort_choice :
    (beginFirst ((l.startPort link p).eligible p.other) p.other (l.startPort link p).queue).map
      (fun r => (l.startPort link p).outgoing link r.1) =
    (beginFirst (l.eligible p.other) p.other l.queue).map fun r => l.outgoing link r.1 := by
  unfold Lif.startPort
  dsimp only
  split
  · rfl
  · split
    · rename_i hbegin
      exact beginFirst_other l link p hbegin
    · rfl
  · rfl

/-- What a port starts after the other one is what it starts by itself. -/
theorem Lif.startPort_after : ((l.startPort link p).startPort link p.other).ports.get p.other =
    (l.startPort link p.other).ports.get p.other := by
  have hport := l.startPort_other link p
  by_cases h : (l.ports.get p.other).tx = .idle
  · cases hheld : (l.ports.get p.other).held with
    | nil =>
      rw [Lif.startPort_port _ link _ (hport ▸ h) (hport ▸ hheld), Lif.startPort_port _ link _ h hheld, Lif.startPort_choice, hport]
    | cons b rest =>
      rw [Lif.startPort_held _ link _ (hport ▸ h) (hport ▸ hheld), Lif.startPort_held _ link _ h hheld, PerPort.get_set_self,
        PerPort.get_set_self, hport]
  · rw [Lif.startPort_busy _ link _ (hport ▸ h), Lif.startPort_busy _ link _ h, hport]

/-- A port that has not changed has started nothing. -/
theorem Lif.startPort_eq_self (h : (l.startPort link p).ports.get p = l.ports.get p) : l.startPort link p = l := by
  by_cases hidle : (l.ports.get p).tx = .idle
  · cases hheld : (l.ports.get p).held with
    | cons b rest =>
      rw [Lif.startPort_held l link p hidle hheld, PerPort.get_set_self] at h
      rw [← h] at hidle
      cases hidle
    | nil =>
      cases hbegin : beginFirst (l.eligible p) p l.queue with
      | none => exact Lif.startPort_none l link p hheld hbegin
      | some r =>
        rw [Lif.startPort_some l link p hidle hheld hbegin, PerPort.get_set_self] at h
        rw [← h] at hidle
        cases hidle
  · exact l.startPort_busy link p hidle

/-! ## Both ports -/

/-- Each port starts as by itself. -/
theorem Lif.start_port : (l.start link).ports.get p = (l.startPort link p).ports.get p := by
  cases p with
  | a => exact Lif.startPort_other _ link .b
  | b => exact l.startPort_after link .a

/-- The queue when one port starts nothing of its own. -/
theorem Lif.start_queue (h : l.startPort link p = l) : (l.start link).queue = (l.startPort link p.other).queue := by
  cases p with
  | a => rw [Lif.start, h]; rfl
  | b =>
    have hquiet : (l.startPort link .a).startPort link .b = l.startPort link .a := by
      refine Lif.startPort_eq_self _ link .b ?_
      have hafter := l.startPort_after link .a
      rw [show Port.other .a = .b from rfl, h] at hafter
      exact hafter.trans (l.startPort_other link .a).symm
    rw [Lif.start, hquiet]
    rfl

end Start
end Sys2Proof.Machine
end

section
/-! The statements about the consist line's receivers and transmitters (R170 to R176). -/

namespace Sys2Proof.Machine

/-! ## The header -/

/-- Whether a frame is relayed and how it is taken, by its kind and dest (R171). -/
def Lif.decision (l : Lif) (dest kind : Nat) : Bool × Option Addressing :=
  if kind = 1 then (false, none) else l.address dest

/-- Where a frame goes (R171, R172). -/
def Lif.routed (l : Lif) (p : Port) (dest kind : Nat) : RelayRoute :=
  if (l.decision dest kind).1 then l.relayRoute p.other else .none

@[simp] theorem PerPort.set_get {α : Type} (q : PerPort α) (p : Port) : q.set p (q.get p) = q := by cases p <;> rfl

/-- The ports with the reception that a header begins. -/
def Lif.received (l : Lif) (p : Port) (dest source kind : Nat) : PerPort PortState :=
  let rx := some ⟨dest, source, kind, l.routed p dest kind, (l.decision dest kind).2⟩
  l.ports.set p { l.ports.get p with rx := rx }

/-- The line record as a header leaves it. -/
def Lif.headed (l : Lif) (p : Port) (dest source kind : Nat) : Lif :=
  let out := l.ports.get p.other
  let tx := if l.routed p dest kind = .direct then Transmitter.relaying else out.tx
  { l with ports := (l.received p dest source kind).set p.other { out with tx := tx } }

theorem Lif.headed_eq (l : Lif) (p : Port) (dest source kind : Nat) : l.headed p dest source kind =
    if l.routed p dest kind = .direct then
      { l with
        ports := (l.received p dest source kind).set p.other
          { (l.received p dest source kind).get p.other with tx := .relaying } }
    else { l with ports := l.received p dest source kind } := by
  have hother : (l.received p dest source kind).get p.other = l.ports.get p.other := PerPort.get_set_other ..
  unfold Lif.headed
  dsimp only
  split
  · rw [hother]
  · rw [← hother]
    exact congrArg (fun ports => ({ l with ports := ports } : Lif)) (PerPort.set_get ..)

theorem frameHeader_eq {p : Port} {c : Car} (hrx : (c.lif.ports.get p).rx = none) (dest source kind : Nat) :
    frameHeader p dest source kind c =
      if c.lif.routed p dest kind = .overrun then
        occur .relayOverrun p.other.number { c with lif := c.lif.headed p dest source kind }
      else { c with lif := c.lif.headed p dest source kind } := by
  have habandon : abandonReception p c = c := by rw [abandonReception, hrx]
  simp only [Lif.headed_eq, frameHeader, habandon]
  rfl

theorem Lif.address_eq {l : Lif} {n : Nat} (h : l.carNumber = some n) (dest : Nat) :
    l.address dest = if dest = n then (false, some .car) else if dest = 255 then (true, some .broadcast)
      else if 16 ≤ dest ∧ dest ≤ 239 ∧ l.groups.any (·.hits dest) then (true, some .group) else (true, none) := by
  simp only [Lif.address, h]

theorem Lif.any_hits_iff (l : Lif) (dest : Nat) : l.groups.any (·.hits dest) = true ↔
    ∃ w ∈ l.groups, w.valid = true ∧ dest &&& w.mask = w.value &&& w.mask := by
  simp only [List.any_eq_true, Window.hits, Bool.and_eq_true, decide_eq_true_eq]
  rfl

/-- Settles O17. -/
theorem frameHeaderDecides : Obligations.FrameHeaderDecides := by
  intro p dest source kind s hr hrx
  have hroute : s.car.lif.routed p dest kind = if (s.car.lif.decision dest kind).1 then s.car.lif.relayRoute p.other else .none :=
    rfl
  refine ⟨(s.car.lif.decision dest kind).1, (s.car.lif.decision dest kind).2, s.car.lif.routed p dest kind, fun hk => ?_, fun hk hn => ?_,
    fun hk n hn => ?_, fun hrelay => ?_, fun hrelay hidle => ?_, fun hrelay hbusy hheld => ?_, fun hrelay hbusy hheld => ?_, ?_⟩
  · rw [Lif.decision, if_pos hk]
    exact ⟨rfl, rfl⟩
  · rw [Lif.decision, if_neg hk, Lif.address]
    simp only [hn, and_self]
  · rw [Lif.decision, if_neg hk, Lif.address_eq hn]
    refine ⟨fun hdest => ?_, fun hdest hall => ?_, fun hdest hlo hhi hgroup => ?_, fun hdest hall hnone => ?_⟩
    · rw [if_pos hdest]
      exact ⟨rfl, rfl⟩
    · rw [if_neg hdest, if_pos hall]
      exact ⟨rfl, rfl⟩
    · rw [if_neg hdest, if_neg (by omega), if_pos ⟨hlo, hhi, (s.car.lif.any_hits_iff dest).2 hgroup⟩]
      exact ⟨rfl, rfl⟩
    · have hno : ¬ (16 ≤ dest ∧ dest ≤ 239 ∧ s.car.lif.groups.any (·.hits dest) = true) := by
        rintro ⟨hlo, hhi, hgroup⟩
        rcases hnone with h | h | h
        · omega
        · omega
        · exact h ((s.car.lif.any_hits_iff dest).1 hgroup)
      rw [if_neg hdest, if_neg hall, if_neg hno]
      exact ⟨rfl, rfl⟩
  · rw [hroute, hrelay]
    rfl
  · rw [hroute, hrelay, if_pos rfl, Lif.relayRoute]
    exact if_pos hidle
  · rw [hroute, hrelay, if_pos rfl, Lif.relayRoute]
    exact (if_neg hbusy).trans (if_pos hheld)
  · rw [hroute, hrelay, if_pos rfl, Lif.relayRoute]
    exact (if_neg hbusy).trans (if_neg (by omega))
  · refine congrArg Host.Outcome.next ((hr.run _).trans (congrArg (State.mk · _) ?_))
    rw [frameHeader_eq hrx]
    have hready : Ready ⟨{ s.car with lif := s.car.lif.headed p dest source kind }, s.pending⟩ :=
      ⟨hr.1, hr.settle_quiet rfl rfl rfl rfl, hr.unreserved⟩
    split
    · exact hready.settle_occur ..
    · exact hready.settled

end Sys2Proof.Machine
end

section
/-! What the end of a frame, the end of a transmission and a roll call leave on the line (R171, R172, R174, R175). -/

namespace Sys2Proof.Machine

/-! ## Traffic: changes of the ports and the queue alone -/

/-- Two line records that differ in their ports and their queue alone. -/
def Lif.Traffic (l m : Lif) : Prop := m = { l with ports := m.ports, queue := m.queue }

theorem Lif.Traffic.refl (l : Lif) : l.Traffic l := rfl

theorem Lif.Traffic.trans {l m n : Lif} (h : l.Traffic m) (k : m.Traffic n) : l.Traffic n := by
  unfold Lif.Traffic at *
  rw [h] at k
  exact k

section Line
variable (l : Lif) (link : LinkState)

theorem Lif.startPort_traffic (p : Port) : l.Traffic (l.startPort link p) := by
  unfold Lif.startPort
  dsimp only
  split
  · rfl
  · split <;> rfl
  · rfl

theorem Lif.start_traffic : l.Traffic (l.start link) := (l.startPort_traffic link .a).trans (Lif.startPort_traffic _ link .b)

theorem Lif.closeRelay_traffic (p : Port) (r : Reception) (v : Verdict) (bytes : List Byte) :
    l.Traffic (l.closeRelay link p r v bytes) := by
  have hports (ports : PerPort PortState) : l.Traffic { l with ports := ports } := rfl
  unfold Lif.closeRelay
  dsimp only
  split
  · exact (hports _).trans (Lif.start_traffic _ link)
  · split
    · exact (hports _).trans (Lif.start_traffic _ link)
    · exact hports _
  · exact hports _

/-- What a port starts of an originated frame, in the words of the frame's kind (R174, R175). -/
theorem Lif.outgoing_eq (q : Queued) : l.outgoing link q =
    ⟨q.frame, if q.frame.kind = 48 then l.carNumber.getD 0 else q.source, if q.frame.kind = 45 then some link else none,
      q.frame.bytes (if q.frame.kind = 48 then l.carNumber.getD 0 else q.source) link⟩ := by
  have hreply : q.frame.isReply = true ↔ q.frame.kind = 48 := by cases q.frame <;> simp [Frame.isReply, Frame.kind]
  have hstatus : q.frame.isRadioStatus = true ↔ q.frame.kind = 45 := beq_iff_eq
  simp only [Lif.outgoing, hreply, hstatus]
  rfl

theorem Lif.eligible_eq_false_iff (p : Port) (q : Queued) : l.eligible p q = false ↔
    ¬ (((q.frame.kind = 48 ∨ q.frame.kind = 49) ∧ l.cabSide = some p ∧ q.progress = ⟨.waiting, .waiting⟩) ∨
      (¬ (q.frame.kind = 48 ∨ q.frame.kind = 49) ∧ q.progress.get p = .waiting)) := by
  rw [← Bool.not_eq_true, l.eligible_iff]

end Line

/-! ## The relay side of a frame's end -/

theorem PerPort.get_set_of_other {α : Type} (q : PerPort α) (p : Port) (x : α) : (q.set p.other x).get p = q.get p :=
  PerPort.get_set_ne _ _ (Port.other_ne p).symm

/-- The line record with the reception of a port over. -/
def Lif.ended (l : Lif) (p : Port) : Lif := { l with ports := l.ports.set p { l.ports.get p with rx := none } }

/-- The line record with a frame received into a hold buffer of a port. -/
def Lif.holding (l : Lif) (p : Port) (bytes : List Byte) : Lif :=
  { l with ports := l.ports.set p { l.ports.get p with held := (l.ports.get p).held ++ [bytes] } }

section Ended
variable (l : Lif) (link : LinkState) (p : Port)

theorem Lif.ended_port : (l.ended p).ports.get p = { l.ports.get p with rx := none } := PerPort.get_set_self ..

theorem Lif.ended_other : (l.ended p).ports.get p.other = l.ports.get p.other := PerPort.get_set_other ..

theorem Lif.release_port (closing : Closing) :
    (l.release p closing).ports.get p = { l.ports.get p with tx := .idle, lastClosing := some closing } := PerPort.get_set_self ..

theorem Lif.release_other (closing : Closing) : (l.release p.other closing).ports.get p = l.ports.get p :=
  PerPort.get_set_of_other ..

variable {r : Reception} {v : Verdict} {bytes : List Byte}

theorem Lif.closeRelay_direct (h : r.route = .direct) : l.closeRelay link p r v bytes =
    ((l.ended p).release p.other (if v = .wellFormed then .endSymbol else .abortSymbol)).start link := by
  simp only [Lif.closeRelay, h]
  rfl

theorem Lif.closeRelay_held (h : r.route = .held) (hv : v = .wellFormed) : l.closeRelay link p r v bytes =
    Lif.start ((l.ended p).holding p.other bytes) link := by
  simp only [Lif.closeRelay, h, hv, if_true]
  rfl

theorem Lif.holding_port : ((l.ended p).holding p.other bytes).ports.get p = { l.ports.get p with rx := none } :=
  (PerPort.get_set_of_other ..).trans (l.ended_port p)

theorem Lif.holding_other : ((l.ended p).holding p.other bytes).ports.get p.other =
    { l.ports.get p.other with held := (l.ports.get p.other).held ++ [bytes] } := by
  rw [← l.ended_other p]
  exact PerPort.get_set_self ..

theorem Lif.closeRelay_unheld (h : r.route = .held) (hv : v ≠ .wellFormed) : l.closeRelay link p r v bytes = l.ended p := by
  simp only [Lif.closeRelay, h, hv, if_false]
  rfl

theorem Lif.closeRelay_unrelayed (h : r.route = .none ∨ r.route = .overrun) : l.closeRelay link p r v bytes = l.ended p := by
  rcases h with h | h <;>
  · simp only [Lif.closeRelay, h]
    rfl

/-- The line record of a closed relay before the ports start their next frames: the receiving port has ended its reception. -/
theorem Lif.closeRelay_before : ∃ n : Lif, (l.closeRelay link p r v bytes = n.start link ∨ l.closeRelay link p r v bytes = n) ∧
    n.ports.get p = { l.ports.get p with rx := none } ∧ n.queue = l.queue ∧ n.cabSide = l.cabSide := by
  have hended := l.ended_port p
  cases hroute : r.route with
  | direct =>
    exact ⟨_, .inl (l.closeRelay_direct link p hroute), (Lif.release_other ..).trans hended, rfl, rfl⟩
  | held =>
    by_cases hv : v = .wellFormed
    · exact ⟨_, .inl (l.closeRelay_held link p hroute hv), l.holding_port p, rfl, rfl⟩
    · exact ⟨_, .inr (l.closeRelay_unheld link p hroute hv), hended, rfl, rfl⟩
  | none => exact ⟨_, .inr (l.closeRelay_unrelayed link p (.inl hroute)), hended, rfl, rfl⟩
  | overrun => exact ⟨_, .inr (l.closeRelay_unrelayed link p (.inr hroute)), hended, rfl, rfl⟩

theorem Lif.closeRelay_rx : ((l.closeRelay link p r v bytes).ports.get p).rx = none := by
  obtain ⟨n, hn, hport, -, -⟩ := l.closeRelay_before link p (r := r) (v := v) (bytes := bytes)
  rcases hn with hn | hn <;> rw [hn]
  · rw [Lif.start_rx, hport]
  · rw [hport]

/-- The receiving port when it starts nothing of its own. -/
theorem Lif.closeRelay_port (hquiet : ∀ n : Lif, n.ports.get p = { l.ports.get p with rx := none } → n.queue = l.queue →
    n.cabSide = l.cabSide → n.startPort link p = n) :
    (l.closeRelay link p r v bytes).ports.get p = { l.ports.get p with rx := none } := by
  obtain ⟨n, hn, hport, hqueue, hcab⟩ := l.closeRelay_before link p (r := r) (v := v) (bytes := bytes)
  rcases hn with hn | hn <;> rw [hn]
  · rw [Lif.start_port, hquiet n hport hqueue hcab, hport]
  · exact hport

end Ended

/-- A frame's end that hands on no copy (R171): its relay side, and LINE_CHECK_ERROR for a bad copy. -/
theorem exec_frameEnd_dropped {s : State} {p : Port} {r : Reception} (hr : Ready s) (hk : r.kind ≠ 1)
    (hrx : (s.car.lif.ports.get p).rx = some r) {closing : Closing} {rest : List Byte}
    (h : verdict closing (r.bytes rest) ≠ .wellFormed ∨ r.copy = none) :
    ∃ t, exec (.lineFrameEnd p closing rest) s = .next t ∧ t.pending = s.pending ∧
      t.car = { s.car.relayed p r (verdict closing (r.bytes rest)) (r.bytes rest) with evr := t.car.evr, vrl := t.car.vrl } ∧
      (verdict closing (r.bytes rest) = .bad → r.copy ≠ none →
        t.car.evr = s.car.evr.take s.car.now .lineCheckError (256 * p.number + 1) ∧
        t.car.vrl = alarmed s.car .lineCheckError (256 * p.number + 1)) ∧
      (verdict closing (r.bytes rest) ≠ .bad ∨ r.copy = none → t.car.evr = s.car.evr ∧ t.car.vrl = s.car.vrl) := by
  cases hcopy : r.copy with
  | none =>
    exact ⟨_, exec_frameEnd_uncopied hr hrx closing rest hk hcopy, rfl, rfl, fun _ hn => absurd rfl hn, fun _ => ⟨rfl, rfl⟩⟩
  | some a =>
    have hexec := exec_frameEnd_copied hr hrx closing rest hk hcopy
    generalize verdict closing (r.bytes rest) = v at h hexec ⊢
    have hrelayed := hr.relayed p r v (r.bytes rest)
    cases v with
    | wellFormed => exact absurd h (by simp [hcopy])
    | aborted =>
      rw [copyEnd, hrelayed.settled] at hexec
      exact ⟨_, hexec, rfl, rfl, nofun, fun _ => ⟨rfl, rfl⟩⟩
    | bad =>
      rw [copyEnd, hrelayed.settle_occur] at hexec
      have hl : s.car.lif.SameCar (s.car.lif.closeRelay s.car.vrl.link p r .bad (r.bytes rest)) :=
        (Lif.closeRelay_steady ..).sameCar
      have halarm := congrArg Car.vrl (occur_withLif hl .lineCheckError (256 * p.number + 1))
      exact ⟨_, hexec, rfl, rfl, fun _ _ => ⟨rfl, halarm⟩, fun hn => absurd hn (by simp)⟩

/-- Settles O18: each port of the line record is judged by itself after the relay side is closed. -/
theorem frameEndClosesTheRelay : Obligations.FrameEndClosesTheRelay := by
  intro p closing rest r s hr hk hrx bytes v own out symbol toCab goes source quiet hdrop
  obtain ⟨t, hexec, hpending, hcar, hbad, hgood⟩ := exec_frameEnd_dropped hr hk hrx hdrop
  generalize hl : s.car.lif.closeRelay s.car.vrl.link p r v bytes = l
  have hlif : t.car.lif = l := by
    rw [hcar]
    exact hl
  have hquietPort (hq : quiet) (m : Lif) (hport : m.ports.get p = { own with rx := none }) (hqueue : m.queue = s.car.lif.queue)
      (hcab : m.cabSide = s.car.lif.cabSide) : m.startPort s.car.vrl.link p = m := by
    rcases hq with hbusy | ⟨hempty, hnone⟩
    · exact Lif.startPort_busy _ _ _ (hport ▸ hbusy)
    · refine Lif.startPort_quiet _ _ _ (hport ▸ hempty) fun q hmem => ?_
      rw [Lif.eligible_eq_false_iff, hcab]
      exact hnone q (hqueue ▸ hmem)
  have htraffic : s.car.lif.Traffic l := hl ▸ Lif.closeRelay_traffic ..
  -- the relay side of a frame relayed as it arrived, before the ports start their next frames
  generalize hm : (s.car.lif.ended p).release p.other (if v = .wellFormed then .endSymbol else .abortSymbol) = m
  have hmOwn : m.ports.get p = { own with rx := none } := by rw [← hm, Lif.release_other, Lif.ended_port]
  have hmOut : m.ports.get p.other = { out with tx := .idle, lastClosing := symbol } := by
    rw [← hm, Lif.release_port, Lif.ended_other]
  have hmQueue : m.queue = s.car.lif.queue := by rw [← hm]; rfl
  have hmCab : m.cabSide = s.car.lif.cabSide := by rw [← hm]; rfl
  have hmNumber : m.carNumber = s.car.lif.carNumber := by rw [← hm]; rfl
  have hdirect (h : r.route = .direct) : l = m.start s.car.vrl.link := by
    rw [← hl, Lif.closeRelay_direct _ _ _ h, hm]
  have hmQuiet (hq : quiet) : m.startPort s.car.vrl.link p = m := hquietPort hq m hmOwn hmQueue hmCab
  have hdirectQueue (h : r.route = .direct) (hq : quiet) : l.queue = (m.startPort s.car.vrl.link p.other).queue := by
    rw [hdirect h, Lif.start_queue m _ p (hmQuiet hq)]
  have hdirectPort (h : r.route = .direct) : l.ports.get p.other = (m.startPort s.car.vrl.link p.other).ports.get p.other := by
    rw [hdirect h, Lif.start_port]
  refine ⟨t, hexec, hpending, ?_, fun hq => ?_, fun h b q hheld => ?_, fun h hheld hnone => ?_,
    fun h hheld before q rest' hqueue hgoes hbefore => ?_, fun h hbusy hq => ?_, fun h => ?_, ?_, fun h hbusy => ?_, fun h => ?_, ?_,
    hbad, hgood⟩
  · rw [hlif, ← hl, Lif.closeRelay_rx]
  · rw [hlif, ← hl]
    exact Lif.closeRelay_port _ _ _ (hquietPort hq)
  · have hstart := Lif.startPort_held m s.car.vrl.link p.other (by rw [hmOut]) (by rw [hmOut]; exact hheld)
    rw [hlif]
    refine ⟨?_, fun hq => ?_⟩
    · rw [hdirectPort h, hstart, PerPort.get_set_self, hmOut]
    · rw [hdirectQueue h hq, hstart]
      exact hmQueue
  · have hstart := Lif.startPort_quiet m s.car.vrl.link p.other (by rw [hmOut]; exact hheld) fun q hmem => by
      rw [Lif.eligible_eq_false_iff, hmCab]
      exact hnone q (hmQueue ▸ hmem)
    rw [hlif]
    refine ⟨?_, fun hq => ?_⟩
    · rw [hdirectPort h, hstart, hmOut]
    · rw [hdirectQueue h hq, hstart, hmQueue]
  · have hstart := Lif.startPort_originated m s.car.vrl.link p.other (by rw [hmOut]) (by rw [hmOut]; exact hheld)
      (hmQueue.trans hqueue) ((m.eligible_iff p.other q).2 (hmCab ▸ hgoes)) fun x hx => by
        rw [Lif.eligible_eq_false_iff, hmCab]
        exact hbefore x hx
    rw [hlif]
    refine ⟨?_, fun hq => ?_⟩
    · rw [hdirectPort h, hstart, PerPort.get_set_self, hmOut, Lif.outgoing_eq, hmNumber]
    · rw [hdirectQueue h hq, hstart]
  · rw [hlif, ← hl]
    by_cases hv : v = .wellFormed
    · rw [Lif.closeRelay_held _ _ _ h hv, Lif.start_queue _ _ p (hquietPort hq _ (Lif.holding_port ..) rfl rfl),
        Lif.startPort_busy _ _ _ (by rw [Lif.holding_other]; exact hbusy)]
      rfl
    · rw [Lif.closeRelay_unheld _ _ _ h hv]
      rfl
  · rw [hlif, ← hl, Lif.closeRelay_unrelayed _ _ _ h]
    rfl
  · rw [hlif, ← hl, Lif.closeRelay_frames]
  · rw [hlif, ← hl]
    by_cases hv : v = .wellFormed
    · rw [Lif.closeRelay_held _ _ _ h hv, Lif.start_port, Lif.startPort_busy _ _ _ (by rw [Lif.holding_other]; exact hbusy),
        Lif.holding_other, if_pos hv]
    · rw [Lif.closeRelay_unheld _ _ _ h hv, Lif.ended_other, if_neg hv]
  · rw [hlif, ← hl, Lif.closeRelay_unrelayed _ _ _ h, Lif.ended_other]
  · have hfields : l = { s.car.lif with ports := t.car.lif.ports, queue := t.car.lif.queue } := by
      rw [hlif]
      exact htraffic
    rw [← hfields, ← hl]
    exact hcar

end Sys2Proof.Machine
end

section
/-! The end of a transmission and a roll call (R172 to R175). -/

namespace Sys2Proof.Machine

theorem Frame.toCab_iff (f : Frame) : f.toCab = true ↔ (f.kind = 48 ∨ f.kind = 49) := by
  cases f <;> simp [Frame.toCab, Frame.kind]

theorem Queued.complete_iff (q : Queued) : q.complete = true ↔
    ((q.frame.kind = 48 ∨ q.frame.kind = 49) ∧ (q.progress.a = .sent ∨ q.progress.b = .sent)) ∨
    (q.progress.a = .sent ∧ q.progress.b = .sent) := by
  unfold Queued.complete
  by_cases h : q.frame.toCab = true
  · rw [if_pos h]
    simp only [q.frame.toCab_iff.1 h, true_and, Bool.or_eq_true, beq_iff_eq]
    exact ⟨.inl, fun hsent => hsent.elim id fun hboth => .inl hboth.1⟩
  · rw [if_neg h]
    simp only [mt q.frame.toCab_iff.2 h, false_and, false_or, Bool.and_eq_true, beq_iff_eq]

theorem PerPort.ext {α : Type} {q r : PerPort α} (h : ∀ p, q.get p = r.get p) : q = r := by
  have ha : q.a = r.a := h .a
  have hb : q.b = r.b := h .b
  cases q
  cases r
  dsimp only at ha hb
  rw [ha, hb]

section Line
variable (l : Lif) (link : LinkState) (p : Port)

theorem Lif.startPort_lastClosing : ((l.startPort link p).ports.get p).lastClosing = (l.ports.get p).lastClosing := by
  unfold Lif.startPort
  dsimp only
  split
  · rw [PerPort.get_set_self]
  · split
    · rw [PerPort.get_set_self]
    · rfl
  · rfl

/-- The queue once a port has finished the frame it was sending of it (R174). -/
def Lif.finished (l : Lif) (p : Port) : Lif := { l with queue := (l.queue.map (finishOn p)).filter fun q => !q.complete }

/-- The line record at the end of a transmission, before the ports start their next frames. -/
def Lif.sent (l : Lif) (p : Port) : Lif :=
  match (l.ports.get p).tx with
  | .sendingOriginated _ => (l.finished p).release p .endSymbol
  | _ => l.release p .endSymbol

theorem Lif.transmitDone_quiet (h : (l.ports.get p).tx = .idle ∨ (l.ports.get p).tx = .relaying) : l.transmitDone link p = l := by
  rcases h with h | h <;> simp only [Lif.transmitDone, h]

theorem Lif.sent_held {bytes : List Byte} (h : (l.ports.get p).tx = .sendingHeld bytes) : l.sent p = l.release p .endSymbol := by
  simp only [Lif.sent, h]

theorem Lif.sent_originated {out : Outgoing} (h : (l.ports.get p).tx = .sendingOriginated out) :
    l.sent p = (l.finished p).release p .endSymbol := by
  simp only [Lif.sent, h]

theorem Lif.transmitDone_sent (h : (∃ bytes, (l.ports.get p).tx = .sendingHeld bytes) ∨
    ∃ out, (l.ports.get p).tx = .sendingOriginated out) : l.transmitDone link p = (l.sent p).start link := by
  rcases h with ⟨bytes, h⟩ | ⟨out, h⟩
  · rw [Lif.sent_held l p h]
    simp only [Lif.transmitDone, h]
  · rw [Lif.sent_originated l p h]
    simp only [Lif.transmitDone, h]
    rfl

theorem Lif.sent_port : (l.sent p).ports.get p = { l.ports.get p with tx := .idle, lastClosing := some .endSymbol } := by
  unfold Lif.sent
  split <;> exact Lif.release_port ..

theorem Lif.sent_other : (l.sent p).ports.get p.other = l.ports.get p.other := by
  unfold Lif.sent
  split <;> exact PerPort.get_set_other ..

theorem Lif.sent_traffic : l.Traffic (l.sent p) := by
  unfold Lif.sent
  split <;> rfl

end Line

/-- Settles O19: the port's next frame is what it starts of the queue that the frame sent leaves. -/
theorem transmitDoneStartsTheNext : Obligations.TransmitDoneStartsTheNext := by
  refine ⟨?done, ?placed⟩
  case done =>
    intro p s hr ps other finished toCab everywhere goes source
    have hexec : exec (.lineTransmitDone p) s = .next ⟨{ s.car with lif := s.car.lif.transmitDone s.car.vrl.link p }, s.pending⟩ :=
      congrArg Host.Outcome.next ((hr.run _).trans (congrArg (State.mk · _) (hr.settle_quiet rfl rfl rfl rfl)))
    refine ⟨fun h => ?_, fun h => ?_⟩
    · rw [hexec, Lif.transmitDone_quiet _ _ _ h]
    · rw [Lif.transmitDone_sent _ _ _ h] at hexec
      have htraffic := s.car.lif.sent_traffic p
      have hport := s.car.lif.sent_port p
      have hother := s.car.lif.sent_other p
      have hheldQueue (h : ∃ bytes, ps.tx = .sendingHeld bytes) : (s.car.lif.sent p).queue = s.car.lif.queue := by
        obtain ⟨bytes, h⟩ := h
        rw [Lif.sent_held _ _ h]
        rfl
      have hsentQueue (h : ∃ out, ps.tx = .sendingOriginated out) :
          (s.car.lif.sent p).queue = (s.car.lif.queue.map finished).filter fun q => !q.complete := by
        obtain ⟨out, h⟩ := h
        rw [Lif.sent_originated _ _ h]
        rfl
      generalize s.car.lif.sent p = m at hexec htraffic hport hother hheldQueue hsentQueue
      have hcab : m.cabSide = s.car.lif.cabSide := by rw [htraffic]
      have hnumber : m.carNumber = s.car.lif.carNumber := by rw [htraffic]
      have hqueue (hbusy : other.tx ≠ .idle) : (m.start s.car.vrl.link).queue = (m.startPort s.car.vrl.link p).queue := by
        have hquiet := Lif.start_queue m s.car.vrl.link p.other (Lif.startPort_busy _ _ _ (hother ▸ hbusy))
        rwa [Port.other_other] at hquiet
      refine ⟨_, m.queue, hexec, rfl, ?_, hheldQueue, fun h => ⟨Queued.complete_iff, hsentQueue h⟩, m.start_frames _, ?_, ?_,
        fun hbusy => ?_, fun b rest hheld => ?_, fun hheld => ?_⟩
      · have hstart := htraffic.trans (m.start_traffic s.car.vrl.link)
        show ({ s.car with lif := m.start s.car.vrl.link } : Car) = _
        exact congrArg (fun l => ({ s.car with lif := l } : Car)) hstart
      · show ((m.start s.car.vrl.link).ports.get p).lastClosing = _
        rw [Lif.start_port, Lif.startPort_lastClosing, hport]
      · show ((m.start s.car.vrl.link).ports.get p).rx = _
        rw [Lif.start_rx, hport]
      · show (m.start s.car.vrl.link).ports.get p.other = _
        rw [Lif.start_port, Lif.startPort_busy _ _ _ (hother ▸ hbusy), hother]
      · have hstart := Lif.startPort_held m s.car.vrl.link p (by rw [hport]) (by rw [hport]; exact hheld)
        show ((m.start s.car.vrl.link).ports.get p).tx = _ ∧ ((m.start s.car.vrl.link).ports.get p).held = _ ∧
          (_ → (m.start s.car.vrl.link).queue = _)
        rw [Lif.start_port, hstart, PerPort.get_set_self]
        exact ⟨rfl, rfl, fun hbusy => by rw [hqueue hbusy, hstart]⟩
      · have hidle : (m.ports.get p).tx = .idle := by rw [hport]
        have hnone : (m.ports.get p).held = [] := by
          rw [hport]
          exact hheld
        show ((m.start s.car.vrl.link).ports.get p).held = _ ∧ (_ → ((m.start s.car.vrl.link).ports.get p).tx = _) ∧ _
        refine ⟨?_, fun hgo => ?_, fun before q rest hq hgo hbefore => ?_⟩
        · rw [Lif.start_port, Lif.startPort_port _ _ _ hidle hnone]
          cases (beginFirst (m.eligible p) p m.queue).map fun r => m.outgoing s.car.vrl.link r.1 <;> exact hnone
        · rw [Lif.start_port, Lif.startPort_quiet _ _ _ hnone fun q hmem => ?_, hidle]
          rw [Lif.eligible_eq_false_iff, hcab]
          exact hgo q hmem
        · have hstart := Lif.startPort_originated m s.car.vrl.link p hidle hnone hq ((m.eligible_iff p q).2 (hcab ▸ hgo))
            fun x hx => by
              rw [Lif.eligible_eq_false_iff, hcab]
              exact hbefore x hx
          show ((m.start s.car.vrl.link).ports.get p).tx = _ ∧ (_ → (m.start s.car.vrl.link).queue = _)
          rw [Lif.start_port, hstart, PerPort.get_set_self, Lif.outgoing_eq, hnumber]
          exact ⟨rfl, fun hbusy => by rw [hqueue hbusy, hstart]⟩
  case placed =>
    intro l link f hempty hports number out m
    generalize hn : ({ l with queue := [Queued.fresh f number] } : Lif) = n
    have hm : m = n.start link := by
      rw [← hn]
      show Lif.start { l with queue := l.queue ++ [Queued.fresh f number] } link = _
      rw [hempty]
      rfl
    have hport (p : Port) : n.ports.get p = l.ports.get p := by rw [← hn]
    have hqueue : n.queue = [] ++ Queued.fresh f number :: [] := by
      rw [← hn]
      rfl
    have hcab : n.cabSide = l.cabSide := by rw [← hn]
    have hout : n.outgoing link (Queued.fresh f number) = out := by
      have hnumber : n.carNumber.getD 0 = number := by rw [← hn]
      have hsource : (if (Queued.fresh f number).frame.kind = 48 then n.carNumber.getD 0 else (Queued.fresh f number).source) =
          number := by rw [hnumber]; exact ite_self _
      rw [Lif.outgoing_eq, hsource]
      rfl
    have hidle (p : Port) : (n.ports.get p).tx = .idle := by
      rw [hport]
      exact (hports p).1
    have hheld (p : Port) : (n.ports.get p).held = [] := by
      rw [hport]
      exact (hports p).2
    have hfresh (p : Port) : (Queued.fresh f number).progress.get p = .waiting := by cases p <;> rfl
    have hstarts (p : Port) (h : n.eligible p (Queued.fresh f number) = true) :
        (m.ports.get p).tx = .sendingOriginated out := by
      have hstart := Lif.startPort_originated n link p (hidle p) (hheld p) hqueue h (List.forall_mem_nil _)
      rw [hm, Lif.start_port, hstart, PerPort.get_set_self, hout]
    have hrests (p : Port) (h : n.eligible p (Queued.fresh f number) = false) : m.ports.get p = l.ports.get p := by
      have hall : ∀ q ∈ n.queue, n.eligible p q = false := by
        intro q hq
        rw [hqueue] at hq
        rwa [List.mem_singleton.1 hq]
      rw [hm, Lif.start_port, Lif.startPort_quiet n link p (hheld p) hall, hport]
    refine ⟨?_, fun h48 h49 p => hstarts p ?_, fun hkind => ⟨fun p hp => ⟨hstarts p ?_, ?_⟩, fun hnone => ?_⟩⟩
    · rw [hm, Lif.start_frames, Lif.frames, hqueue]
      rfl
    · rw [Lif.eligible_iff]
      exact .inr ⟨not_or.2 ⟨h48, h49⟩, hfresh p⟩
    · rw [Lif.eligible_iff]
      exact .inl ⟨hkind, hcab.trans hp, rfl⟩
    · rw [hrests p.other]
      · exact (hports _).1
      · rw [Lif.eligible_eq_false_iff, hcab, hp]
        rintro (⟨-, hside, -⟩ | ⟨hother, -⟩)
        · exact Port.other_ne p (Option.some.inj hside).symm
        · exact hother hkind
    · have hquiet (p : Port) : m.ports.get p = l.ports.get p := by
        refine hrests p ?_
        rw [Lif.eligible_eq_false_iff, hcab, hnone]
        rintro (⟨-, hside, -⟩ | ⟨hother, -⟩)
        · cases hside
        · exact hother hkind
      exact PerPort.ext hquiet

/-! ## Roll call -/

/-- The part with a ROLL CALL judged by its hop (R175), before the frame is relayed. -/
def rolled (p : Port) (hop : Nat) (c : Car) : Car :=
  if hop ≤ 7 then
    if c.lif.carNumber = none ∨ (c.odo.standstill && !c.brk.faultStop) then
      { c with lif := { c.lif with carNumber := some (hop + 1), cabSide := some p } }
    else occur .lineCheckError (256 * p.number + 3) c
  else occur .lineCheckError (256 * p.number + 4)
    (if c.odo.standstill && !c.brk.faultStop then { c with lif := { c.lif with carNumber := none } } else c)

/-- The part with the frame relayed, and what each port starts then. -/
def rolledOn (p : Port) (bytes : List Byte) (c : Car) : Car :=
  { relayRollCall p bytes c with lif := (relayRollCall p bytes c).lif.start (relayRollCall p bytes c).vrl.link }

theorem rollCall_eq (p : Port) (dest source hop seq : Nat) (payload : List Byte) (c : Car) :
    rollCall p dest source hop seq payload c =
      rolledOn p (frameBytes dest source 1 (if hop ≤ 7 then hop + 1 else hop) seq payload) (rolled p hop c) := rfl

section Rolled
variable (p : Port) (bytes : List Byte) (c : Car)

/-- The frame takes a hold buffer of the other port while that port has one free. -/
theorem rolledOn_held (h : (c.lif.ports.get p.other).held.length < 2) : rolledOn p bytes c =
    { c with lif := ((c.lif.holding p.other bytes).start c.vrl.link).start c.vrl.link } := by
  have hrelay : relayRollCall p bytes c = { c with lif := (c.lif.holding p.other bytes).start c.vrl.link } := if_pos h
  rw [rolledOn, hrelay]

theorem rolledOn_full (h : 2 ≤ (c.lif.ports.get p.other).held.length) : rolledOn p bytes c =
    { occur .relayOverrun p.other.number c with lif := c.lif.start c.vrl.link } := by
  have hrelay : relayRollCall p bytes c = occur .relayOverrun p.other.number c := if_neg (by omega)
  rw [rolledOn, hrelay, (occur_sameLink ..).link]
  rfl

theorem Lif.holding_traffic (l : Lif) (p : Port) (bytes : List Byte) : l.Traffic (l.holding p bytes) := rfl

theorem rolledOn_traffic : c.lif.Traffic (rolledOn p bytes c).lif := by
  by_cases h : (c.lif.ports.get p.other).held.length < 2
  · rw [rolledOn_held p bytes c h]
    exact ((c.lif.holding_traffic ..).trans (Lif.start_traffic ..)).trans (Lif.start_traffic ..)
  · rw [rolledOn_full p bytes c (by omega)]
    exact Lif.start_traffic ..

theorem rolledOn_frames : (rolledOn p bytes c).lif.frames = c.lif.frames := by
  by_cases h : (c.lif.ports.get p.other).held.length < 2
  · rw [rolledOn_held p bytes c h]
    exact (Lif.start_frames ..).trans (Lif.start_frames ..)
  · rw [rolledOn_full p bytes c (by omega)]
    exact Lif.start_frames ..

theorem Lif.holding_out (l : Lif) : (l.holding p.other bytes).ports.get p.other =
    { l.ports.get p.other with held := (l.ports.get p.other).held ++ [bytes] } := PerPort.get_set_self ..

/-- The other port while it sends: it keeps sending, with the frame held when a buffer is free. -/
theorem rolledOn_busy (hbusy : (c.lif.ports.get p.other).tx ≠ .idle) : (rolledOn p bytes c).lif.ports.get p.other =
    if (c.lif.ports.get p.other).held.length < 2 then
      { c.lif.ports.get p.other with held := (c.lif.ports.get p.other).held ++ [bytes] }
    else c.lif.ports.get p.other := by
  split
  · rename_i h
    have hfirst : ((c.lif.holding p.other bytes).start c.vrl.link).ports.get p.other =
        { c.lif.ports.get p.other with held := (c.lif.ports.get p.other).held ++ [bytes] } := by
      rw [Lif.start_port, Lif.startPort_busy _ _ _ (by rw [Lif.holding_out]; exact hbusy), Lif.holding_out]
    rw [rolledOn_held p bytes c h]
    show (Lif.start ((c.lif.holding p.other bytes).start c.vrl.link) c.vrl.link).ports.get p.other = _
    rw [Lif.start_port, Lif.startPort_busy _ _ _ (by rw [hfirst]; exact hbusy), hfirst]
  · rename_i h
    rw [rolledOn_full p bytes c (by omega)]
    show (c.lif.start c.vrl.link).ports.get p.other = _
    rw [Lif.start_port, Lif.startPort_busy _ _ _ hbusy]

/-- The other port while it sends and holds nothing: it begins the frame. -/
theorem rolledOn_idle (hidle : (c.lif.ports.get p.other).tx = .idle) (hheld : (c.lif.ports.get p.other).held = []) :
    ((rolledOn p bytes c).lif.ports.get p.other).tx = .sendingHeld bytes := by
  have hout := Lif.holding_out p bytes c.lif
  have hfirst : (((c.lif.holding p.other bytes).start c.vrl.link).ports.get p.other).tx = .sendingHeld bytes := by
    rw [Lif.start_port, Lif.startPort_held (rest := []) _ _ _ (by rw [hout]; exact hidle) (by rw [hout, hheld]; rfl),
      PerPort.get_set_self]
  rw [rolledOn_held p bytes c (by rw [hheld]; exact Nat.zero_lt_two)]
  show ((Lif.start ((c.lif.holding p.other bytes).start c.vrl.link) c.vrl.link).ports.get p.other).tx = _
  rw [Lif.start_port, Lif.startPort_busy _ _ _ (by rw [hfirst]; exact nofun), hfirst]

end Rolled

/-- Settles O20: the judgement by the hop, then what the relayed frame does to the other port. -/
theorem rollCallNumbersTheCar : Obligations.RollCallNumbersTheCar := by
  intro p dest source hop seq s hr free ps bytes
  have hfree : (s.car.odo.standstill && !s.car.brk.faultStop) = true ↔ free := by
    simp only [Bool.and_eq_true, Bool.not_eq_true']
    rfl
  generalize hc : rolled p hop s.car = c
  -- what the judgement leaves: the number and the side, the flag of LINE_CHECK_ERROR, and the rest as it was
  have hcar : c = { s.car with lif := c.lif, evr := c.evr, vrl := c.vrl } := by
    rw [← hc, rolled]
    split_ifs <;> rfl
  have hlif : c.lif = { s.car.lif with carNumber := c.lif.carNumber, cabSide := c.lif.cabSide } := by
    rw [← hc, rolled]
    split_ifs <;> rfl
  have htaken (hhop : hop ≤ 7) (h : s.car.lif.carNumber = none ∨ free) :
      c = { s.car with lif := { s.car.lif with carNumber := some (hop + 1), cabSide := some p } } := by
    rw [← hc, rolled, if_pos hhop, if_pos (by rwa [hfree])]
  have hkept (hhop : hop ≤ 7) (hn : s.car.lif.carNumber ≠ none) (h : ¬ free) :
      c = occur .lineCheckError (256 * p.number + 3) s.car := by
    rw [← hc, rolled, if_pos hhop, if_neg (by rw [hfree]; exact not_or.2 ⟨hn, h⟩)]
  have hpast (hhop : 8 ≤ hop) : c = occur .lineCheckError (256 * p.number + 4)
      (if s.car.odo.standstill && !s.car.brk.faultStop then { s.car with lif := { s.car.lif with carNumber := none } } else s.car) := by
    rw [← hc, rolled, if_neg (by omega)]
  have hpastEvr (hhop : 8 ≤ hop) : c.evr = s.car.evr.take s.car.now .lineCheckError (256 * p.number + 4) := by
    rw [hpast hhop]
    split <;> rfl
  have hports : c.lif.ports = s.car.lif.ports := by rw [hlif]
  have hnow : c.now = s.car.now := by rw [hcar]
  have hout : c.lif.ports.get p.other = ps := by rw [hports]
  have htraffic := rolledOn_traffic p bytes c
  have hend : rolledOn p bytes c = { s.car with
      lif := (rolledOn p bytes c).lif, evr := (rolledOn p bytes c).evr, vrl := (rolledOn p bytes c).vrl } := by
    by_cases h : (c.lif.ports.get p.other).held.length < 2
    · rw [rolledOn_held p bytes c h, hcar]
    · rw [rolledOn_full p bytes c (by omega), hcar]
      rfl
  have hexec : exec (.rollCall p dest source hop seq) s = .next ⟨rolledOn p bytes c, s.pending⟩ := by
    refine congrArg Host.Outcome.next ((hr.run _).trans (congrArg (State.mk · _) ?_))
    rw [rollCall_eq, hc]
    exact hr.settle_quiet (by rw [hend]) (by rw [hend]) (by rw [hend]) (by rw [hend])
  have hnumber : (rolledOn p bytes c).lif.carNumber = c.lif.carNumber := by rw [htraffic]
  have hside : (rolledOn p bytes c).lif.cabSide = c.lif.cabSide := by rw [htraffic]
  refine ⟨_, hexec, rfl, hend, fun hhop h => ?_, fun hhop hn h => ?_, fun hhop h => ?_, fun hhop h => ?_, fun hheld hbusy => ?_,
    fun hheld hidle => ?_, fun hheld hbusy => ?_, ?_, ?_, ?_, ?_, fun hheld => ⟨fun ⟨hhop, h⟩ => ?_, fun ⟨hhop, hn, h⟩ => ?_, fun hhop => ?_⟩,
    fun hheld => ⟨fun ⟨hhop, h⟩ => ?_, fun ⟨hhop, hn, h⟩ => ?_, fun hhop => ?_⟩⟩
  · rw [hnumber, hside, htaken hhop h]
    exact ⟨rfl, rfl⟩
  · rw [hnumber, hside, hkept hhop hn h]
    exact ⟨rfl, rfl⟩
  · rw [hnumber, hside, hpast hhop, if_pos (hfree.2 h)]
    exact ⟨rfl, rfl⟩
  · rw [hnumber, hside, hpast hhop, if_neg (mt hfree.1 h)]
    exact ⟨rfl, rfl⟩
  · rw [rolledOn_busy p bytes c (by rwa [hout]), hout, if_pos hheld]
  · exact rolledOn_idle p bytes c (by rwa [hout]) (by rwa [hout])
  · rw [rolledOn_busy p bytes c (by rwa [hout]), hout, if_neg (by omega)]
  · show (rolledOn p bytes c).lif.frames = _
    rw [rolledOn_frames, hlif]
    rfl
  · show (rolledOn p bytes c).lif.groups = _
    rw [htraffic, hlif]
  · show (rolledOn p bytes c).lif.params = _
    rw [htraffic, hlif]
  · show (rolledOn p bytes c).lif.demand = _
    rw [htraffic, hlif]
  · rw [rolledOn_held p bytes c (by rwa [hout]), htaken hhop h]
    exact ⟨rfl, rfl⟩
  · rw [rolledOn_held p bytes c (by rwa [hout]), hkept hhop hn h]
    rfl
  · rw [rolledOn_held p bytes c (by rwa [hout])]
    exact hpastEvr hhop
  · rw [rolledOn_full p bytes c (by rwa [hout]), htaken hhop h]
    exact ⟨rfl, rfl⟩
  · rw [rolledOn_full p bytes c (by rwa [hout]), hkept hhop hn h]
    rfl
  · rw [rolledOn_full p bytes c (by rwa [hout])]
    show c.evr.take c.now .relayOverrun p.other.number = _
    rw [hpastEvr hhop, hnow]

end Sys2Proof.Machine
end

section
/-! Parameters (R60, R73, R183) and the driver demand (R181, R182): what a read of an intact table changes, and what each change
of a parameter or of the image is handed to. -/

namespace Sys2Proof.Machine

/-- The values of a range lie between its ends (R184). -/
theorem Parameter.range_le (q : Parameter) : q.range.1 ≤ q.range.2 := by cases q <;> exact Nat.le_of_ble_eq_true rfl

/-- Settles O24. -/
theorem parameterClampsHold : Obligations.ParameterClampsHold := by
  intro p q v hnamed
  have hrange := q.range_le
  refine ⟨fun hw hi he => ?_, fun hcar hw hi he hlo hhi => ?_, ?_, ?_, ?_, ?_, fun hWI hIE hE hq => ?_⟩
  · cases q with
    | carLength => simp only [Params.clamp, Parameter.range]; omega
    | marginW => exact absurd rfl hw
    | marginI => exact absurd rfl hi
    | marginE => exact absurd rfl he
    | _ => simp only [Params.clamp]; omega
  · cases q with
    | carLength => exact absurd rfl hcar
    | marginW => exact absurd rfl hw
    | marginI => exact absurd rfl hi
    | marginE => exact absurd rfl he
    | _ => simp only [Params.clamp]; omega
  · rintro rfl
    simp only [Params.clamp, Parameter.range]
    omega
  · rintro rfl
    simp only [Params.clamp, Parameter.range, Nat.zero_le, Nat.max_eq_right]
  · rintro rfl
    simp only [Params.clamp, Parameter.range, Nat.zero_le, Nat.max_eq_right]
  · rintro rfl
    simp only [Params.clamp, Parameter.range, Nat.zero_le, Nat.max_eq_right]
  · rcases hq with rfl | rfl | rfl <;> simp only [Params.install, Params.clamp, Parameter.range] <;> omega

/-! ## A read of an intact table (R20) -/

section Intact
variable {c : Car} (h : Intact c)
include h

theorem Intact.failures : c.pst.failures = 0 := by
  rw [Pst.failures, List.filter_eq_nil_iff.2 fun s hs => ne_true_of_eq_false (h s hs)]
  rfl

theorem Intact.read : c.pst.read = c.pst := by
  have htable : c.pst.table.map (·.verified) = c.pst.table := by
    refine (List.map_congr_left fun s hs => ?_).trans (List.map_id _)
    exact if_neg (ne_true_of_eq_false (h s hs))
  rw [Pst.read, htable]

theorem Intact.readTable : readTable c = c := by
  rw [Machine.readTable, h.failures, h.read]
  rfl

theorem Intact.readForExtent : readForExtent c = c := by
  rw [Machine.readForExtent, h.readTable, ite_self]

/-- The coverage computed afresh over a table whose records all pass their check. -/
theorem Intact.refreshCoverage : refreshCoverage c = { c with pst := { c.pst with
    coverage := coverageOf c.pst.readable c.odo.position c.lif.params.carLength c.odo.travelRef } } := by
  rw [Machine.refreshCoverage, h.readTable]
  simp only [ite_self]

end Intact

/-! ## What the outputs are decided from -/

/-- A command that leaves the doors and what they are handed to as they were leaves the door judgement alone (R147, R148). -/
theorem Ready.settle_brakes {s : State} (hr : Ready s) {d : Car} (hdor : d.dor = s.car.dor)
    (hfused : d.odo.fused = s.car.odo.fused) (hproven : d.brk.doorsProven = s.car.brk.doorsProven)
    (hhold : d.brk.doorHold = s.car.brk.doorHold) (hcondition : d.brk.conditions.door = s.car.brk.conditions.door)
    (hcause : d.brk.causes.door = s.car.brk.causes.door) : settle d = brkJudge d := by
  obtain ⟨hjudged, hgivenProven, hgivenHold, hgivenCondition, hpresent⟩ := ((settle_eq_self_iff s.car).1 hr.settled).1
  have hdoors : DoorsSettled d := ⟨by rw [hdor, hfused, hjudged], by rw [hproven, hdor, hgivenProven],
    by rw [hhold, hdor, hgivenHold], fun h => hcondition.trans (hgivenCondition (hdor ▸ h)),
    fun h => hcause ▸ hpresent (hdor ▸ h)⟩
  rw [settle, dorJudge_eq_self_of hdoors]

/-- The brake judgement changes nothing of the supervisor but that it may give it a cause of evaluation. -/
theorem brkJudge_ssv (c : Car) : (brkJudge c).ssv = c.ssv ∨ (brkJudge c).ssv = c.ssv.cause := by
  unfold brkJudge
  dsimp only
  split
  · exact .inl rfl
  · exact .inr rfl

/-! ## The driver demand -/

theorem demandOf_none {direction level release load : Nat} (h : 2 < direction ∨ 7 < level ∨ 1 < release ∨ 2 < load) :
    demandOf direction level release load = none := by
  unfold demandOf
  split
  · rename_i d l hd hl
    have hdirection : direction ≤ 2 := by
      match direction, hd with
      | 0, _ | 1, _ | 2, _ => decide
    have hload : load ≤ 2 := by
      match load, hl with
      | 0, _ | 1, _ | 2, _ => decide
    exact if_neg (by omega)
  · rfl

theorem demandOf_code {d : Direction} {level release load : Nat} {l : LoadClass} (hload : LoadClass.ofCode load = some l)
    (hlevel : level ≤ 7) (hrelease : release ≤ 1) :
    demandOf d.code level release load = some ⟨d, level, release == 1, l⟩ := by
  have hdirection : Direction.ofCode d.code = some d := by cases d <;> rfl
  simp only [demandOf, hdirection, hload]
  exact if_pos ⟨hlevel, hrelease⟩

/-- The travel reference under a commanded direction (R50). -/
def Odo.reference (o : Odo) (before after : Direction) : Option Sense :=
  if after = before then o.travelRef else after.sense.or o.travelRef

theorem commandChanged_intact {c : Car} (h : Intact c) (d : Direction) : commandChanged d c =
    ssvCause { c with
      odo := { c.odo with rollbackDist := 0, travelRef := d.sense.or c.odo.travelRef }
      pst := { c.pst with
        coverage := if d.sense.or c.odo.travelRef = c.odo.travelRef then c.pst.coverage
          else coverageOf c.pst.readable c.odo.position c.lif.params.carLength (d.sense.or c.odo.travelRef) } } := by
  have hahead : commandChanged d c = ssvCause
      (if c.odo.travelRef = d.sense.or c.odo.travelRef then
        { c with odo := { c.odo with rollbackDist := 0, travelRef := d.sense.or c.odo.travelRef } }
      else refreshCoverage { c with odo := { c.odo with rollbackDist := 0, travelRef := d.sense.or c.odo.travelRef } }) := by
    cases d <;> rfl
  rw [hahead]
  by_cases hsame : d.sense.or c.odo.travelRef = c.odo.travelRef
  · rw [if_pos hsame.symm, if_pos hsame]
  · rw [if_neg (Ne.symm hsame), if_neg hsame,
      Intact.refreshCoverage (c := { c with odo := { c.odo with rollbackDist := 0, travelRef := d.sense.or c.odo.travelRef } }) h]

/-- The direction handed on (R50, R57). -/
def directed (d : DriverDemand) (before : Direction) (c : Car) : Car :=
  { c with
    odo := { c.odo with
      rollbackDist := if d.direction = before then c.odo.rollbackDist else 0
      travelRef := c.odo.reference before d.direction }
    pst := { c.pst with
      coverage := if c.odo.reference before d.direction = c.odo.travelRef then c.pst.coverage
        else coverageOf c.pst.readable c.odo.position c.lif.params.carLength (c.odo.reference before d.direction) }
    ssv := if d.direction = before then c.ssv else c.ssv.cause }

theorem commandChanged_directed {c : Car} (h : Intact c) (d : DriverDemand) (before : Direction) :
    (if before = d.direction then c else commandChanged d.direction c) = directed d before c := by
  by_cases hsame : d.direction = before
  · rw [if_pos hsame.symm]
    simp only [directed, Odo.reference, if_pos hsame, if_true]
  · rw [if_neg (Ne.symm hsame), commandChanged_intact h]
    simp only [directed, Odo.reference, if_neg hsame]
    rfl

/-- The load class handed on (R64). -/
def loaded (d : DriverDemand) (before : LoadClass) (c : Car) : Car :=
  { c with ssv := if d.load = before then c.ssv else c.ssv.cause }

/-- The driver demand copy handed on (R101). -/
def copied (d before : DriverDemand) (loss : Bool) (c : Car) : Car :=
  { c with brk := { c.brk with
      copy := if d.level = before.level ∧ d.release = before.release ∧ loss = false then c.brk.copy else ⟨d.level, d.release⟩ } }

/-- The end of LINE_LOSS handed on (R110, R182, R192). -/
def lossEnded (loss : Bool) (c : Car) : Car :=
  { c with
    brk := { c.brk with
      conditions := if loss then c.brk.conditions.set .lineLoss false else c.brk.conditions
      causes := if loss then
          c.brk.causes.set .lineLoss ((c.brk.causes.get .lineLoss).map fun r => { r with present := false })
        else c.brk.causes }
    evr := if loss then c.evr.modify 29 fun r => { r with pending := false } else c.evr }

/-- The part with a new image taken, over an intact table: each block as the change leaves it (R181, R182). -/
def demanded (d : DriverDemand) (c : Car) : Car :=
  lossEnded c.lif.lineLoss (copied d c.lif.demand c.lif.lineLoss (loaded d c.lif.demand.load (directed d c.lif.demand.direction
    { c with lif := { c.lif with demand := d, lineLossTimer := some 0, lineLoss := false } })))

theorem ssvCause_loaded (d : DriverDemand) (before : LoadClass) (c : Car) :
    (if before = d.load then c else ssvCause c) = loaded d before c := by
  by_cases h : d.load = before
  · rw [if_pos h.symm, loaded, if_pos h]
  · rw [if_neg (Ne.symm h), loaded, if_neg h]
    rfl

theorem takeCopy_copied {d before : DriverDemand} {loss : Bool} {c : Car} (hd : c.lif.demand = d) (hl : c.lif.lineLoss = false) :
    (if before.level = d.level ∧ before.release = d.release ∧ loss = false then c else takeCopy c) = copied d before loss c := by
  by_cases h : d.level = before.level ∧ d.release = before.release ∧ loss = false
  · rw [if_pos ⟨h.1.symm, h.2.1.symm, h.2.2⟩, copied, if_pos h]
  · rw [if_neg fun hn => h ⟨hn.1.symm, hn.2.1.symm, hn.2.2⟩, copied, if_neg h, takeCopy, hl, hd]
    rfl

theorem causeChange_lossEnded (loss : Bool) (c : Car) :
    causeChange .lineLoss loss false (levelChange .lineLoss loss false 0 c) = lossEnded loss c := by
  cases loss <;> rfl

theorem takeDemand_intact {c : Car} (h : Intact c) (d : DriverDemand) : takeDemand d c = demanded d c := by
  have hdirected := commandChanged_directed (c := { c with
    lif := { c.lif with demand := d, lineLossTimer := some 0, lineLoss := false } }) h d c.lif.demand.direction
  simp only [takeDemand]
  rw [hdirected, ssvCause_loaded, causeChange_lossEnded]
  exact congrArg (lossEnded _) (takeCopy_copied rfl rfl)

/-- The expiry of a line-loss timer that is stopped or short of its limit changes nothing (R182). -/
theorem exec_lineLossExpiry_short {s : State} (hr : Ready s) (h : Timer.reached 100 s.car.lif.lineLossTimer = false) :
    exec .lineLossTimerExpiry s = .next s := by
  have hnone : lineLossExpiry s.car = s.car := if_neg (ne_true_of_eq_false h)
  exact congrArg Host.Outcome.next ((hr.run _).trans (by rw [hnone, hr.settled]))

/-- A part settled, with an answer placed. -/
theorem Ready.replied_settle {c : Car} {pending : List Instr} (hreset : c.inReset = false) (hu : Unreserved c.lif) (via : Via)
    (kind : Nat) (result : Result) (parts : List ReplyData) : Ready ⟨replied via kind result parts (settle c), pending⟩ := by
  refine ⟨(settle_inReset c).trans hreset, settle_replied (settle_settle c) .., ?_⟩
  show Unreserved ((settle c).lif.answered ..)
  rw [settle_lif]
  unfold Lif.answered
  split
  · exact (Lif.append_steady ..).places hu
  · exact hu

section Demand
variable {via : Via} {direction level release load : Nat} {s : State} (hr : Ready s)
  (h : Reaches via (.driverDemand direction level release load) s.car)
include hr h

theorem exec_driverDemand_range (hrange : 2 < direction ∨ 7 < level ∨ 1 < release ∨ 2 < load) :
    exec (.driverDemand via direction level release load) s =
      .next ⟨replied via 2 .range [.none] s.car, s.pending⟩ :=
  exec_eq_replied rfl hr h (by simp [telegramKind]) hr fun n => by
    simp only [deliver, driverDemand, demandOf_none hrange, reply]

theorem exec_driverDemand_taken (hi : Intact s.car) {d : DriverDemand} (hd : demandOf direction level release load = some d) :
    exec (.driverDemand via direction level release load) s =
      .next ⟨replied via 2 .accepted [.none] (settle (demanded d s.car)), s.pending⟩ :=
  exec_eq_replied_settle rfl hr h (by simp [telegramKind]) hr.unreserved fun n => by
    simp only [deliver, driverDemand, hd, reply, takeDemand_intact (c := s.car.reserving n) hi]
    rfl

end Demand

/-- A new image leaves the doors and what they are handed to as they were. -/
theorem Ready.settle_demanded {s : State} (hr : Ready s) (d : DriverDemand) : settle (demanded d s.car) = brkJudge (demanded d s.car) := by
  refine hr.settle_brakes rfl rfl rfl rfl ?_ ?_
  · show PerCause.door (if s.car.lif.lineLoss then s.car.brk.conditions.set .lineLoss false else s.car.brk.conditions) = _
    split <;> rfl
  · show PerCause.door (if s.car.lif.lineLoss then s.car.brk.causes.set .lineLoss _ else s.car.brk.causes) = _
    split <;> rfl

/-- A new image gives the supervisor a cause of evaluation when the direction or the load class has changed (R64). -/
theorem demanded_ssv (d : DriverDemand) (c : Car) : (demanded d c).ssv = { c.ssv with waiting := (demanded d c).ssv.waiting } ∧
    (d.direction ≠ c.lif.demand.direction ∨ d.load ≠ c.lif.demand.load → (demanded d c).ssv.waiting.cause = true) := by
  have hssv : (demanded d c).ssv = if d.load = c.lif.demand.load then
      (if d.direction = c.lif.demand.direction then c.ssv else c.ssv.cause)
      else (if d.direction = c.lif.demand.direction then c.ssv else c.ssv.cause).cause := rfl
  rw [hssv]
  split <;> split <;> rename_i hload hdirection
  · exact ⟨rfl, fun h => absurd h (by simp [hload, hdirection])⟩
  all_goals exact ⟨rfl, fun _ => rfl⟩

theorem Lif.append_traffic (l : Lif) (link : LinkState) (frames : List Frame) : l.Traffic (l.append link frames) :=
  Lif.Traffic.trans (m := { l with queue := _ }) rfl (Lif.start_traffic ..)

theorem Lif.answered_traffic (l : Lif) (link : LinkState) (via : Via) (kind : Nat) (result : Result) (parts : List ReplyData) :
    l.Traffic (l.answered link via kind result parts) := by
  unfold Lif.answered
  split
  · exact Lif.append_traffic ..
  · exact .refl l

/-- An image taken again restarts the line-loss timer alone. -/
theorem demanded_same {c : Car} (hloss : c.lif.lineLoss = false) :
    demanded c.lif.demand c = { c with lif := { c.lif with lineLossTimer := some 0 } } := by
  have hlif : ({ c.lif with demand := c.lif.demand, lineLossTimer := some 0, lineLoss := false } : Lif) =
      { c.lif with lineLossTimer := some 0 } := by rw [← hloss]
  unfold demanded
  rw [hlif, hloss]
  simp only [lossEnded, copied, loaded, directed, Odo.reference, if_true, and_self]
  rfl

/-! ## LINE_LOSS -/

/-- A cause of the set applies both cog brakes and the service brake, and takes traction away (R102, R106, R108). -/
theorem brkJudge_of_cause {c : Car} (h : causesEmpty c.brk.causes = false) :
    (∀ ch, ((brkJudge c).brk.channels.get ch).command = .apply) ∧ 7 ≤ (brkJudge c).brk.svcLevel ∧
    (brkJudge c).brk.tractionOk = false := by
  have hcommand (r : CogRecord) (holder : Holder) (value : Bool) : ((r.takeCommand holder .apply).drive value).command = .apply := by
    rw [CogRecord.drive_command]
    obtain ⟨state, command, h, en, reading, tr, de, pin, rb, rep, reason⟩ := r
    cases state <;> cases reading <;> rfl
  refine ⟨fun ch => ?_, ?_, ?_⟩
  · rw [brkJudge_channel]
    simp only [judgeChannel, arbitrate, h, Bool.not_false, if_true]
    split <;> exact hcommand ..
  · show 7 ≤ serviceLevel c
    simp only [serviceLevel, h, Bool.not_false, Bool.or_true, Bool.true_or, if_true]
    omega
  · show tractionPermitted c _ = false
    simp only [tractionPermitted, h, Bool.and_false, Bool.false_and]

/-- The brake judgement keeps the supervisor's record and lists, and a cause of evaluation that waits. -/
theorem brkJudge_ssv_frame (c : Car) : (brkJudge c).ssv = { c.ssv with waiting := (brkJudge c).ssv.waiting } ∧
    (c.ssv.waiting.cause = true → (brkJudge c).ssv.waiting.cause = true) := by
  rcases brkJudge_ssv c with h | h <;> rw [h]
  · exact ⟨rfl, id⟩
  · exact ⟨rfl, fun _ => rfl⟩

section Cause
variable (cause : Cause) (c : Car)

/-- A cause added: its record in the set, with its flag set when its condition is present (R110, R111). -/
theorem addCause_causes (present : Bool) : (addCause cause present c).brk.causes = c.brk.causes.set cause
    (some (((c.brk.causes.get cause).map fun r => { r with present := r.present || present }).getD ⟨c.now, present⟩)) := by
  unfold addCause
  cases c.brk.causes.get cause with
  | some r => rfl
  | none =>
    dsimp only
    rw [abortTest_causes]
    split <;> rfl

/-- A cause whose condition starts: its record in the set, with its flag set (R110). -/
theorem causeStart_causes : (causeStart cause c).brk.causes = c.brk.causes.set cause
    (some (((c.brk.causes.get cause).map fun r => { r with present := true }).getD ⟨c.now, true⟩)) := by
  rw [causeStart, addCause_causes]
  simp only [Bool.or_true]

theorem addCause_test (present : Bool) :
    (addCause cause present c).brk.test = if c.brk.causes.get cause = none then .off else c.brk.test := by
  unfold addCause
  cases c.brk.causes.get cause with
  | some r => rfl
  | none => exact abortTest_test _

theorem causesEmpty_set_some {q : PerCause (Option CauseRecord)} (r : CauseRecord) : causesEmpty (q.set cause (some r)) = false := by
  rw [← Bool.not_eq_true, causesEmpty_iff]
  intro h
  have hcause := h cause
  rw [PerCause.get_set_self] at hcause
  cases hcause

/-- With no test in progress a new cause but RESET makes EMERGENCY_SET occur alone (R114). -/
theorem addCause_evr (present : Bool) (hcause : cause ≠ .reset) (hnone : c.brk.causes.get cause = none) (htest : c.brk.test = .off) :
    (addCause cause present c).evr = c.evr.take c.now .emergencySet cause.code := by
  simp only [addCause, hnone, if_neg hcause, abortTest, occur_brk, htest]
  rfl

end Cause

/-- The line record and the driver demand copy as LINE_LOSS starts (R101, R182). -/
def lossBegun (c : Car) : Car :=
  { c with
    lif := { c.lif with lineLossTimer := none, lineLoss := true }
    brk := { c.brk with copy := ⟨0, false⟩ } }

theorem lineLossExpiry_reached {c : Car} (h : Timer.reached 100 c.lif.lineLossTimer = true) (hloss : c.lif.lineLoss = false) :
    lineLossExpiry c = causeStart .lineLoss (occur .lineLoss 0 (lossBegun c)) := by
  rw [lineLossExpiry, if_pos h, hloss]
  rfl

/-- Settles O21. -/
theorem driverDemandAndLineLoss : Obligations.DriverDemandAndLineLoss := by
  refine ⟨fun via direction level release load s hr hi h => ⟨fun hrange => exec_driverDemand_range hr h hrange,
    fun d c hd hc hlevel hrelease => ?demand⟩, fun s hr => ⟨fun hshort => exec_lineLossExpiry_short hr hshort, fun hreached hloss => ?loss⟩⟩
  case demand =>
    intro image
    have hexec := exec_driverDemand_taken (d := image) hr h hi (hd ▸ demandOf_code hc hlevel hrelease)
    have hquiet := hr.settle_quiet (d := { s.car with lif := { s.car.lif with lineLossTimer := some 0 } }) rfl rfl rfl rfl
    refine ⟨fun hsame hloss => ?_, ?_⟩
    · rw [hexec, hsame, demanded_same hloss, hquiet]
    · have hready := Ready.replied_settle (c := demanded image s.car) (pending := s.pending) hr.1 hr.unreserved via 2 .accepted [.none]
      rw [hr.settle_demanded] at hexec hready
      obtain ⟨hssv, hcause⟩ := brkJudge_ssv_frame (demanded image s.car)
      obtain ⟨hdemanded, hchanged⟩ := demanded_ssv image s.car
      rw [hdemanded] at hssv
      refine ⟨_, hexec, rfl, rfl, rfl, rfl, rfl, rfl, rfl, ?_, ?_, ?_, ?_, fun hchange => ?_, rfl, rfl, rfl, fun cause hne => ?_,
        fun hloss => ?_, rfl, exec_lineLossExpiry_short hready ?_⟩
      · exact (congrArg Ssv.record hssv :)
      · exact (congrArg Ssv.restrictions hssv :)
      · exact (congrArg Ssv.overflow hssv :)
      · exact (congrArg Ssv.running hssv :)
      · exact hcause (hchanged hchange)
      · show PerCause.get (if s.car.lif.lineLoss then s.car.brk.causes.set .lineLoss _ else s.car.brk.causes) cause = _
        split
        · exact PerCause.get_set_ne _ _ hne
        · rfl
      · show PerCause.lineLoss (if s.car.lif.lineLoss then _ else _) = _ ∧ PerCause.lineLoss (if s.car.lif.lineLoss then _ else _) = _
        rw [hloss]
        exact ⟨rfl, rfl⟩
      · show Timer.reached 100 ((demanded image s.car).lif.answered _ via 2 .accepted [.none]).lineLossTimer = false
        rw [Lif.answered_traffic]
        rfl
  case loss =>
    generalize hb : occur .lineLoss 0 (lossBegun s.car) = b
    have hcauses := causeStart_causes .lineLoss b
    have hconditions := causeStart_conditions .lineLoss b
    have hold : b.brk.causes = s.car.brk.causes ∧ b.now = s.car.now := by rw [← hb]; exact ⟨rfl, rfl⟩
    rw [hold.1, hold.2] at hcauses
    have hsettle : settle (causeStart .lineLoss b) = brkJudge (causeStart .lineLoss b) := by
      refine hr.settle_brakes ?_ ?_ ?_ ?_ ?_ ?_
      · rw [causeStart_dor, ← hb]; rfl
      · rw [causeStart_odo, ← hb]; rfl
      · rw [causeStart_doorsProven, ← hb]; rfl
      · rw [causeStart_doorHold, ← hb]; rfl
      · rw [hconditions, ← hb]; rfl
      · rw [hcauses]; rfl
    have hexec : exec .lineLossTimerExpiry s = .next ⟨brkJudge (causeStart .lineLoss b), s.pending⟩ :=
      congrArg Host.Outcome.next ((hr.run _).trans (by rw [lineLossExpiry_reached hreached hloss, hb, hsettle]))
    have hnotEmpty : causesEmpty (causeStart .lineLoss b).brk.causes = false := by
      rw [hcauses]
      exact causesEmpty_set_some ..
    obtain ⟨hcommand, hlevel, htraction⟩ := brkJudge_of_cause hnotEmpty
    refine ⟨_, hexec, rfl, ?_, ?_, ?_, ?_, fun cause hcause => ?_, hcommand .cbA, hcommand .cbB, ?_, htraction, ?_, ?_, ?_, ?_, ?_, ?_,
      fun htest hnone => ?_⟩
    · exact (causeStart_lif ..).trans (by rw [← hb]; rfl)
    · exact (causeStart_copy ..).trans (by rw [← hb]; rfl)
    · show (causeStart .lineLoss b).brk.conditions.lineLoss = true
      rw [hconditions]
      rfl
    · show (causeStart .lineLoss b).brk.causes.lineLoss = _
      rw [hcauses]
      rfl
    · show (causeStart .lineLoss b).brk.causes.get cause = _
      rw [hcauses]
      exact PerCause.get_set_ne _ _ hcause
    · show serviceLevel (causeStart .lineLoss b) = 7
      have hcopy : (causeStart .lineLoss b).brk.copy.level = 0 := by rw [causeStart_copy, ← hb]; rfl
      simp only [serviceLevel, hcopy, hnotEmpty, Bool.not_false, Bool.or_true, Bool.true_or, if_true]
      split <;> rfl
    · exact (addCause_test ..).trans (by rw [← hb]; rfl)
    · exact (causeStart_odo ..).trans (by rw [← hb]; rfl)
    · exact (causeStart_tlf ..).trans (by rw [← hb]; rfl)
    · exact (causeStart_pst ..).trans (by rw [← hb]; rfl)
    · exact (causeStart_dor ..).trans (by rw [← hb]; rfl)
    · rw [brkJudge_record, causeStart_ssv, ← hb]
      rfl
    · refine (addCause_evr .lineLoss _ true nofun ?_ ?_).trans ?_
      · exact (congrArg PerCause.lineLoss hold.1).trans hnone
      · rw [← hb]; exact htest
      · rw [← hb]; rfl

end Sys2Proof.Machine
end

section
/-! What PARAMETER SET does to the blocks that own its parameters (R30, R53, R60, R64, R82, R183), over an intact table. -/

namespace Sys2Proof.Machine

/-! ## Pending flags under occurrences (R192) -/

/-- Two event records of which the second has every flag of the first. -/
structure Evr.Raises (e f : Evr) : Prop where
  length : f.sources.length = e.sources.length
  pending : ∀ n, (e.source n).pending = true → (f.source n).pending = true

theorem Evr.Raises.refl (e : Evr) : e.Raises e := ⟨rfl, fun _ => id⟩

theorem Evr.Raises.trans {e f g : Evr} (h : e.Raises f) (k : f.Raises g) : e.Raises g :=
  ⟨k.length.trans h.length, fun n hn => k.pending n (h.pending n hn)⟩

theorem Evr.source_modify_self (e : Evr) {n : Nat} (f : SourceRecord → SourceRecord) (h : n < e.sources.length) :
    (e.modify n f).source n = f (e.source n) := by
  simp only [Evr.source, Evr.modify, List.getD_eq_getElem?_getD, List.getElem?_modify_eq, List.getElem?_eq_getElem h,
    Option.getD_some]
  rfl

theorem Evr.source_modify_ne (e : Evr) {n k : Nat} (f : SourceRecord → SourceRecord) (h : n ≠ k) :
    (e.modify n f).source k = e.source k := by
  simp only [Evr.source, Evr.modify, List.getD_eq_getElem?_getD, List.getElem?_modify_ne _ _ h]

theorem Evr.take_source (e : Evr) (now : Stamp) (src : Source) (detail n : Nat) :
    (e.take now src detail).source n = (e.modify src.number fun r => { r with pending := true }).source n := by
  unfold Evr.take
  dsimp only
  split
  · unfold Evr.source
    rw [Evr.offer_sources]
  · rfl

theorem Evr.take_length (e : Evr) (now : Stamp) (src : Source) (detail : Nat) :
    (e.take now src detail).sources.length = e.sources.length := by
  unfold Evr.take
  dsimp only
  split
  · rw [Evr.offer_sources]
    exact List.length_modify ..
  · exact List.length_modify ..

/-- An occurrence sets its source's flag, when the source is one of those held. -/
theorem Evr.take_pending (e : Evr) (now : Stamp) (src : Source) (detail : Nat) :
    ((e.take now src detail).source src.number).pending = true ∨ e.sources.length ≤ src.number := by
  by_cases h : src.number < e.sources.length
  · left
    rw [Evr.take_source, Evr.source_modify_self e _ h]
  · exact .inr (by omega)

theorem Evr.raises_take (e : Evr) (now : Stamp) (src : Source) (detail : Nat) : e.Raises (e.take now src detail) := by
  refine ⟨Evr.take_length .., fun n hn => ?_⟩
  rw [Evr.take_source]
  by_cases hsrc : src.number = n
  · by_cases h : n < e.sources.length
    · rw [hsrc, Evr.source_modify_self e _ h]
    · rw [Evr.source, List.getD_eq_default _ _ (by omega)] at hn
      cases hn
  · rw [Evr.source_modify_ne e _ hsrc]
    exact hn

/-! ## The owning blocks and the line record -/

theorem setLink_withLif (c : Car) (l : Lif) (link : LinkState) : setLink link (c.withLif l) = (setLink link c).withLif l := by
  simp only [setLink, show (c.withLif l).vrl = c.vrl from rfl]
  split <;> rfl

section WithLif
variable {c : Car} {l : Lif} (h : c.lif.SameCar l)
include h

theorem handSaturation_withLif (ch : LoopChannel) (code : Nat) (before after : Bool) :
    handSaturation ch code before after (c.withLif l) = (handSaturation ch code before after c).withLif l := by
  unfold handSaturation
  split
  · exact occur_withLif h ..
  · rfl

theorem reworkLoop_withLif (ch : LoopChannel) (r : TlfChannel) :
    reworkLoop ch r (c.withLif l) = (reworkLoop ch r c).withLif l := by
  have hframe (code : Nat) (before after : Bool) (d : Car) (hd : d.lif = c.lif) : d.lif.SameCar l ∧
      (handSaturation ch code before after d).lif = c.lif := ⟨hd ▸ h, by rw [handSaturation_frame]; exact hd⟩
  unfold reworkLoop
  dsimp only
  rw [show (c.withLif l).lif.params = c.lif.params from h.params]
  generalize r.rework c.lif.params ch = n
  have h0 : (setLoop ch n c).lif = c.lif := rfl
  have h1 := hframe 1 r.satI0 n.satI0 _ h0
  have h2 := hframe 2 r.satD1 n.satD1 _ h1.2
  have h3 := hframe 3 r.satD2 n.satD2 _ h2.2
  rw [← handSaturation_withLif h3.1, ← handSaturation_withLif h2.1, ← handSaturation_withLif h1.1]
  rfl

theorem startSupervision_withLif : startSupervision (c.withLif l) = (startSupervision c).withLif l := by
  simp only [startSupervision, Car.withLif, h.params]

theorem handLost_withLif (before : PositionState) (detail : Nat) :
    handLost before detail (c.withLif l) = (handLost before detail c).withLif l := by
  unfold handLost
  split
  · rename_i hlost
    rw [if_pos (by exact hlost)]
    exact occur_withLif h ..
  · rename_i hkept
    rw [if_neg (by exact hkept)]

end WithLif

/-! ## The shadow test over an intact table (R156) -/

/-- What the shadow test's finding does to the link of the radio car. -/
def shadowFound (stands : Bool) (c : Car) : Car :=
  if c.vrl.link = .linked ∧ stands = true then enterShadow { c with vrl := { c.vrl with shadowStands := stands } }
  else if c.vrl.link = .shadow ∧ stands = false then
    startSupervision (setLink .linked { c with vrl := { c.vrl with shadowStands := stands, shadow := none } })
  else { c with vrl := { c.vrl with shadowStands := stands } }

theorem shadowTest_intact {c : Car} (h : Intact c) : shadowTest c =
    if c.vrl.role = .radio then shadowFound (shadowOver c.pst.readable c.odo.position c.lif.params.carLength) c else c := by
  unfold shadowTest
  dsimp only
  rw [h.readForExtent]
  generalize shadowOver c.pst.readable c.odo.position c.lif.params.carLength = stands
  split
  · unfold shadowFound
    cases hlink : c.vrl.link <;> cases stands <;>
      simp only [hlink, reduceCtorEq, Bool.true_eq_false, Bool.false_eq_true, and_self, and_false, false_and, if_true, if_false]
  · rfl

theorem shadowFound_withLif {c : Car} {l : Lif} (h : c.lif.SameCar l) (stands : Bool) :
    shadowFound stands (c.withLif l) = (shadowFound stands c).withLif l := by
  have hparams : l.params = c.lif.params := h.params
  unfold shadowFound
  rw [show (c.withLif l).vrl = c.vrl from rfl]
  split
  · unfold enterShadow
    rw [← setLink_withLif]
    simp only [Car.withLif, hparams]
  · split
    · rw [← startSupervision_withLif (by rw [setLink_lif]; exact h), ← setLink_withLif]
      rfl
    · rfl

theorem shadowTest_withLif {c : Car} {l : Lif} (h : c.lif.SameCar l) (hi : Intact c) :
    shadowTest (c.withLif l) = (shadowTest c).withLif l := by
  rw [shadowTest_intact hi, shadowTest_intact (c := c.withLif l) hi]
  by_cases hrole : c.vrl.role = .radio
  · rw [if_pos hrole, if_pos (by exact hrole), ← shadowFound_withLif h]
    simp only [Car.withLif, h.params]
  · rw [if_neg hrole, if_neg (by exact hrole)]

/-- The shadow test changes the link record, and gives the supervisor a cause of evaluation when the link leaves LOST: neither
happens from LINKED or SHADOW, so it keeps the supervisor too. -/
theorem shadowFound_frame (stands : Bool) (c : Car) : shadowFound stands c =
    { c with vrl := (shadowFound stands c).vrl, ssv := (shadowFound stands c).ssv } ∧
    (shadowFound stands c).ssv = c.ssv := by
  unfold shadowFound
  split
  · rename_i hlink
    simp only [enterShadow, setLink, hlink.1]
    exact ⟨rfl, rfl⟩
  · split
    · rename_i hlink
      simp only [startSupervision, setLink, hlink.1]
      exact ⟨rfl, rfl⟩
    · exact ⟨rfl, rfl⟩

theorem shadowTest_frame {c : Car} (h : Intact c) : shadowTest c = { c with vrl := (shadowTest c).vrl } := by
  rw [shadowTest_intact h]
  split
  · obtain ⟨hframe, hssv⟩ := shadowFound_frame (shadowOver c.pst.readable c.odo.position c.lif.params.carLength) c
    rw [hframe, hssv]
  · rfl

/-! ## The owning blocks, one by one -/

theorem handSaturation_raises (ch : LoopChannel) (code : Nat) (before after : Bool) (c : Car) :
    c.evr.Raises (handSaturation ch code before after c).evr := by
  unfold handSaturation
  split
  · exact Evr.raises_take ..
  · exact .refl _

theorem reworkLoop_raises (ch : LoopChannel) (r : TlfChannel) (c : Car) : c.evr.Raises (reworkLoop ch r c).evr :=
  ((handSaturation_raises ch 1 _ _ (setLoop ch _ c)).trans (handSaturation_raises ..)).trans (handSaturation_raises ..)

/-- The channels worked out anew one after another (R30). -/
def reworkLoops (l : List LoopChannel) (c : Car) : Car := l.foldl (fun c ch => reworkLoop ch (c.tlf.get ch) c) c

/-- Two states of the part that differ in the loop channels, the events and the reports alone. -/
def Car.LoopsOnly (c d : Car) : Prop := d = { c with tlf := d.tlf, evr := d.evr, vrl := d.vrl }

theorem Car.LoopsOnly.trans {c d e : Car} (h : c.LoopsOnly d) (k : d.LoopsOnly e) : c.LoopsOnly e := by
  unfold Car.LoopsOnly at *
  rw [h] at k
  exact k

theorem reworkLoop_only (ch : LoopChannel) (r : TlfChannel) (c : Car) : c.LoopsOnly (reworkLoop ch r c) := by
  unfold Car.LoopsOnly
  rw [reworkLoop_frame]

theorem reworkLoops_only (l : List LoopChannel) (c : Car) : c.LoopsOnly (reworkLoops l c) := by
  induction l generalizing c with
  | nil => rfl
  | cons ch l ih => exact (reworkLoop_only ..).trans (ih _)

theorem reworkLoops_raises (l : List LoopChannel) (c : Car) : c.evr.Raises (reworkLoops l c).evr := by
  induction l generalizing c with
  | nil => exact .refl _
  | cons ch l ih => exact (reworkLoop_raises ..).trans (ih _)

theorem reworkLoops_withLif (ls : List LoopChannel) {c : Car} {l : Lif} (h : c.lif.SameCar l) :
    reworkLoops ls (c.withLif l) = (reworkLoops ls c).withLif l := by
  induction ls generalizing c with
  | nil => rfl
  | cons ch ls ih =>
    show reworkLoops ls (reworkLoop ch (c.tlf.get ch) (c.withLif l)) = _
    rw [reworkLoop_withLif h, ih (by rw [reworkLoop_frame]; exact h)]
    rfl

theorem reworkLoops_get {l : List LoopChannel} (hl : l.Nodup) (c : Car) (ch : LoopChannel) : (reworkLoops l c).tlf.get ch =
    if ch ∈ l then (c.tlf.get ch).rework c.lif.params ch else c.tlf.get ch := by
  induction l generalizing c with
  | nil => rfl
  | cons k l ih =>
    obtain ⟨hk, hl⟩ := List.nodup_cons.1 hl
    have htlf : (reworkLoop k (c.tlf.get k) c).tlf = c.tlf.set k ((c.tlf.get k).rework c.lif.params k) := by rw [reworkLoop_frame]
    have hlif : (reworkLoop k (c.tlf.get k) c).lif = c.lif := by rw [reworkLoop_frame]
    show (reworkLoops l (reworkLoop k (c.tlf.get k) c)).tlf.get ch = _
    rw [ih hl, htlf, hlif]
    by_cases hch : ch = k
    · subst hch
      rw [if_neg hk, if_pos List.mem_cons_self, PerLoop.get_set_self]
    · rw [PerLoop.get_set_ne _ _ hch]
      simp only [List.mem_cons, hch, false_or]

theorem refreshCoverage_withLif {c : Car} {l : Lif} (h : c.lif.SameCar l) (hi : Intact c) :
    refreshCoverage (c.withLif l) = (refreshCoverage c).withLif l := by
  rw [hi.refreshCoverage, Intact.refreshCoverage (c := c.withLif l) hi]
  simp only [Car.withLif, h.params]

theorem handLost_frame (before : PositionState) (detail : Nat) (c : Car) : handLost before detail c =
    { c with evr := (handLost before detail c).evr, vrl := (handLost before detail c).vrl } := by
  unfold handLost
  split <;> rfl

theorem handLost_raises (before : PositionState) (detail : Nat) (c : Car) : c.evr.Raises (handLost before detail c).evr := by
  unfold handLost
  split
  · exact Evr.raises_take ..
  · exact .refl _

/-- A position change handed over an intact table (R51): the coverage, a cause of evaluation, and what the shadow test finds. -/
theorem positionChanged_frame {c : Car} (h : Intact c) : positionChanged c = { c with
    pst := { c.pst with
      coverage := coverageOf c.pst.readable c.odo.position c.lif.params.carLength c.odo.travelRef }
    ssv := c.ssv.cause
    vrl := (positionChanged c).vrl } := by
  have hi : Intact (ssvCause (refreshCoverage c)) := by
    rw [h.refreshCoverage]
    exact h
  unfold positionChanged
  rw [shadowTest_frame hi, h.refreshCoverage]
  rfl

theorem positionChanged_withLif {c : Car} {l : Lif} (h : c.lif.SameCar l) (hi : Intact c) :
    positionChanged (c.withLif l) = (positionChanged c).withLif l := by
  have hlif : (ssvCause (refreshCoverage c)).lif.SameCar l := by
    rw [hi.refreshCoverage]
    exact h
  have hintact : Intact (ssvCause (refreshCoverage c)) := by
    rw [hi.refreshCoverage]
    exact hi
  unfold positionChanged
  rw [refreshCoverage_withLif h hi, ← shadowTest_withLif hlif hintact]
  rfl

/-! ## A new drift or U_max (R53, R60) -/

/-- The part with its position's uncertainty worked out anew and a position lost by it reported. -/
def widened (c : Car) : Car :=
  handLost c.odo.position.state 2 { c with odo := { c.odo with position := c.odo.position.widen c.lif.params } }

theorem widened_frame (c : Car) : widened c = { c with
    odo := { c.odo with position := c.odo.position.widen c.lif.params }
    evr := (widened c).evr
    vrl := (widened c).vrl } := by
  unfold widened
  rw [handLost_frame]

theorem rejudgeUncertainty_eq (c : Car) (h : c.odo.position.state ≠ .unknown) : rejudgeUncertainty c =
    if (c.odo.position.widen c.lif.params).state = c.odo.position.state then refreshCoverage (widened c)
    else positionChanged (widened c) := by
  have hstate : (widened c).odo.position.state = (c.odo.position.widen c.lif.params).state := by rw [widened_frame]
  rw [← hstate]
  simp only [rejudgeUncertainty, if_neg h]
  rfl

theorem widened_withLif {c : Car} {l : Lif} (h : c.lif.SameCar l) : widened (c.withLif l) = (widened c).withLif l := by
  have hposition : ({ c.withLif l with odo := { c.odo with position := c.odo.position.widen l.params } } : Car) =
      Car.withLif { c with odo := { c.odo with position := c.odo.position.widen c.lif.params } } l := by
    rw [h.params]
    rfl
  exact (congrArg (handLost c.odo.position.state 2) hposition).trans (handLost_withLif
    (c := { c with odo := { c.odo with position := c.odo.position.widen c.lif.params } }) h ..)

theorem widened_intact {c : Car} (h : Intact c) : Intact (widened c) := by
  rw [widened_frame]
  exact h

/-! ## Every parameter -/

/-- Two states of the part that a parameter's owner may pass between: the loop channels, the position, the coverage, the causes of
evaluation that wait, the events and the link record differ. -/
def Car.OwnersOnly (c d : Car) : Prop := d = { c with
  tlf := d.tlf
  odo := { c.odo with position := d.odo.position }
  pst := { c.pst with coverage := d.pst.coverage }
  ssv := { c.ssv with waiting := d.ssv.waiting }
  evr := d.evr
  vrl := d.vrl }

theorem Car.OwnersOnly.trans {c d e : Car} (h : c.OwnersOnly d) (k : d.OwnersOnly e) : c.OwnersOnly e := by
  unfold Car.OwnersOnly at *
  rw [h] at k
  exact k

theorem Car.LoopsOnly.owners {c d : Car} (h : c.LoopsOnly d) : c.OwnersOnly d := by
  unfold Car.LoopsOnly at h
  unfold Car.OwnersOnly
  rw [h]

section Owners
variable {c : Car} (hi : Intact c)
include hi

theorem refreshCoverage_owners : c.OwnersOnly (refreshCoverage c) := by
  rw [hi.refreshCoverage]
  rfl

theorem positionChanged_owners : c.OwnersOnly (positionChanged c) := by
  rw [positionChanged_frame hi]
  rfl

theorem rejudgeUncertainty_owners : c.OwnersOnly (rejudgeUncertainty c) := by
  by_cases h : c.odo.position.state = .unknown
  · rw [rejudgeUncertainty]
    simp only [if_pos h]
    rfl
  · have hwidened : c.OwnersOnly (widened c) := by
      rw [widened_frame]
      rfl
    rw [rejudgeUncertainty_eq c h]
    split
    · exact hwidened.trans (refreshCoverage_owners (widened_intact hi))
    · exact hwidened.trans (positionChanged_owners (widened_intact hi))

theorem rejudgeUncertainty_raises : c.evr.Raises (rejudgeUncertainty c).evr := by
  by_cases h : c.odo.position.state = .unknown
  · rw [rejudgeUncertainty]
    simp only [if_pos h]
    exact .refl _
  · have hwidened : c.evr.Raises (widened c).evr := handLost_raises c.odo.position.state 2
      { c with odo := { c.odo with position := c.odo.position.widen c.lif.params } }
    rw [rejudgeUncertainty_eq c h]
    split
    · rw [(widened_intact hi).refreshCoverage]
      exact hwidened
    · rw [positionChanged_frame (widened_intact hi)]
      exact hwidened

theorem rejudgeUncertainty_withLif {l : Lif} (h : c.lif.SameCar l) :
    rejudgeUncertainty (c.withLif l) = (rejudgeUncertainty c).withLif l := by
  by_cases hu : c.odo.position.state = .unknown
  · rw [rejudgeUncertainty, rejudgeUncertainty]
    simp only [if_pos hu, show (c.withLif l).odo = c.odo from rfl]
  · have hl : (widened c).lif.SameCar l := by
      rw [widened_frame]
      exact h
    rw [rejudgeUncertainty_eq c hu, rejudgeUncertainty_eq (c.withLif l) hu, widened_withLif h,
      refreshCoverage_withLif hl (widened_intact hi), positionChanged_withLif hl (widened_intact hi),
      show (c.withLif l).lif.params = c.lif.params from h.params, show (c.withLif l).odo = c.odo from rfl]
    split <;> rfl

theorem applyParameter_owners (q : Parameter) : c.OwnersOnly (applyParameter q c) := by
  cases q with
  | thresholdMode | offsetF | offsetO => exact (reworkLoop_only ..).owners
  | i0Min | i0Span => exact (reworkLoops_only LoopChannel.list c).owners
  | carLength => exact (refreshCoverage_owners hi).trans rfl
  | drift | uMax => exact rejudgeUncertainty_owners hi
  | _ => rfl

theorem applyParameter_raises (q : Parameter) : c.evr.Raises (applyParameter q c).evr := by
  cases q with
  | thresholdMode | offsetF | offsetO => exact reworkLoop_raises ..
  | i0Min | i0Span => exact reworkLoops_raises LoopChannel.list c
  | carLength =>
    show c.evr.Raises (ssvCause (refreshCoverage c)).evr
    rw [hi.refreshCoverage]
    exact .refl _
  | drift | uMax => exact rejudgeUncertainty_raises hi
  | _ => exact .refl _

theorem applyParameter_withLif (q : Parameter) {l : Lif} (h : c.lif.SameCar l) :
    applyParameter q (c.withLif l) = (applyParameter q c).withLif l := by
  cases q with
  | thresholdMode | offsetF | offsetO => exact reworkLoop_withLif h ..
  | i0Min | i0Span => exact reworkLoops_withLif LoopChannel.list h
  | carLength => exact congrArg ssvCause (refreshCoverage_withLif h hi)
  | drift | uMax => exact rejudgeUncertainty_withLif hi h
  | _ => rfl

end Owners

/-! ## PARAMETER SET -/

/-- A value installed within its parameter's range is the value in force. -/
theorem Params.value_install (p : Params) (q : Parameter) {w : Nat} (h : q.named = true → w ≤ 1) :
    (p.install q w).value q = w := by
  have hloop {α : Type} (x : PerLoop α) (ch : LoopChannel) (y : α) : (x.set ch y).get ch = y := PerLoop.get_set_self ..
  have hcode : w ≤ 1 → boolCode (w == 1) = w := by
    intro h
    match w, h with
    | 0, _ | 1, _ => rfl
  cases q with
  | thresholdMode ch | mountingSense ch =>
    simp only [Params.install, Params.value, hloop]
    exact hcode (h rfl)
  | platformOverride => exact hcode (h rfl)
  | offsetF ch | offsetO ch | pitch ch => exact hloop ..
  | capability grip both load => cases grip <;> cases both <;> cases load <;> rfl
  | _ => rfl

/-- The part with a value installed and its owner told. -/
theorem installParameter_eq (q : Parameter) (w : Nat) (c : Car) : installParameter q w c =
    if c.lif.params.value q = w then { c with lif := { c.lif with params := c.lif.params.install q w } }
    else applyParameter q { c with lif := { c.lif with params := c.lif.params.install q w } } := rfl

/-! ## What each owner does with its parameter -/

section Owner
variable {c : Car} {q : Parameter}

theorem applyParameter_channel {ch : LoopChannel} (h : q = .thresholdMode ch ∨ q = .offsetF ch ∨ q = .offsetO ch) :
    (applyParameter q c).tlf = c.tlf.set ch ((c.tlf.get ch).rework c.lif.params ch) := by
  obtain rfl | rfl | rfl := h
  all_goals
    show (reworkLoop ch (c.tlf.get ch) c).tlf = _
    rw [reworkLoop_frame]

theorem applyParameter_rest (h : q = .i0Min ∨ q = .i0Span) (ch : LoopChannel) :
    (applyParameter q c).tlf.get ch = (c.tlf.get ch).rework c.lif.params ch := by
  have happly : applyParameter q c = reworkLoops LoopChannel.list c := by
    obtain rfl | rfl := h
    all_goals rfl
  rw [happly, reworkLoops_get (by decide), if_pos (by cases ch <;> decide)]

theorem applyParameter_tlf (hi : Intact c) (hch : ∀ ch, q ≠ .thresholdMode ch ∧ q ≠ .offsetF ch ∧ q ≠ .offsetO ch)
    (hmin : q ≠ .i0Min) (hspan : q ≠ .i0Span) : (applyParameter q c).tlf = c.tlf := by
  cases q with
  | thresholdMode ch => exact absurd rfl (hch ch).1
  | offsetF ch => exact absurd rfl (hch ch).2.1
  | offsetO ch => exact absurd rfl (hch ch).2.2
  | i0Min => exact absurd rfl hmin
  | i0Span => exact absurd rfl hspan
  | carLength =>
    show (ssvCause (refreshCoverage c)).tlf = _
    rw [hi.refreshCoverage]
    rfl
  | drift | uMax =>
    show (rejudgeUncertainty c).tlf = _
    by_cases hu : c.odo.position.state = .unknown
    · simp only [rejudgeUncertainty, if_pos hu]
    · rw [rejudgeUncertainty_eq c hu, (widened_intact hi).refreshCoverage, positionChanged_frame (widened_intact hi),
        widened_frame]
      split <;> rfl
  | _ => rfl

theorem applyParameter_carLength (hi : Intact c) : applyParameter .carLength c = { c with
    ssv := c.ssv.cause
    pst := { c.pst with
      coverage := coverageOf c.pst.readable c.odo.position c.lif.params.carLength c.odo.travelRef } } := by
  show ssvCause (refreshCoverage c) = _
  rw [hi.refreshCoverage]
  rfl

theorem applyParameter_uncertainty (h : q = .drift ∨ q = .uMax) : applyParameter q c = rejudgeUncertainty c := by
  obtain rfl | rfl := h
  all_goals rfl

theorem rejudgeUncertainty_unknown (h : c.odo.position.state = .unknown) : rejudgeUncertainty c = c := by
  simp only [rejudgeUncertainty, if_pos h]

theorem widened_lost (h : (c.odo.position.widen c.lif.params).state ≠ c.odo.position.state) :
    widened c = occur .positionLost 2 { c with odo := { c.odo with position := c.odo.position.widen c.lif.params } } := by
  have hlost : c.odo.position.state = .known ∧ (c.odo.position.widen c.lif.params).state = .lost := by
    simp only [PositionRecord.widen] at h ⊢
    split
    · rename_i hknown
      exact ⟨hknown.1, rfl⟩
    · rename_i hkept
      rw [if_neg hkept] at h
      exact absurd rfl h
  exact if_pos hlost

/-- A position that UNKNOWN does not leave alone: the record widened, the coverage of it, and on a position lost a cause of
evaluation and POSITION_LOST. -/
theorem rejudgeUncertainty_known (hi : Intact c) (h : c.odo.position.state ≠ .unknown) :
    let w := c.odo.position.widen c.lif.params
    (rejudgeUncertainty c).odo = { c.odo with position := w } ∧
    (rejudgeUncertainty c).pst.coverage = coverageOf c.pst.readable w c.lif.params.carLength c.odo.travelRef ∧
    (w.state ≠ c.odo.position.state → (rejudgeUncertainty c).ssv.waiting.cause = true ∧
      (((rejudgeUncertainty c).evr.source 8).pending = true ∨ c.evr.sources.length ≤ 8)) := by
  intro w
  have hiw := widened_intact hi
  rw [rejudgeUncertainty_eq c h]
  by_cases hw : w.state = c.odo.position.state
  · rw [if_pos hw, hiw.refreshCoverage, widened_frame]
    exact ⟨rfl, rfl, fun hne => absurd hw hne⟩
  · rw [if_neg hw, positionChanged_frame hiw, widened_lost hw]
    exact ⟨rfl, rfl, fun _ => ⟨rfl, Evr.take_pending c.evr c.now .positionLost 2⟩⟩

theorem applyParameter_evaluated (h : q ∈ [.reactionTime, .horizon, .marginW, .marginI, .marginE, .radioCap, .meshCap,
    .degradedCap, .lostCap] ∨ ∃ grip both load, q = .capability grip both load) : applyParameter q c = ssvCause c := by
  obtain hmem | ⟨grip, both, load, rfl⟩ := h
  · simp only [List.mem_cons, List.not_mem_nil, or_false] at hmem
    rcases hmem with rfl | rfl | rfl | rfl | rfl | rfl | rfl | rfl | rfl <;> rfl
  · rfl

theorem applyParameter_later (h : q ∈ [.setUnc, .markerTol, .platformOverride, .tRs, .tShadowMax, .trainId] ∨
    (∃ ch, q = .mountingSense ch ∨ q = .pitch ch)) : applyParameter q c = c := by
  obtain hmem | ⟨ch, rfl | rfl⟩ := h
  · simp only [List.mem_cons, List.not_mem_nil, or_false] at hmem
    rcases hmem with rfl | rfl | rfl | rfl | rfl | rfl <;> rfl
  · rfl
  · rfl

end Owner

/-! ## PARAMETER SET as a whole -/

/-- The part with a value installed. -/
def Car.installed (c : Car) (q : Parameter) (w : Nat) : Car :=
  { c with lif := { c.lif with params := c.lif.params.install q w } }

/-- The part after a parameter's value `v` is taken as `w` (R183). -/
def parameterTaken (q : Parameter) (id v w : Nat) (c : Car) : Car :=
  if w = v then installParameter q w c else occur .parameterClamped id (installParameter q w c)

section Taken
variable {c : Car} (hi : Intact c) (q : Parameter) (id v w : Nat)

theorem installParameter_reserving (n : Nat) : installParameter q w (c.reserving n) =
    if c.lif.params.value q = w then (c.installed q w).reserving n else applyParameter q ((c.installed q w).reserving n) := rfl

include hi

theorem installParameter_owners : (c.installed q w).OwnersOnly (installParameter q w c) := by
  rw [installParameter_eq]
  split
  · rfl
  · exact applyParameter_owners (c := c.installed q w) hi q

theorem parameterTaken_owners : (c.installed q w).OwnersOnly (parameterTaken q id v w c) := by
  unfold parameterTaken
  split
  · exact installParameter_owners hi q w
  · exact (installParameter_owners hi q w).trans rfl

theorem parameterTaken_lif : (parameterTaken q id v w c).lif = (c.installed q w).lif := by
  rw [show parameterTaken q id v w c = _ from parameterTaken_owners hi q id v w]

theorem parameterTaken_reserving (n : Nat) :
    parameterTaken q id v w (c.reserving n) = (parameterTaken q id v w c).reserving n := by
  have hinstall : installParameter q w (c.reserving n) = (installParameter q w c).reserving n := by
    have hlif : (applyParameter q (c.installed q w)).lif = (c.installed q w).lif := by
      rw [show applyParameter q (c.installed q w) = _ from applyParameter_owners (c := c.installed q w) hi q]
    have happly := applyParameter_withLif (c := c.installed q w) hi q
      (l := { (c.installed q w).lif with reservedReplies := n }) ⟨rfl, rfl⟩
    have happly' : applyParameter q ((c.installed q w).reserving n) = (applyParameter q (c.installed q w)).reserving n := by
      refine happly.trans ?_
      rw [Car.withLif, Car.reserving, hlif]
    rw [installParameter_reserving, installParameter_eq, happly']
    split <;> rfl
  have hoccur : occur .parameterClamped id ((installParameter q w c).reserving n) =
      (occur .parameterClamped id (installParameter q w c)).reserving n := 
    occur_withLif (l := { (installParameter q w c).lif with reservedReplies := n }) ⟨rfl, rfl⟩ ..
  unfold parameterTaken
  rw [hinstall, hoccur]
  split <;> rfl

end Taken

/-- A clamp that changed the value sets PARAMETER_CLAMPED's flag. -/
theorem parameterTaken_clamped {c : Car} (hi : Intact c) (q : Parameter) (id : Nat) {v w : Nat} (h : w ≠ v) :
    ((parameterTaken q id v w c).evr.source 31).pending = true ∨ c.evr.sources.length ≤ 31 := by
  have hlength : (installParameter q w c).evr.sources.length = c.evr.sources.length := by
    rw [installParameter_eq]
    split
    · rfl
    · exact (applyParameter_raises (c := c.installed q w) hi q).length
  rw [parameterTaken, if_neg h, ← hlength]
  exact Evr.take_pending _ _ .parameterClamped id

/-- A changed value is its owner's, and PARAMETER_CLAMPED changes the events and the reports alone. -/
theorem parameterTaken_changed {c : Car} {q : Parameter} (id v : Nat) {w : Nat} (h : w ≠ c.lif.params.value q) :
    parameterTaken q id v w c = { applyParameter q (c.installed q w) with
      evr := (parameterTaken q id v w c).evr
      vrl := (parameterTaken q id v w c).vrl } ∧
    (applyParameter q (c.installed q w)).evr.Raises (parameterTaken q id v w c).evr ∧
    (w = v → (parameterTaken q id v w c).vrl = (applyParameter q (c.installed q w)).vrl) := by
  have hinstall : installParameter q w c = applyParameter q (c.installed q w) := by
    rw [installParameter_eq, if_neg h.symm]
    rfl
  rw [parameterTaken, hinstall]
  split
  · exact ⟨rfl, .refl _, fun _ => rfl⟩
  · rename_i hw
    exact ⟨rfl, Evr.raises_take .., fun hv => absurd hv hw⟩

theorem parameterSet_taken {c : Car} {id v : Nat} {q : Parameter} (hq : Parameter.ofId id = some q)
    (hstand : c.odo.standstill = true) (hbrakes : bothApplied c = true) (hrange : q.named = true → v ≤ 1) :
    parameterSet id v c = (if c.lif.params.clamp q v = v then .accepted else .acceptedClamped,
      parameterTaken q id v (c.lif.params.clamp q v) c) := by
  have hnamed : ¬ (q.named = true ∧ 1 < v) := fun h => absurd (hrange h.1) (by omega)
  simp only [parameterSet, hq, hstand, hbrakes, Bool.not_true, Bool.false_eq_true, if_false, if_neg hnamed, parameterTaken]
  split <;> rfl

theorem bothApplied_iff (c : Car) : bothApplied c = true ↔
    c.brk.channels.cbA.reading = .applied ∧ c.brk.channels.cbB.reading = .applied := by
  simp only [bothApplied, Bool.and_eq_true, beq_iff_eq]

theorem Lif.append_frames (l : Lif) (link : LinkState) (frames : List Frame) :
    (l.append link frames).frames = l.frames ++ frames := by
  have hfresh : (frames.map (Queued.fresh · l.sourceNumber)).map (·.frame) = frames := by
    rw [List.map_map]
    exact List.map_id frames
  rw [Lif.append, Lif.start_frames]
  simp only [Lif.frames, List.map_append, hfresh]

theorem Lif.answered_frames (l : Lif) (link : LinkState) (via : Via) (kind : Nat) (result : Result) (parts : List ReplyData) :
    (l.answered link via kind result parts).frames = l.frames ++ answerFrames via kind result parts := by
  unfold Lif.answered answerFrames
  split
  · exact Lif.append_frames ..
  · exact (List.append_nil _).symm

/-- A named value that is not refused stays a named value when it is clamped. -/
theorem Params.clamp_named (p : Params) {q : Parameter} (v : Nat) (h : q.named = true) : p.clamp q v ≤ 1 := by
  cases q with
  | thresholdMode | mountingSense | platformOverride =>
    simp only [Params.clamp, Parameter.range]
    omega
  | _ => cases h

/-- PARAMETER SET taken: the answer joins the part with the value installed and its owner told. -/
theorem exec_parameterSet_taken {via : Via} {id v : Nat} {s : State} (hr : Ready s) (hi : Intact s.car)
    (h : Reaches via (.parameterSet id v) s.car) {q : Parameter} (hq : Parameter.ofId id = some q)
    (hstand : s.car.odo.standstill = true) (hbrakes : bothApplied s.car = true) (hrange : q.named = true → v ≤ 1) :
    exec (.parameterSet via id v) s = .next ⟨replied via 28
      (if s.car.lif.params.clamp q v = v then .accepted else .acceptedClamped) [.none]
      (parameterTaken q id v (s.car.lif.params.clamp q v) s.car), s.pending⟩ := by
  have howners := parameterTaken_owners hi q id v (s.car.lif.params.clamp q v)
  have hlif := parameterTaken_lif hi q id v (s.car.lif.params.clamp q v)
  rw [exec_eq_replied_settle rfl hr h (by simp [telegramKind]) (by rw [hlif]; exact hr.unreserved) fun n => ?_]
  · rw [hr.settle_quiet (by rw [howners]; rfl) (by rw [howners]; rfl) (by rw [howners]; rfl) (by rw [howners]; rfl)]
  · show reply via 28 (parameterSet id v (s.car.reserving n)) = _
    rw [parameterSet_taken (c := s.car.reserving n) hq hstand hbrakes hrange, ← parameterTaken_reserving hi]
    rfl

/-- Settles O23: the refusals by the answer they place, the rest by the part with the value installed and its owner told. -/
theorem parameterSetJudgesAndInstalls : Obligations.ParameterSetJudgesAndInstalls := by
  intro via id v s hr hi h i
  have hrefused {result : Result} (hset : ∀ c : Car, c.odo = s.car.odo → c.brk = s.car.brk → parameterSet id v c = (result, c)) :
      exec i s = .next { s with car := replied via 28 result [.none] s.car } :=
    exec_eq_replied rfl hr h (by simp [telegramKind]) hr fun n =>
      congrArg (reply via 28) (hset (s.car.reserving n) rfl rfl)
  refine ⟨fun hq => hrefused fun c _ _ => ?unknown, fun q hq => ⟨fun hmoves => hrefused fun c hodo _ => ?moves,
    fun hstand hbrakes => hrefused fun c hodo hbrk => ?brakes, fun hstand ha hb hnamed hv => hrefused fun c hodo hbrk => ?range,
    fun hstand ha hb hv => ?taken⟩⟩
  case unknown => simp only [parameterSet, hq]
  case moves => simp only [parameterSet, hq, hodo, hmoves, Bool.not_false, if_true]
  case brakes =>
    have hnot : bothApplied c = false := by
      rw [← Bool.not_eq_true, bothApplied_iff, hbrk]
      exact fun hboth => hbrakes.elim (fun hne => hne hboth.1) (fun hne => hne hboth.2)
    simp only [parameterSet, hq, hodo, hstand, hnot, Bool.not_true, Bool.not_false, Bool.false_eq_true, if_false, if_true]
  case range =>
    have happlied : bothApplied c = true := (bothApplied_iff c).2 (by rw [hbrk]; exact ⟨ha, hb⟩)
    simp only [parameterSet, hq, hodo, hstand, happlied, hnamed, hv, Bool.not_true, Bool.false_eq_true, if_false, and_self,
      if_true]
  case taken =>
    intro w
    have hexec := exec_parameterSet_taken hr hi h hq hstand ((bothApplied_iff _).2 ⟨ha, hb⟩) hv
    have howners := parameterTaken_owners hi q id v w
    have hlif := parameterTaken_lif hi q id v w
    have hvalue : (s.car.lif.params.install q w).value q = w := Params.value_install _ q fun hn => Params.clamp_named _ v hn
    have htraffic := (parameterTaken q id v w s.car).lif.answered_traffic (parameterTaken q id v w s.car).vrl.link via 28
      (if w = v then .accepted else .acceptedClamped) [.none]
    have hlifs {α : Type} (f : Lif → α) : f (parameterTaken q id v w s.car).lif = f (s.car.installed q w).lif := congrArg f hlif
    have hparams := (congrArg Lif.params htraffic).trans (hlifs Lif.params)
    refine ⟨_, hexec, rfl, hparams, (congrArg (·.value q) hparams).trans hvalue,
      (congrArg Lif.demand htraffic).trans (hlifs Lif.demand),
      (congrArg Lif.groups htraffic).trans (hlifs Lif.groups), ?frames, (congrArg Car.dor howners :),
      (congrArg (·.pst.table) howners :), (congrArg (·.pst.windows) howners :), (congrArg (·.odo.channels) howners :),
      fun hne => ?flag, fun hsame hw => ?same, ?changed⟩
    case frames => exact (Lif.answered_frames ..).trans (congrArg (·.frames ++ _) hlif)
    case flag => exact parameterTaken_clamped hi q id hne
    case same =>
      have htaken : parameterTaken q id v w s.car = s.car.installed q w := by
        rw [parameterTaken, if_pos hw, installParameter_eq, if_pos hsame.symm]
        rfl
      show replied via 28 (if w = v then .accepted else .acceptedClamped) [.none] (parameterTaken q id v w s.car) = _
      rw [htaken, if_pos hw]
      rfl
    case changed =>
      intro n p unc widened evaluated hne
      obtain ⟨htaken, hraises, hvrl⟩ := parameterTaken_changed (c := s.car) id v hne
      have hii : Intact (s.car.installed q w) := hi
      refine ⟨fun ch hq => ?_, fun hq ch => ?_, fun hch hmin hspan => ?_, fun hq => ?_, fun hq hu => ?_, fun hq hu => ?_,
        fun hq => ?_, fun hq => ?_⟩
      · exact (congrArg Car.tlf htaken :).trans (applyParameter_channel hq)
      · exact (congrArg (·.tlf.get ch) htaken).trans (applyParameter_rest hq ch)
      · exact (congrArg Car.tlf htaken :).trans (applyParameter_tlf hii hch hmin hspan)
      · subst hq
        have hlength := applyParameter_carLength hii
        exact ⟨(congrArg (·.ssv.waiting.cause) htaken :).trans (congrArg (·.ssv.waiting.cause) hlength :),
          (congrArg (·.pst.coverage) htaken :).trans (congrArg (·.pst.coverage) hlength :)⟩
      · have hunknown := (applyParameter_uncertainty hq).trans (rejudgeUncertainty_unknown (c := s.car.installed q w) hu)
        exact ⟨(congrArg Car.odo htaken :).trans (congrArg Car.odo hunknown :),
          (congrArg Car.ssv htaken :).trans (congrArg Car.ssv hunknown :)⟩
      · obtain ⟨hodo, hcoverage, hlost⟩ := rejudgeUncertainty_known (c := s.car.installed q w) hii hu
        rw [applyParameter_uncertainty hq] at htaken hraises
        refine ⟨(congrArg Car.odo htaken :).trans hodo, (congrArg (·.pst.coverage) htaken :).trans hcoverage, fun hw => ?_⟩
        obtain ⟨hcause, hflag⟩ := hlost hw
        exact ⟨(congrArg (·.ssv.waiting.cause) htaken :).trans hcause, hflag.imp_left (hraises.pending 8)⟩
      · have heval := applyParameter_evaluated (c := s.car.installed q w) hq
        exact ⟨(congrArg Car.ssv htaken :).trans (congrArg Car.ssv heval :), (congrArg Car.odo htaken :).trans (congrArg Car.odo heval :),
          (congrArg Car.pst htaken :).trans (congrArg Car.pst heval :)⟩
      · have hlater := applyParameter_later (c := s.car.installed q w) hq
        exact ⟨(congrArg Car.ssv htaken :).trans (congrArg Car.ssv hlater :),
          (congrArg Car.odo htaken :).trans (congrArg Car.odo hlater :), (congrArg Car.pst htaken :).trans (congrArg Car.pst hlater :),
          fun hw => (hvrl hw).trans (congrArg Car.vrl hlater :)⟩

end Sys2Proof.Machine
end

section
/-! The EVR's records: occurrences and the notice queue (R192, R193) and the event telegrams (R191, R194). -/

namespace Sys2Proof.Machine

/-! ## Occurrences (R192) -/

theorem Evr.take_of_reports {e : Evr} {src : Source} (now : Stamp) (detail : Nat) (henable : (e.source src.number).enable = true)
    (hlevel : 0 < (e.source src.number).level) (hroute : (e.source src.number).route ≠ .radio) : e.take now src detail =
      (e.modify src.number fun r => { r with pending := true }).offer
        ⟨src.number, (e.source src.number).level, now, detail⟩ := by
  have hnotice : (e.source src.number).route.toNotice = true := by
    cases h : (e.source src.number).route with
    | radio => exact absurd h hroute
    | notice | both => rfl
  simp only [Evr.take, SourceRecord.reports, henable, hlevel, hnotice, decide_true, Bool.and_self, if_true]

theorem Evr.take_of_silent {e : Evr} {src : Source} (now : Stamp) (detail : Nat)
    (h : (e.source src.number).enable = false ∨ (e.source src.number).level = 0 ∨ (e.source src.number).route = .radio) :
    e.take now src detail = e.modify src.number fun r => { r with pending := true } := by
  have hnot : ((e.source src.number).reports && (e.source src.number).route.toNotice) = false := by
    rw [SourceRecord.reports]
    obtain h | h | h := h
    · rw [h]; rfl
    · rw [h, Bool.and_assoc, Bool.and_left_comm]; rfl
    · rw [h, show Route.toNotice .radio = false from rfl, Bool.and_false]
  simp only [Evr.take, hnot, Bool.false_eq_true, if_false]

theorem alarmed_of_silent {c : Car} {src : Source} (detail : Nat) (h : c.vrl.role = .follower ∨
    (c.evr.source src.number).enable = false ∨ (c.evr.source src.number).level = 0 ∨
    (c.evr.source src.number).route = .notice) : alarmed c src detail = c.vrl := by
  obtain h | h := h
  · simp only [alarmed, Vrl.queueReport, h, reduceCtorEq, if_false, ite_self]
  · have hnot : ((c.evr.source src.number).reports && (c.evr.source src.number).route.toRadio) = false := by
      rw [SourceRecord.reports]
      obtain h | h | h := h
      · rw [h]; rfl
      · rw [h, Bool.and_assoc, Bool.and_left_comm]; rfl
      · rw [h, show Route.toRadio .notice = false from rfl, Bool.and_false]
    simp only [alarmed, hnot, Bool.false_eq_true, if_false]

theorem alarmed_of_reports {c : Car} {src : Source} (detail : Nat) (henable : (c.evr.source src.number).enable = true)
    (hlevel : 0 < (c.evr.source src.number).level) (hroute : (c.evr.source src.number).route ≠ .notice) :
    alarmed c src detail = c.vrl.queueReport c.lif.params.trainId
      (.alarm src.number (c.evr.source src.number).level c.now detail (c.lif.carNumber.getD 0)) := by
  have hradio : (c.evr.source src.number).route.toRadio = true := by
    cases h : (c.evr.source src.number).route with
    | notice => exact absurd h hroute
    | radio | both => rfl
  simp only [alarmed, SourceRecord.reports, henable, hlevel, hradio, decide_true, Bool.and_self, if_true]

/-- The sources' records stand beside the queue: what is offered to it does not read them. -/
theorem Evr.offer_modify (e : Evr) (n : Notice) (k : Nat) (f : SourceRecord → SourceRecord) :
    ((e.modify k f).offer n).notices = (e.offer n).notices ∧ ((e.modify k f).offer n).lost = (e.offer n).lost := by
  have hnotices : (e.modify k f).notices = e.notices := rfl
  unfold Evr.offer
  rw [hnotices]
  split
  · exact ⟨rfl, rfl⟩
  · split
    · exact ⟨rfl, rfl⟩
    · split
      · split <;> exact ⟨rfl, rfl⟩
      · exact ⟨rfl, rfl⟩

theorem Source.number_lt (src : Source) : src.number < 32 := by
  cases src <;> decide

/-! ## A notice offered to the queue (R193) -/

/-- In a queue in the order of its levels, the place of a notice divides those of its level or a higher one from the rest. -/
theorem insertNotice_split (n : Notice) {q : List Notice} (h : q.Pairwise fun a b => b.level ≤ a.level) :
    ∃ a b, q = a ++ b ∧ (∀ m ∈ a, n.level ≤ m.level) ∧ (∀ m ∈ b, m.level < n.level) ∧ insertNotice n q = a ++ n :: b := by
  induction q with
  | nil => exact ⟨[], [], rfl, nofun, nofun, rfl⟩
  | cons m q ih =>
    obtain ⟨hm, hq⟩ := List.pairwise_cons.1 h
    by_cases hle : n.level ≤ m.level
    · obtain ⟨a, b, rfl, ha, hb, hinsert⟩ := ih hq
      refine ⟨m :: a, b, rfl, List.forall_mem_cons.2 ⟨hle, ha⟩, hb, ?_⟩
      rw [insertNotice, insertBy, if_pos (decide_eq_true hle)]
      exact congrArg (m :: ·) hinsert
    · refine ⟨[], m :: q, rfl, nofun, List.forall_mem_cons.2 ⟨by omega, fun x hx => by have := hm x hx; omega⟩, ?_⟩
      rw [insertNotice, insertBy, if_neg (by rw [decide_eq_true_iff]; exact hle)]
      rfl

theorem Evr.offer_merge {e : Evr} {n : Notice} (h : ∃ q ∈ e.notices, q.source = n.source) : e.offer n = { e with
    notices := e.notices.map fun q => if q.source = n.source then { q with stamp := n.stamp, detail := n.detail } else q } := by
  have hany : (e.notices.any fun q => q.source == n.source) = true := by simpa using h
  exact if_pos hany

theorem Evr.offer_new {e : Evr} {n : Notice} (h : ∀ q ∈ e.notices, q.source ≠ n.source) : e.offer n =
    if e.notices.length < 16 then { e with notices := insertNotice n e.notices }
    else e.notices.getLast?.elim { e with lost := bump e.lost } fun low =>
      if low.level < n.level then { e with notices := insertNotice n e.notices.dropLast, lost := bump e.lost }
      else { e with lost := bump e.lost } := by
  have hany : ¬ (e.notices.any fun q => q.source == n.source) = true := by simpa using h
  rw [Evr.offer, if_neg hany]
  cases e.notices.getLast? <;> rfl

/-- Settles O25: the two parts of an occurrence, and the place of a notice in the order of the levels. -/
theorem occurrencesAndNotices : Obligations.OccurrencesAndNotices := by
  refine ⟨fun src detail c hlength => ?occurrence, fun e n hlaw => ⟨fun hmerge => ?merge, fun hnew hroom => ?enter,
    fun hnew hfull low hlast => ?full⟩⟩
  case occurrence =>
    refine ⟨rfl, (Evr.take_length ..).trans hlength, ?_, fun n hn => ?_, fun hsilent => ?_, fun henable hlevel hroute => ?_,
      fun hsilent => alarmed_of_silent detail hsilent, fun _ henable hlevel hroute => alarmed_of_reports detail henable hlevel hroute⟩
    · exact (Evr.take_source ..).trans (Evr.source_modify_self _ _ (hlength ▸ src.number_lt))
    · exact (Evr.take_source ..).trans (Evr.source_modify_ne _ _ hn.symm)
    · have htake := Evr.take_of_silent c.now detail hsilent
      exact ⟨(congrArg Evr.notices htake :), (congrArg Evr.lost htake :)⟩
    · have htake := Evr.take_of_reports c.now detail henable hlevel hroute
      obtain ⟨hnotices, hlost⟩ := Evr.offer_modify c.evr ⟨src.number, (c.evr.source src.number).level, c.now, detail⟩
        src.number fun r => { r with pending := true }
      exact ⟨(congrArg Evr.notices htake :).trans hnotices, (congrArg Evr.lost htake :).trans hlost⟩
  case merge =>
    rw [Evr.offer_merge hmerge]
    exact ⟨rfl, rfl⟩
  case enter =>
    obtain ⟨a, b, hq, ha, hb, hinsert⟩ := insertNotice_split n hlaw.2.1
    exact ⟨a, b, hq, ha, hb, by rw [Evr.offer_new hnew, if_pos hroom, hinsert]⟩
  case full =>
    have hoffer := Evr.offer_new hnew
    rw [if_neg (by omega), hlast, Option.elim_some] at hoffer
    refine ⟨fun hle => hoffer.trans (if_neg (by omega)), fun hlt => ?_⟩
    obtain ⟨init, hinit⟩ := List.getLast?_eq_some_iff.1 hlast
    have hdrop : e.notices.dropLast = init := by rw [hinit, List.dropLast_concat]
    have hpairwise := hlaw.2.1.sublist (List.dropLast_sublist e.notices)
    obtain ⟨a, b, hq, ha, hb, hinsert⟩ := insertNotice_split n hpairwise
    refine ⟨a, b, by rw [← hq, hdrop, hinit], ha, hb, ?_⟩
    rw [hoffer, if_pos hlt, hinsert]
    rfl

/-! ## The event telegrams (R191, R194) -/

theorem Evr.masked_getElem? (e : Evr) (mask : Nat) (f : Nat → SourceRecord → SourceRecord) (n : Nat) :
    (e.masked mask f).sources[n]? = e.sources[n]?.map fun r => if mask.testBit n then f n r else r := by
  simp only [Evr.masked, List.getElem?_map, List.getElem?_zipIdx, Option.map_map, Nat.zero_add]
  rfl

theorem Evr.modify_getElem? (e : Evr) (k : Nat) (f : SourceRecord → SourceRecord) (n : Nat) :
    (e.modify k f).sources[n]? = e.sources[n]?.map fun r => if n = k then f r else r := by
  rw [Evr.modify, List.getElem?_modify]
  congr 1
  funext r
  simp only [eq_comm]

/-- No output is decided from the event records. -/
theorem Ready.with_evr {s : State} (hr : Ready s) (e : Evr) : Ready ⟨{ s.car with evr := e }, s.pending⟩ := by
  obtain ⟨hreset, hs, h0, hb⟩ := hr
  exact ⟨hreset, settle_transfer hs rfl rfl rfl rfl, h0, hb⟩

theorem levelSource_iff (n : Nat) : levelSource n = true ↔ n ∈ [2, 3, 4, 5, 11, 12, 13, 18, 24, 29] := decide_eq_true_iff

theorem Route.ofCode_none {route : Nat} (h : route < 1 ∨ 3 < route) : Route.ofCode route = none := by
  match route, h with
  | 0, _ => rfl
  | n + 4, _ => rfl

section Poll
variable {via : Via} {s : State} (hr : Ready s) (h : Reaches via .noticePoll s.car)
include h

theorem noticePoll_addressed : via.addressing = .car := by
  obtain ⟨-, -, htaken, -⟩ := h
  cases ha : via.addressing with
  | car => rfl
  | group | broadcast =>
    rw [ha] at htaken
    cases htaken

include hr

/-- A NOTICE POLL that reaches its block finds the place of its batch reserved for it (R177, R194). -/
theorem take_noticePoll : take via .noticePoll s.car = { s.car with
    evr := { s.car.evr with notices := s.car.evr.notices.drop 4 }
    lif := s.car.lif.append s.car.vrl.link
      [.noticeBatch via.seq (s.car.evr.notices.take 4) (s.car.evr.sources.map SourceRecord.pending)] } := by
  have ha := noticePoll_addressed h
  obtain ⟨hn, hf, hk, hroom⟩ := h
  have hn' : s.car.lif.carNumber.isNone = false := by rw [← Option.not_isSome, hn]; rfl
  have hroom : s.car.lif.nonReplyRoom = true := hroom ha
  obtain ⟨h0, hb⟩ := hr.unreserved
  have hl : ({ s.car.lif with reservedReplies := 0, reservedBatch := 0 } : Lif) = s.car.lif := by
    generalize s.car.lif = l at h0 hb
    cases l
    cases h0
    cases hb
    rfl
  have htaken : takenByCar 40 = true := by rw [ha] at hk; exact hk
  unfold take accept
  rw [if_neg (by rw [hn', relayedOnly_telegramKind]; simp)]
  simp only [ha, reserve, telegramKind, hf, hroom, and_self, if_true, shutOut, Bool.false_and, Bool.false_eq_true, if_false,
    acceptCar, htaken, Bool.not_true, show knownKind 40 = true from rfl, deliver, noticePoll, hl]

theorem exec_noticePoll : exec (.noticePoll via) s = .next ⟨{ s.car with
    evr := { s.car.evr with notices := s.car.evr.notices.drop 4 }
    lif := s.car.lif.append s.car.vrl.link
      [.noticeBatch via.seq (s.car.evr.notices.take 4) (s.car.evr.sources.map SourceRecord.pending)] }, s.pending⟩ := by
  rw [exec_of_telegram rfl, State.run_of_ready hr.1, take_noticePoll hr h]
  exact congrArg (fun d => Host.Outcome.next (State.mk d s.pending)) (hr.settle_quiet rfl rfl rfl rfl)

end Poll

/-- Settles O26: each telegram by the part it leaves, the sources' records read off one by one. -/
theorem eventTelegramsSetTheSources : Obligations.EventTelegramsSetTheSources := by
  intro via mask source level route s hr
  have hset {t : Telegram} {kind : Nat} (e : Evr) {i : Instr} (hi : i.telegram = some (via, t)) (h : Reaches via t s.car)
      (hp : telegramKind t ≠ 40)
      (hdeliver : ∀ n, deliver via t (s.car.reserving n) = answer via kind .accepted [.none] ({ s.car with evr := e }.reserving n)) :
      exec i s = .next ⟨replied via kind .accepted [.none] { s.car with evr := e }, s.pending⟩ :=
    exec_eq_replied hi hr h hp (hr.with_evr e) hdeliver
  refine ⟨exec_noticePoll hr, fun h => ⟨_, Evr.masked_getElem? _ mask _, hset _ rfl h (by simp [telegramKind]) fun _ => rfl⟩,
    fun h => ⟨_, Evr.masked_getElem? _ mask _, hset _ rfl h (by simp [telegramKind]) fun _ => rfl⟩,
    fun h => ⟨_, fun n => ?clear,
      hset (s.car.evr.masked mask fun n r => if levelSource n then r else { r with pending := false }) rfl h (by simp [telegramKind]) fun _ => rfl⟩,
    fun h => ⟨fun hrange => ?range, fun rt hsource hlevel hroute => ⟨_, Evr.modify_getElem? _ source _, ?level⟩⟩⟩
  case clear =>
    refine (Evr.masked_getElem? s.car.evr mask (fun n r => if levelSource n then r else { r with pending := false }) n).trans ?_
    congr 1
    funext r
    by_cases hlevel : levelSource n = true
    · have hin : ¬ (mask.testBit n = true ∧ n ∉ [2, 3, 4, 5, 11, 12, 13, 18, 24, 29]) :=
        fun hn => hn.2 ((levelSource_iff n).1 hlevel)
      rw [if_neg hin]
      simp only [hlevel, if_true, ite_self]
    · have hedge : n ∉ [2, 3, 4, 5, 11, 12, 13, 18, 24, 29] := fun hn => hlevel ((levelSource_iff n).2 hn)
      simp only [hlevel, hedge, not_false_eq_true, and_true, Bool.false_eq_true, if_false]
  case range =>
    refine exec_eq_replied rfl hr h (by simp [telegramKind]) hr fun n => ?_
    show reply via 38 (eventLevelSet source level route (s.car.reserving n)) = _
    by_cases hroute : route < 1 ∨ 3 < route
    · simp only [eventLevelSet, Route.ofCode_none hroute, reply]
    · have hout : 31 < source ∨ 15 < level := by omega
      cases hcode : Route.ofCode route with
      | none => simp only [eventLevelSet, hcode, reply]
      | some rt => simp only [eventLevelSet, hcode, if_pos hout, reply]
  case level =>
    have hin : ¬ (31 < source ∨ 15 < level) := by omega
    refine hset (s.car.evr.modify source _) rfl h (by simp [telegramKind]) fun n => ?_
    show reply via 38 (eventLevelSet source level route (s.car.reserving n)) = _
    simp only [eventLevelSet, hroute, if_neg hin]
    rfl

end Sys2Proof.Machine
end

section
/-! The telegrams that read: STATUS READ and FAULT RECORD READ (R130, R186), FAULT READ (R38). -/

namespace Sys2Proof.Machine

/-! ## Telegrams that leave what the outputs are decided from -/

/-- A telegram whose block leaves what the outputs are decided from leaves the part its block left, with its answer. -/
theorem exec_eq_replied_quiet {i : Instr} {via : Via} {t : Telegram} (hi : i.telegram = some (via, t)) {s : State} (hr : Ready s)
    (h : Reaches via t s.car) (hp : telegramKind t ≠ 40) {kind : Nat} {result : Result} {parts : List ReplyData} {d : Car}
    (hu : Unreserved d.lif) (hdor : d.dor = s.car.dor) (hbrk : d.brk = s.car.brk) (hfused : d.odo.fused = s.car.odo.fused)
    (hhold : d.ssv.record.hold = s.car.ssv.record.hold)
    (hdeliver : ∀ n, deliver via t (s.car.reserving n) = answer via kind result parts (d.reserving n)) :
    exec i s = .next ⟨replied via kind result parts d, s.pending⟩ := by
  rw [exec_eq_replied_settle hi hr h hp hu hdeliver, hr.settle_quiet hdor hbrk hfused hhold]

/-! ## Telegrams taken in fault stop too (R130, R186) -/

/-- A telegram that fault stop does not shut out is answered by what its block reads, and changes nothing else. -/
theorem exec_read {i : Instr} {via : Via} {t : Telegram} (hi : i.telegram = some (via, t)) {s : State} (hr : Ready s)
    (ha : via.addressing = .car) (hn : s.car.lif.carNumber ≠ none) (hk : telegramKind t = 30 ∨ telegramKind t = 32)
    (hroom : placesFor (telegramKind t) ≤ s.car.lif.freePlaces) {kind : Nat} {result : Result} {parts : List ReplyData}
    (hdeliver : ∀ c : Car, c = { s.car with
      lif := { s.car.lif with reservedReplies := placesFor (telegramKind t), reservedBatch := 0 } } →
      deliver via t c = answer via kind result parts c) :
    exec i s = .next ⟨replied via kind result parts s.car, s.pending⟩ := by
  have hpoll : ¬ (telegramKind t = 40 ∧ s.car.brk.faultStop = false) := by omega
  have hfits : s.car.lif.roomFor (telegramKind t) s.car.brk.faultStop := by rwa [Lif.roomFor, if_neg hpoll]
  obtain ⟨replies, batch, hreserve, hplaces⟩ := reserve_some hr.unreserved hfits
  obtain ⟨rfl, rfl⟩ := hplaces hpoll
  have htaken : takenByCar (telegramKind t) = true := by
    rcases hk with hk | hk
    · rw [hk]; rfl
    · rw [hk]; rfl
  have hopen (c : Car) : shutOut (telegramKind t) c = false := by
    rcases hk with hk | hk
    · rw [shutOut, hk]; exact Bool.and_false _
    · rw [shutOut, hk]; exact Bool.and_false _
  rw [exec_of_telegram hi, hr.run, take, accept_car_some hn (relayedOnly_telegramKind t) ha hreserve, hopen]
  simp only [acceptCar, knownKind_telegramKind, htaken, Bool.not_true, Bool.false_eq_true, if_false]
  rw [hdeliver _ rfl, answer_reserved hr.unreserved ha, settle_replied hr.settled]

/-! ## The mask of the causes held (R109) -/

/-- The bits of a sum of the powers of two that a predicate picks below `n`. -/
theorem causeMask_eq_ofBits (q : PerCause (Option CauseRecord)) :
    causeMask q = Nat.ofBits fun n : Fin 9 => (q.get (Cause.list[n.val]'n.isLt)).isSome := by
  have hbit (b : Bool) (k : Nat) : (if b then 2 ^ k else 0) = 2 ^ k * b.toNat := by cases b <;> simp
  simp only [causeMask, Cause.list, List.map_cons, List.map_nil, List.sum_cons, List.sum_nil, hbit, Cause.code, Nat.ofBits,
    Fin.foldr_succ, Fin.foldr_zero]
  simp only [Fin.val_succ, Fin.val_zero, List.getElem_cons_succ, List.getElem_cons_zero]
  ring

theorem causeMask_testBit (q : PerCause (Option CauseRecord)) (n : Nat) :
    (causeMask q).testBit n = true ↔ ∃ cause : Cause, cause.code = n ∧ q.get cause ≠ none := by
  rw [causeMask_eq_ofBits]
  by_cases hn : n < 9
  · rw [Nat.testBit_ofBits_lt _ _ hn, Option.isSome_iff_ne_none]
    have hcode : ∀ k (hk : k < 9), (Cause.list[k]'hk).code = k := by decide
    have hlist : ∀ cause : Cause, Cause.list[cause.code]? = some cause := by
      intro cause
      cases cause <;> rfl
    refine ⟨fun h => ⟨_, hcode n hn, h⟩, ?_⟩
    rintro ⟨cause, rfl, h⟩
    rwa [(List.getElem_eq_iff hn).2 (hlist cause)]
  · rw [Nat.testBit_ofBits_ge _ _ (by omega)]
    refine ⟨nofun, ?_⟩
    rintro ⟨cause, rfl, -⟩
    exact absurd (by cases cause <;> decide) hn

/-! ## The cap of the overflow list (R85) -/

theorem overflowCap_nil (saturated : Bool) : overflowCap [] saturated = none := by
  cases saturated <;> rfl

theorem overflowCap_saturated {l : List OverflowEntry} (h : l ≠ []) : overflowCap l true = some 0 := by
  cases l with
  | nil => exact absurd rfl h
  | cons x l => rfl

theorem overflowCap_lowest {l : List OverflowEntry} (h : l ≠ []) :
    ∃ x ∈ l, overflowCap l false = some x.speed ∧ ∀ y ∈ l, x.speed ≤ y.speed := by
  have hcap : overflowCap l false = (l.map OverflowEntry.speed).min? := by simp only [overflowCap, Bool.false_and,
    Bool.false_eq_true, if_false]
  obtain ⟨m, hm⟩ : ∃ m, (l.map OverflowEntry.speed).min? = some m := by
    cases l with
    | nil => exact absurd rfl h
    | cons x l => exact ⟨_, rfl⟩
  obtain ⟨hmem, hle⟩ := List.min?_eq_some_iff.1 hm
  obtain ⟨x, hx, rfl⟩ := List.mem_map.1 hmem
  exact ⟨x, hx, hcap.trans hm, fun y hy => hle _ (List.mem_map_of_mem hy)⟩

theorem statusPage_none {page : Nat} (h : page < 1 ∨ 11 < page) (c : Car) : statusPage page c = none := by
  match page, h with
  | 0, _ => rfl
  | n + 12, _ => rfl

/-- Settles O27: a page is read off the part, and neither read shuts out or is shut out by fault stop. -/
theorem statusAndRecordReadsChangeNothing : Obligations.StatusAndRecordReadsChangeNothing := by
  intro via page s hr ha hn
  refine ⟨fun hroom => ⟨fun hpage => ?range, fun hlow hhigh => ?page⟩, fun hroom => ⟨fun hrecord => ?none, fun r hrecord => ?some⟩⟩
  case range =>
    refine exec_read (t := .statusRead page) rfl hr ha hn (.inl rfl) hroom fun c hc => ?_
    simp only [deliver, statusRead, statusPage_none hpage]
  case page =>
    have hread {p : StatusPage} {parts : Nat} (hpage : statusPage page { s.car with
        lif := { s.car.lif with reservedReplies := 3, reservedBatch := 0 } } = some (p, parts)) :
        exec (.statusRead via page) s =
          .next ⟨replied via 30 .accepted (List.replicate parts (.status p)) s.car, s.pending⟩ := by
      refine exec_read (t := .statusRead page) rfl hr ha hn (.inl rfl) hroom fun c hc => ?_
      have hpage : statusPage page c = some (p, parts) := hc ▸ hpage
      simp only [deliver, statusRead, hpage]
    have hcases : page = 1 ∨ page = 2 ∨ page = 3 ∨ page = 4 ∨ page = 5 ∨ page = 6 ∨ page = 7 ∨ page = 8 ∨ page = 9 ∨ page = 10 ∨
      page = 11 := by omega
    have hbusy : (s.car.vrl.transmit != none) = s.car.vrl.transmit.isSome := by
      cases s.car.vrl.transmit <;> rfl
    rcases hcases with rfl | rfl | rfl | rfl | rfl | rfl | rfl | rfl | rfl | rfl | rfl
    all_goals refine ⟨_, _, ?_, rfl, hread rfl⟩
    all_goals simp only [Nat.reduceEqDiff, false_implies, true_and, and_true, forall_const, OfNat.one_ne_ofNat]
    · simp only [Lif.occupancy, Lif.nonReplies, nonReplies_eq]
      rfl
    · rfl
    · rfl
    · refine ⟨_, rfl, fun h => ?_, fun h hsaturated => ?_, fun h hsaturated => ?_⟩
      · rw [h, overflowCap_nil]
      · rw [hsaturated, overflowCap_saturated h]
      · rw [hsaturated]
        exact overflowCap_lowest h
    · exact ⟨_, rfl, causeMask_testBit _⟩
    · rw [hbusy]
  case none =>
    refine exec_read (t := .faultRecordRead) rfl hr ha hn (.inr rfl) hroom fun c hc => ?_
    have hbrk : c.brk = s.car.brk := hc ▸ rfl
    simp only [deliver, faultRecordRead, hbrk, hrecord]
    rfl
  case some =>
    refine exec_read (t := .faultRecordRead) rfl hr ha hn (.inr rfl) hroom fun c hc => ?_
    have hbrk : c.brk = s.car.brk := hc ▸ rfl
    simp only [deliver, faultRecordRead, hbrk, hrecord]
    rfl

/-! ## FAULT READ (R38) -/

/-- A loop channel's record after FAULT READ: cleared, and restarted from FAULT or OFF. -/
def TlfChannel.restarted (p : Params) (ch : LoopChannel) (r : TlfChannel) : TlfChannel :=
  if r.state = .fault then { r.cleared with state := .active, idleFlag := true }
  else if r.state = .off then r.cleared.beginSettling p ch
  else r.cleared

/-- A channel of the odometry after FAULT READ has taken its loop channel from FAULT to ACTIVE. -/
def OdoChannel.regained (state : ChannelState) (r : OdoChannel) : OdoChannel := if state = .fault then r.setValid true else r

section PassTo
variable {ch : LoopChannel} {c : Car}

theorem passTo_gain (h : (c.tlf.get ch).state ≠ .active) : passTo ch .active c =
    handValidity ch true (setLoop ch { c.tlf.get ch with state := .active, idleFlag := true } c) := by
  have hvalid : ((c.tlf.get ch).state == .active) = false := beq_eq_false_iff_ne.2 h
  simp only [passTo, hvalid, h, beq_self_eq_true, Bool.false_eq_true, ne_eq, not_false_eq_true, and_self, if_true, if_false]

theorem passTo_loss {state : ChannelState} (h : (c.tlf.get ch).state = .active) (hs : state ≠ .active) : passTo ch state c =
    handValidity ch false (setLoop ch { c.tlf.get ch with state := state } c) := by
  have hinvalid : (state == .active) = false := beq_eq_false_iff_ne.2 hs
  simp only [passTo, h, hinvalid, hs, beq_self_eq_true, Bool.true_eq_false, false_and, if_false]

theorem passTo_quiet {state : ChannelState} (h : (c.tlf.get ch).state ≠ .active) (hs : state ≠ .active) :
    passTo ch state c = setLoop ch { c.tlf.get ch with state := state } c := by
  have hvalid : ((c.tlf.get ch).state == .active) = false := beq_eq_false_iff_ne.2 h
  have hinvalid : (state == .active) = false := beq_eq_false_iff_ne.2 hs
  simp only [passTo, hvalid, hinvalid, hs, false_and, if_false, if_true]

end PassTo

theorem clearLoop_eq (c : Car) (ch : LoopChannel) : clearLoop c ch = { c with
    tlf := c.tlf.set ch ((c.tlf.get ch).restarted c.lif.params ch)
    odo := { c.odo with channels := c.odo.channels.set ch ((c.odo.channels.get ch).regained (c.tlf.get ch).state) } } := by
  have hkept : c.odo.channels.set ch (c.odo.channels.get ch) = c.odo.channels := PerLoop.set_get ..
  have hset (r : TlfChannel) : setLoop ch r (setLoop ch (c.tlf.get ch).cleared c) = setLoop ch r c := by
    simp only [setLoop, PerLoop.set_set]
  have hget : (setLoop ch (c.tlf.get ch).cleared c).tlf.get ch = (c.tlf.get ch).cleared := by
    rw [setLoop_tlf, PerLoop.get_set_self]
  unfold TlfChannel.restarted OdoChannel.regained
  cases hstate : (c.tlf.get ch).state with
  | fault =>
    have hfault : ((setLoop ch (c.tlf.get ch).cleared c).tlf.get ch).state ≠ .active := by
      rw [hget, show (c.tlf.get ch).cleared.state = _ from hstate]
      nofun
    simp only [clearLoop, hstate, passTo_gain hfault, hget, hset, if_true]
    rfl
  | off =>
    simp only [clearLoop, hstate, reduceCtorEq, if_false, if_true, hkept, hset]
    rfl
  | active | settling =>
    simp only [clearLoop, hstate, reduceCtorEq, if_false, hkept]
    rfl

/-- FAULT READ over a list of channels: each is cleared once, and the rest of the part stays. -/
theorem foldl_clearLoop {l : List LoopChannel} (hl : l.Nodup) (c : Car) : ∃ tlf channels,
    l.foldl clearLoop c = { c with tlf := tlf, odo := { c.odo with channels := channels } } ∧ ∀ ch,
      tlf.get ch = (if ch ∈ l then (c.tlf.get ch).restarted c.lif.params ch else c.tlf.get ch) ∧
      channels.get ch =
        (if ch ∈ l then (c.odo.channels.get ch).regained (c.tlf.get ch).state else c.odo.channels.get ch) := by
  induction l generalizing c with
  | nil => exact ⟨_, _, rfl, fun ch => ⟨rfl, rfl⟩⟩
  | cons k l ih =>
    obtain ⟨hk, hl⟩ := List.nodup_cons.1 hl
    obtain ⟨tlf, channels, hfold, hget⟩ := ih hl (clearLoop c k)
    rw [List.foldl_cons, hfold, clearLoop_eq]
    refine ⟨tlf, channels, rfl, fun ch => ?_⟩
    obtain ⟨htlf, hchannels⟩ := hget ch
    rw [clearLoop_eq] at htlf hchannels
    rw [htlf, hchannels]
    by_cases hch : ch = k
    · subst hch
      simp only [if_neg hk, List.mem_cons_self, if_true, PerLoop.get_set_self, and_self]
    · simp only [PerLoop.get_set_ne _ _ hch, List.mem_cons, hch, false_or, and_self]

/-- A record that begins to settle has its lists empty: the quantities are the initial ones and nothing saturates. -/
theorem TlfChannel.beginSettling_cleared (r : TlfChannel) (p : Params) (ch : LoopChannel) :
    r.cleared.beginSettling p ch = { r.cleared with
      state := .settling, supply := true, restList := [], dataList := [], toothList := [], latest := none, rollRef := none,
      receiver := none, level := none, settle := some 0, i0 := p.i0Min, d1 := 30, d2 := 60,
      t1 := (thresholds p ch p.i0Min 30 60).1, t2 := (thresholds p ch p.i0Min 30 60).2 } := by
  have hquantity (initial lo hi : Nat) (x : Int) : quantity [] initial lo hi x = (initial, false) := rfl
  simp only [TlfChannel.beginSettling, TlfChannel.rework, hquantity, Bool.and_false, Bool.or_false]
  rfl

theorem foldl_clearLoop_reserving (l : List LoopChannel) (n : Nat) (c : Car) :
    l.foldl clearLoop (c.reserving n) = (l.foldl clearLoop c).reserving n := by
  induction l generalizing c with
  | nil => rfl
  | cons ch l ih =>
    have hclear : clearLoop (c.reserving n) ch = (clearLoop c ch).reserving n := by
      rw [clearLoop_eq, clearLoop_eq]
      rfl
    rw [List.foldl_cons, List.foldl_cons, hclear, ih]

/-- Settles O28: each channel's report and then its clear, channel by channel. -/
theorem faultReadClearsAndRestarts : Obligations.FaultReadClearsAndRestarts := by
  intro via s hr h
  have ha : via.addressing = .car := by
    obtain ⟨-, -, htaken, -⟩ := h
    cases ha : via.addressing with
    | car => rfl
    | group | broadcast =>
      rw [ha] at htaken
      cases htaken
  obtain ⟨tlf, channels, hfold, hget⟩ := foldl_clearLoop (l := LoopChannel.list) (by decide) s.car
  have hexec := exec_eq_replied_quiet (i := .faultRead via) rfl hr h (by decide)
    (parts := LoopChannel.list.map fun ch => .loop (loopReport s.car.lif.params ch (s.car.tlf.get ch)))
    (d := { s.car with tlf := tlf, odo := { s.car.odo with channels := channels } }) hr.unreserved rfl rfl rfl rfl
    (kind := 31) (result := .accepted) fun n => by
      rw [← hfold, ← foldl_clearLoop_reserving]
      rfl
  refine ⟨_, hexec, rfl, rfl, if_pos ha, fun ch => ?_⟩
  have hlist : ch ∈ LoopChannel.list := by cases ch <;> decide
  obtain ⟨htlf, hchannels⟩ := hget ch
  rw [if_pos hlist] at htlf hchannels
  intro r cleared
  refine ⟨fun hruns => htlf.trans ?_, fun hfault => ⟨htlf.trans (if_pos hfault), hchannels.trans (if_pos hfault)⟩,
    fun hfault => hchannels.trans (if_neg hfault), fun hoff => htlf.trans ?_⟩
  · have hstate : (s.car.tlf.get ch).state ≠ .fault ∧ (s.car.tlf.get ch).state ≠ .off := by
      rcases hruns with hruns | hruns
      · rw [show (s.car.tlf.get ch).state = _ from hruns]
        exact ⟨nofun, nofun⟩
      · rw [show (s.car.tlf.get ch).state = _ from hruns]
        exact ⟨nofun, nofun⟩
    rw [TlfChannel.restarted, if_neg hstate.1, if_neg hstate.2]
    rfl
  · have hstate : (s.car.tlf.get ch).state = .off := hoff
    rw [TlfChannel.restarted, if_neg (by rw [hstate]; nofun), if_pos hstate]
    exact TlfChannel.beginSettling_cleared ..

end Sys2Proof.Machine
end

section
/-! The brake judgement of a part whose causes change (R101 to R108), EMERGENCY and EMERGENCY RELEASE (R109 to R113). -/

namespace Sys2Proof.Machine

/-! ## The brake judgement -/

/-- Arbitration takes no channel into FAULT or out of it, so the available count is the one of the channels it finds. -/
theorem brkJudge_available (c : Car) : (brkJudge c).brk.available = availableCount c.brk.channels := by
  have hfault (ch : CogChannel) : (judgeChannel c ch).state = .fault ↔ (c.brk.channels.get ch).state = .fault := by
    rw [judgeChannel, CogRecord.drive_state]
    exact CogRecord.takeCommand_fault ..
  show availableCount ⟨judgeChannel c .cbA, judgeChannel c .cbB⟩ = _
  simp only [availableCount, hfault]
  rfl

theorem brkJudge_ssv_same {c : Car} (h : c.brk.available = availableCount c.brk.channels) : (brkJudge c).ssv = c.ssv := by
  have havailable := brkJudge_available c
  exact if_pos (havailable.trans h.symm)

theorem Ready.brakes {s : State} (hr : Ready s) : BrakesSettled s.car := ((settle_eq_self_iff s.car).1 hr.settled).2

theorem Ready.doors {s : State} (hr : Ready s) : DoorsSettled s.car := ((settle_eq_self_iff s.car).1 hr.settled).1

/-- A part whose judgement is settled but for its causes, its test or its brake records: only the brake judgement is left. -/
theorem Ready.settle_brakes_of {s : State} (hr : Ready s) {d : Car} (hdor : d.dor = s.car.dor)
    (hfused : d.odo.fused = s.car.odo.fused) (hproven : d.brk.doorsProven = s.car.brk.doorsProven)
    (hhold : d.brk.doorHold = s.car.brk.doorHold) (hcondition : d.brk.conditions.door = s.car.brk.conditions.door)
    (hcause : ∀ r, s.car.brk.causes.door = some r → r.present = true → d.brk.causes.door = some r) : settle d = brkJudge d := by
  obtain ⟨hjudged, hgivenProven, hgivenHold, hgivenCondition, hpresent⟩ := hr.doors
  have hdoors : DoorsSettled d := by
    refine ⟨by rw [hdor, hfused, hjudged], by rw [hproven, hdor, hgivenProven], by rw [hhold, hdor, hgivenHold],
      fun h => hcondition.trans (hgivenCondition (hdor ▸ h)), fun h => ?_⟩
    obtain ⟨r, hr, hp⟩ := hpresent (hdor ▸ h)
    exact ⟨r, hcause r hr hp, hp⟩
  rw [settle, dorJudge_eq_self_of hdoors]

/-- In fault stop and under a cause each channel is commanded to apply and, with no test, de-energised (R100, R102). -/
theorem judgeChannel_stopped {c : Car} (h : c.brk.faultStop = true ∨ causesEmpty c.brk.causes = false) (ch : CogChannel) :
    (judgeChannel c ch).command = .apply ∧
    (judgeChannel c ch).holder = (if c.brk.faultStop then .faultStop else .emergency) ∧
    (c.brk.test.commandFor ch = none → (judgeChannel c ch).energised = false) := by
  obtain ⟨hcommand, hholder⟩ := CogRecord.takeCommand_command (c.brk.channels.get ch) (arbitrate c ch).1 (arbitrate c ch).2
  have happly := arbitrate_of_stopped h ch
  refine ⟨?_, ?_, fun htest => ?_⟩
  · rw [judgeChannel, CogRecord.drive_command, hcommand, happly]
  · rw [judgeChannel, CogRecord.drive_holder, hholder, arbitrate]
    split
    · rfl
    · rename_i hstop
      rw [h.resolve_left hstop]
      rfl
  · rw [judgeChannel, CogRecord.drive_energised, CogRecord.drives, hcommand, happly, htest]
    split <;> rfl

theorem brkJudge_holder (c : Car) (ch : CogChannel) : ((brkJudge c).brk.channels.get ch).holder = (arbitrate c ch).1 := by
  rw [brkJudge_channel, judgeChannel, CogRecord.drive_holder]
  exact (CogRecord.takeCommand_command ..).2

theorem serviceLevel_stopped {c : Car} (h : c.brk.faultStop = true ∨ causesEmpty c.brk.causes = false) :
    serviceLevel c = max 7 c.brk.copy.level := by
  have hseven : (c.brk.intervention || !causesEmpty c.brk.causes || c.brk.faultStop) = true := by
    rcases h with h | h
    · rw [h, Bool.or_true]
    · rw [h, Bool.not_false, Bool.or_true, Bool.true_or]
  rw [serviceLevel, if_pos hseven]
  split <;> omega

theorem tractionPermitted_stopped {c : Car} (h : c.brk.faultStop = true ∨ causesEmpty c.brk.causes = false)
    (channels : PerCog CogRecord) : tractionPermitted c channels = false := by
  rw [← Bool.not_eq_true, tractionPermitted_iff]
  rintro ⟨hstop, hempty, -⟩
  rcases h with h | h
  · rw [hstop] at h; cases h
  · rw [hempty] at h; cases h

/-! ## EMERGENCY RELEASE (R113) -/

/-- A cause's record after an EMERGENCY RELEASE of a mask that names it or not. -/
def releasedRecord (mask : Nat) (q : PerCause (Option CauseRecord)) (cause : Cause) : Option CauseRecord :=
  if mask.testBit cause.code = true ∧ (∃ r, q.get cause = some r ∧ r.present = false) then none else q.get cause

/-- One cause of the set judged against a mask. -/
def releaseCause (mask : Nat) (q : PerCause (Option CauseRecord)) (cause : Cause) : PerCause (Option CauseRecord) :=
  q.set cause (releasedRecord mask q cause)

theorem releaseCauses_eq (mask : Nat) (q : PerCause (Option CauseRecord)) :
    releaseCauses mask q = Cause.list.foldl (releaseCause mask) q := by
  unfold releaseCauses
  congr 1
  funext q cause
  unfold releaseCause releasedRecord
  cases h : q.get cause with
  | none =>
    have hnot : ¬ (mask.testBit cause.code = true ∧ ∃ r, (none : Option CauseRecord) = some r ∧ r.present = false) := by simp
    have hset : q.set cause none = q := by rw [← h, PerCause.set_get]
    rw [if_neg hnot, hset]
  | some r =>
    have hset : q.set cause (some r) = q := by rw [← h, PerCause.set_get]
    have hiff : (mask.testBit cause.code && !r.present) = true ↔
        mask.testBit cause.code = true ∧ ∃ x, some r = some x ∧ x.present = false := by simp
    by_cases hnamed : (mask.testBit cause.code && !r.present) = true
    · rw [if_pos (hiff.1 hnamed)]
      exact if_pos hnamed
    · rw [if_neg (mt hiff.2 hnamed), hset]
      exact if_neg hnamed

theorem releaseCauses_get (mask : Nat) (q : PerCause (Option CauseRecord)) (cause : Cause) :
    (releaseCauses mask q).get cause = releasedRecord mask q cause := by
  have hfold {l : List Cause} (hl : l.Nodup) (q : PerCause (Option CauseRecord)) :
      (l.foldl (releaseCause mask) q).get cause = if cause ∈ l then releasedRecord mask q cause else q.get cause := by
    induction l generalizing q with
    | nil => rfl
    | cons k l ih =>
      obtain ⟨hk, hl⟩ := List.nodup_cons.1 hl
      rw [List.foldl_cons, ih hl]
      by_cases hcause : cause = k
      · subst hcause
        rw [if_neg hk, if_pos List.mem_cons_self, releaseCause, PerCause.get_set_self]
      · simp only [releasedRecord, releaseCause, PerCause.get_set_ne _ _ hcause, List.mem_cons, hcause, false_or]
  rw [releaseCauses_eq, hfold (by decide), if_pos (by cases cause <;> decide)]

/-! ## The causes held, as a report shows them (R109) -/

theorem mem_causeRecords {q : PerCause (Option CauseRecord)} {cause : Cause} {r : CauseRecord} :
    (cause, r) ∈ causeRecords q ↔ q.get cause = some r := by
  have hmem : cause ∈ Cause.list := by cases cause <;> decide
  simp only [causeRecords, List.mem_filterMap, Option.map_eq_some_iff, Prod.mk.injEq]
  exact ⟨fun ⟨_, _, _, hget, hcause, hrecord⟩ => hcause ▸ hrecord ▸ hget, fun hget => ⟨cause, hmem, r, hget, rfl, rfl⟩⟩

theorem causeRecords_sorted (q : PerCause (Option CauseRecord)) : (causeRecords q).Pairwise fun a b => a.1.code < b.1.code := by
  have hlist : Cause.list.Pairwise fun a b => a.code < b.code := by decide
  refine hlist.filterMap _ fun a b hab x hx y hy => ?_
  obtain ⟨_, -, rfl⟩ := Option.map_eq_some_iff.1 hx
  obtain ⟨_, -, rfl⟩ := Option.map_eq_some_iff.1 hy
  exact hab

/-! ## EMERGENCY (R110, R111) -/

/-- A cause handed again with its flag clear changes nothing. -/
theorem addCause_again {c : Car} {cause : Cause} {r : CauseRecord} (h : c.brk.causes.get cause = some r) :
    addCause cause false c = c := by
  have hset : c.brk.causes.set cause (some r) = c.brk.causes := by rw [← h, PerCause.set_get]
  simp only [addCause, h, Bool.or_false, hset]

theorem Ready.settle_addCause {s : State} (hr : Ready s) {cause : Cause} (hdoor : cause ≠ .door) :
    settle (addCause cause false s.car) = brkJudge (addCause cause false s.car) := by
  refine hr.settle_brakes (addCause_dor ..) (by rw [addCause_odo]) (addCause_doorsProven ..) (addCause_doorHold ..)
    (by rw [addCause_conditions]) ?_
  rw [addCause_causes]
  exact PerCause.get_set_ne (b := .door) _ _ hdoor.symm

theorem exec_emergency {via : Via} {s : State} (hr : Ready s) (h : Reaches via .emergency s.car) :
    exec (.emergency via) s = .next ⟨replied via 4 .accepted [.none] (brkJudge (addCause .cabEmergency false s.car)), s.pending⟩ := by
  rw [exec_eq_replied_settle rfl hr h (by decide) (d := addCause .cabEmergency false s.car)
    (by rw [addCause_lif]; exact hr.unreserved) fun n => ?_, hr.settle_addCause (cause := .cabEmergency) nofun]
  have hlif : addCause .cabEmergency false (s.car.reserving n) = (addCause .cabEmergency false s.car).reserving n := by
    rw [Car.reserving, Car.reserving, addCause_lif]
    exact addCause_withLif (l := { s.car.lif with reservedReplies := n }) ⟨rfl, rfl⟩ ..
  exact congrArg (fun c => reply via 4 (.accepted, c)) hlif

/-- The car has not stood for the 3 s that EMERGENCY RELEASE asks for. -/
theorem emergencyRelease_moving {mask : Nat} {c : Car} (hmask : mask ≤ 511) (h : c.odo.standstill = false ∨
    c.brk.standstillSince = none ∨ ∃ t, c.brk.standstillSince = some t ∧ since c.now t < 300) :
    emergencyRelease mask c = (.notStandstill, c) := by
  have hrange : ¬ 511 < mask := by omega
  rcases h with h | h | ⟨t, ht, hshort⟩
  · simp only [emergencyRelease, if_neg hrange, h]
  · cases hstand : c.odo.standstill <;> simp only [emergencyRelease, if_neg hrange, hstand, h]
  · cases hstand : c.odo.standstill <;> simp only [emergencyRelease, if_neg hrange, hstand, ht, if_pos hshort]

/-- The part with the causes that an EMERGENCY RELEASE leaves. -/
def released (mask : Nat) (c : Car) : Car := { c with brk := { c.brk with causes := releaseCauses mask c.brk.causes } }

theorem emergencyRelease_standing {mask : Nat} {c : Car} {stood : Stamp} (hmask : mask ≤ 511) (hstand : c.odo.standstill = true)
    (hstood : c.brk.standstillSince = some stood) (hlong : 300 ≤ since c.now stood) :
    emergencyRelease mask c = (.accepted, released mask c) := by
  have hrange : ¬ 511 < mask := by omega
  have hshort : ¬ since c.now stood < 300 := by omega
  simp only [emergencyRelease, released, if_neg hrange, hstand, hstood, if_neg hshort]

theorem Ready.settle_released {s : State} (hr : Ready s) (mask : Nat) : settle (released mask s.car) = brkJudge (released mask s.car) := by
  refine hr.settle_brakes_of rfl rfl rfl rfl rfl fun r hdoor hpresent => ?_
  have hkept : ¬ (mask.testBit Cause.door.code = true ∧
      ∃ x, s.car.brk.causes.get .door = some x ∧ x.present = false) := by
    rintro ⟨-, x, hx, hclear⟩
    cases hx.symm.trans hdoor
    rw [hpresent] at hclear
    cases hclear
  exact (releaseCauses_get mask s.car.brk.causes .door).trans ((if_neg hkept).trans hdoor)

theorem exec_emergencyRelease {via : Via} {mask : Nat} {s : State} (hr : Ready s) (h : Reaches via (.emergencyRelease mask) s.car)
    {stood : Stamp} (hmask : mask ≤ 511) (hstand : s.car.odo.standstill = true) (hstood : s.car.brk.standstillSince = some stood)
    (hlong : 300 ≤ since s.car.now stood) :
    exec (.emergencyRelease via mask) s = .next ⟨replied via 5 .accepted
      [.causes (causeRecords (releaseCauses mask s.car.brk.causes)) (causeMask (releaseCauses mask s.car.brk.causes))]
      (brkJudge (released mask s.car)), s.pending⟩ := by
  rw [exec_eq_replied_settle rfl hr h (by simp [telegramKind]) (d := released mask s.car) hr.unreserved fun n => ?_,
    hr.settle_released]
  simp only [deliver, emergencyRelease_standing (c := s.car.reserving n) hmask hstand hstood hlong, if_true]
  rfl

/-- With no cause in the set no channel is held by the emergency. -/
theorem arbitrate_of_empty {c : Car} (h : causesEmpty c.brk.causes = true) (ch : CogChannel) : (arbitrate c ch).1 ≠ .emergency := by
  unfold arbitrate
  rw [h]
  split
  · nofun
  · rw [Bool.not_true, if_neg Bool.false_ne_true]
    split
    · nofun
    · split
      · nofun
      · split <;> nofun

/-- Settles O30: EMERGENCY by the cause it adds, EMERGENCY RELEASE by the causes it leaves. -/
theorem emergencyIsSetAndReleased : Obligations.EmergencyIsSetAndReleased := by
  refine ⟨fun via s hr h => ⟨fun hset => ?again, fun hnone => ?emergency⟩, fun via mask s hr h =>
    ⟨fun hrange => ?range, fun hmask hmoves => ?moving, fun stood hmask hstand hstood hlong => ?release⟩⟩
  case again =>
    obtain ⟨r, hr'⟩ := Option.ne_none_iff_exists'.1 hset
    rw [exec_emergency hr h, addCause_again (cause := .cabEmergency) hr', (brkJudge_eq_self_iff _).2 hr.brakes]
  case emergency =>
    have hcauses := addCause_causes .cabEmergency s.car false
    rw [show s.car.brk.causes.get .cabEmergency = none from hnone] at hcauses
    have hstopped : (addCause .cabEmergency false s.car).brk.faultStop = true ∨
        causesEmpty (addCause .cabEmergency false s.car).brk.causes = false := by
      rw [hcauses]
      exact .inr (causesEmpty_set_some ..)
    have htest : (addCause .cabEmergency false s.car).brk.test = .off := by
      rw [addCause_test]
      exact if_pos hnone
    have hrunning : (addCause .cabEmergency false s.car).brk.faultStop = false := by
      rw [addCause_faultStop]
      exact h.2.1
    refine ⟨_, exec_emergency hr h, rfl, hcauses, addCause_conditions .., htest, fun ch => ?_, ?_, tractionPermitted_stopped hstopped _,
      ?_, addCause_tlf .., addCause_odo .., addCause_pst .., ?_, addCause_dor .., fun hoff => addCause_evr _ _ _ nofun hnone hoff⟩
    · obtain ⟨hcommand, hholder, henergised⟩ := judgeChannel_stopped hstopped ch
      rw [hrunning] at hholder
      have hfault := judgeChannel_state_fault (addCause .cabEmergency false s.car) ch
      rw [addCause_channels, Bool.eq_iff_iff, beq_iff_eq, beq_iff_eq] at hfault
      have hchannel : (replied via 4 .accepted [.none] (brkJudge (addCause .cabEmergency false s.car))).brk.channels.get ch =
          judgeChannel (addCause .cabEmergency false s.car) ch := brkJudge_channel ..
      rw [hchannel]
      exact ⟨hcommand, hholder, henergised (by rw [htest]; rfl), hfault⟩
    · exact (serviceLevel_stopped hstopped).trans (by rw [addCause_copy])
    · exact (Lif.answered_frames ..).trans (by rw [brkJudge_lif, addCause_lif])
    · refine (brkJudge_ssv_same ?_).trans (addCause_ssv ..)
      rw [addCause_available, addCause_channels]
      exact hr.brakes.available
  case range =>
    refine exec_eq_replied rfl hr h (by simp [telegramKind]) hr fun n => ?_
    simp only [deliver, emergencyRelease, if_pos hrange, reduceCtorEq, if_false]
  case moving =>
    refine exec_eq_replied rfl hr h (by simp [telegramKind]) hr fun n => ?_
    simp only [deliver, emergencyRelease_moving (c := s.car.reserving n) hmask hmoves, reduceCtorEq, if_false]
  case release =>
    have hexec := exec_emergencyRelease hr h hmask hstand hstood hlong
    refine ⟨_, _, hexec, rfl, releaseCauses_get mask s.car.brk.causes, rfl, rfl, rfl, fun _ _ => mem_causeRecords,
      causeRecords_sorted _, rfl, rfl, rfl, brkJudge_ssv_same hr.brakes.available, rfl, rfl, rfl, fun hempty => ⟨rfl, fun ch => ?_⟩⟩
    have hholder := brkJudge_holder (released mask s.car) ch
    exact fun hemergency => arbitrate_of_empty (c := released mask s.car) hempty ch (hholder.symm.trans hemergency)

end Sys2Proof.Machine
end

section
/-! The brake test telegrams and the test timer (R119 to R124). -/

namespace Sys2Proof.Machine

/-! ## Arbitration under a test (R102) -/

section Arbitrate
variable {c : Car} {ch : CogChannel}

theorem brkJudge_command (c : Car) (ch : CogChannel) : ((brkJudge c).brk.channels.get ch).command = (arbitrate c ch).2 := by
  rw [brkJudge_channel, judgeChannel, CogRecord.drive_command]
  exact (CogRecord.takeCommand_command ..).1

theorem arbitrate_test (hstop : c.brk.faultStop = false) (hempty : causesEmpty c.brk.causes = true) {cmd : BrakeCommand}
    (h : c.brk.test.commandFor ch = some cmd) : arbitrate c ch = (.test, cmd) := by
  simp only [arbitrate, hstop, hempty, h, Bool.false_eq_true, Bool.not_true, if_false]

theorem arbitrate_untested (hstop : c.brk.faultStop = false) (hempty : causesEmpty c.brk.causes = true)
    (h : c.brk.test.commandFor ch = none) : arbitrate c ch =
      if holdPlaced c then (.hold, .apply) else if releasePresent c.brk ch then (.release, .release) else (.none, .apply) := by
  simp only [arbitrate, hstop, hempty, h, Bool.false_eq_true, Bool.not_true, if_false]

/-- While a test is in progress a channel that is not selected for it is commanded to apply (R104). -/
theorem arbitrate_testing (h : c.brk.test.commandFor ch = none) (htest : c.brk.test ≠ .off) : (arbitrate c ch).2 = .apply := by
  have hrelease : releasePresent c.brk ch = false := by
    have hoff : (c.brk.test == .off) = false := beq_eq_false_iff_ne.2 htest
    simp only [releasePresent, hoff, Bool.and_false, Bool.false_and]
  unfold arbitrate
  rw [h, hrelease]
  split
  · rfl
  · split
    · rfl
    · dsimp only
      split <;> rfl

/-- With the test OFF a channel is commanded to release when nothing above the release holder stands (R102 to R104). -/
theorem arbitrate_release_iff (htest : c.brk.test = .off) : (arbitrate c ch).2 = .release ↔
    c.brk.faultStop = false ∧ causesEmpty c.brk.causes = true ∧ c.ssv.record.hold = false ∧ c.brk.doorHold = false ∧
      c.brk.copy.release = true ∧ (c.brk.channels.get ch).state ≠ .fault := by
  have hcommand : c.brk.test.commandFor ch = none := by rw [htest]; rfl
  have hrelease : releasePresent c.brk ch = true ↔ c.brk.copy.release = true ∧ (c.brk.channels.get ch).state ≠ .fault := by
    simp only [releasePresent, htest, beq_self_eq_true, Bool.and_true, Bool.and_eq_true, Bool.not_eq_true', beq_eq_false_iff_ne]
  have hhold : holdPlaced c = true ↔ ¬ (c.ssv.record.hold = false ∧ c.brk.doorHold = false) := by
    rw [holdPlaced, ← Bool.or_eq_false_iff, Bool.not_eq_false]
  by_cases hstopped : c.brk.faultStop = true ∨ causesEmpty c.brk.causes = false
  · rw [arbitrate_of_stopped hstopped]
    refine ⟨nofun, fun h => ?_⟩
    rcases hstopped with hstop | hcauses
    · exact absurd (hstop.symm.trans h.1) nofun
    · exact absurd (hcauses.symm.trans h.2.1) nofun
  · obtain ⟨hstop, hempty⟩ := not_or.1 hstopped
    rw [Bool.not_eq_true] at hstop
    rw [Bool.not_eq_false] at hempty
    rw [arbitrate_untested hstop hempty hcommand]
    split
    · rename_i hplaced
      exact ⟨nofun, fun h => absurd ⟨h.2.2.1, h.2.2.2.1⟩ (hhold.1 hplaced)⟩
    · rename_i hfree
      obtain ⟨hnohold, hnodoor⟩ := not_not.1 (mt hhold.2 hfree)
      split
      · rename_i hpresent
        exact ⟨fun _ => ⟨hstop, hempty, hnohold, hnodoor, hrelease.1 hpresent⟩, fun _ => rfl⟩
      · rename_i habsent
        exact ⟨nofun, fun h => absurd (hrelease.2 h.2.2.2.2) habsent⟩

theorem brkJudge_release_iff (htest : c.brk.test = .off) : ((brkJudge c).brk.channels.get ch).command = .release ↔
    c.brk.faultStop = false ∧ causesEmpty c.brk.causes = true ∧ c.ssv.record.hold = false ∧ c.brk.doorHold = false ∧
      c.brk.copy.release = true ∧ (c.brk.channels.get ch).state ≠ .fault := by
  rw [brkJudge_command]
  exact arbitrate_release_iff htest

/-- A test in progress finds no cause in the set (R119, R124). -/
theorem TestLaw.causesEmpty {b : Brk} (h : TestLaw b) (htest : b.test ≠ .off) : causesEmpty b.causes = true := by
  rw [← Bool.not_eq_false]
  exact fun hcause => htest (h (.inr hcause))

/-- A channel commanded to apply is not in RELEASED once it has taken the command (R96). -/
theorem CogRecord.takeCommand_apply_state (r : CogRecord) (holder : Holder) : (r.takeCommand holder .apply).state ≠ .released := by
  obtain ⟨state, command, h, en, reading, tr, de, pin, rb, rep, reason⟩ := r
  cases state <;> cases reading <;> nofun

theorem brkJudge_traction_of_apply (h : (arbitrate c .cbA).2 = .apply) : (brkJudge c).brk.tractionOk = false := by
  show tractionPermitted c ⟨judgeChannel c .cbA, judgeChannel c .cbB⟩ = false
  rw [← Bool.not_eq_true, tractionPermitted_iff]
  rintro ⟨-, -, -, hreleased, -, -⟩
  simp only [judgeChannel, CogRecord.drive_state, h] at hreleased
  exact CogRecord.takeCommand_apply_state _ _ hreleased

/-- The output of a channel selected for test that is in FAULT follows the test command (R100). -/
theorem brkJudge_fault_energised {cmd : BrakeCommand} (h : c.brk.test.commandFor ch = some cmd)
    (hfault : (c.brk.channels.get ch).state = .fault) : ((brkJudge c).brk.channels.get ch).energised = true ↔ cmd = .release := by
  have htaken := (CogRecord.takeCommand_fault (c.brk.channels.get ch) (arbitrate c ch).1 (arbitrate c ch).2).2 hfault
  rw [brkJudge_channel, judgeChannel, CogRecord.drive_energised, CogRecord.drives, if_pos htaken, h, beq_iff_eq, Option.some_inj]

end Arbitrate

/-- The part with its brake test and its test result records become others. -/
def Car.testing (c : Car) (t : BrakeTest) (results : PerCog TestRecord) : Car :=
  { c with brk := { c.brk with test := t, results := results } }

/-- What the outputs are decided from of a test: the command of each channel, whether one is selected, and whether the test is
OFF. -/
theorem BrakesSettled.with_test {c : Car} (h : BrakesSettled c) {t : BrakeTest} (results : PerCog TestRecord)
    (hcommand : ∀ ch, t.commandFor ch = c.brk.test.commandFor ch) (hselected : t.isSelected = c.brk.test.isSelected)
    (hoff : (t == .off) = (c.brk.test == .off)) : BrakesSettled (c.testing t results) := by
  have harbitrate (ch : CogChannel) : arbitrate (c.testing t results) ch = arbitrate c ch := by
    simp only [arbitrate, releasePresent, Car.testing, hcommand, hoff]
    rfl
  refine ⟨fun ch => ?_, ?_, h.available, h.svcValid, h.svcLevel, h.tractionOk⟩
  · refine Eq.trans ?_ (h.channels ch)
    simp only [judgeChannel, harbitrate]
    simp only [Car.testing, hcommand]
  · exact h.holdPending.trans (by rw [← hselected]; rfl)

/-! ## The brake test telegrams -/

/-- A brake test telegram taken: the brakes are judged, and the answer carries the test fields as the judgement leaves them
(R118). -/
theorem exec_test {i : Instr} {via : Via} {t : Telegram} (hi : i.telegram = some (via, t)) {s : State} (hr : Ready s)
    (h : Reaches via t s.car) (hp : telegramKind t ≠ 40) {kind : Nat} {result : Result} {d : Car} (hu : Unreserved d.lif)
    (hsettle : settle d = brkJudge d)
    (hdeliver : ∀ n, deliver via t (s.car.reserving n) = testReply via kind (result, d.reserving n)) :
    exec i s = .next ⟨replied via kind result [.brakeTest d.brk.test (d.brk.test.isSelected && holdPlaced d) d.brk.results]
      (brkJudge d), s.pending⟩ := by
  rw [exec_eq_replied_settle hi hr h hp (d := brkJudge d) hu fun n => ?_, ← hsettle, settle_settle]
  have hreserving : settle (d.reserving n) = (settle d).reserving n := by
    refine (settle_withLif (c := d) (l := { d.lif with reservedReplies := n }) ⟨rfl, rfl⟩).trans ?_
    rw [hsettle]
    rfl
  rw [hdeliver, testReply, hreserving, hsettle]
  rfl

/-- A brake test telegram refused changes nothing but its answer. -/
theorem exec_test_refused {i : Instr} {via : Via} {t : Telegram} (hi : i.telegram = some (via, t)) {s : State} (hr : Ready s)
    (h : Reaches via t s.car) (hp : telegramKind t ≠ 40) {kind : Nat} {result : Result}
    (hdeliver : ∀ n, deliver via t (s.car.reserving n) = testReply via kind (result, s.car.reserving n)) :
    exec i s = .next ⟨replied via kind result [.brakeTest s.car.brk.test s.car.brk.holdPending s.car.brk.results] s.car,
      s.pending⟩ := by
  have hjudge : brkJudge s.car = s.car := (brkJudge_eq_self_iff _).2 hr.brakes
  rw [exec_test hi hr h hp hr.unreserved (hr.settled.trans hjudge.symm) hdeliver, hjudge, hr.brakes.holdPending]

/-- A part whose test has become another one: the doors are settled, and only the brakes are judged. -/
theorem Ready.settle_tested {s : State} (hr : Ready s) (t : BrakeTest) (results : PerCog TestRecord) :
    settle (s.car.testing t results) =
      brkJudge (s.car.testing t results) :=
  hr.settle_brakes rfl rfl rfl rfl rfl rfl

theorem exec_tested {i : Instr} {via : Via} {t : Telegram} (hi : i.telegram = some (via, t)) {s : State} (hr : Ready s)
    (h : Reaches via t s.car) (hp : telegramKind t ≠ 40) {kind : Nat} {test : BrakeTest} {results : PerCog TestRecord}
    (hdeliver : ∀ n, deliver via t (s.car.reserving n) = testReply via kind (.accepted,
      (s.car.testing test results).reserving n)) :
    exec i s = .next ⟨replied via kind .accepted
      [.brakeTest test (test.isSelected && (s.car.ssv.record.hold || s.car.brk.doorHold)) results]
      (brkJudge (s.car.testing test results)), s.pending⟩ :=
  exec_test hi hr h hp hr.unreserved (hr.settle_tested test results) hdeliver

theorem exec_tested_ssv {s : State} (hr : Ready s) (t : BrakeTest) (results : PerCog TestRecord) :
    (brkJudge (s.car.testing t results)).ssv = s.car.ssv :=
  brkJudge_ssv_same hr.brakes.available

theorem CogChannel.ofNumber_none {n : Nat} (h1 : n ≠ 1) (h2 : n ≠ 2) : CogChannel.ofNumber n = none := by
  match n with
  | 0 => rfl
  | 1 => exact absurd rfl h1
  | 2 => exact absurd rfl h2
  | n + 3 => rfl

section Taken
variable {c : Car}

theorem testOn_taken (htest : c.brk.test = .off) (hstand : c.odo.standstill = true) (hproven : c.brk.doorsProven = true)
    (hcauses : causesEmpty c.brk.causes = true) : testOn c = (.accepted, c.testing .onIdle c.brk.results) := by
  simp only [testOn, Car.testing, htest, hstand, hproven, hcauses, Bool.not_true, Bool.false_eq_true, if_false]

theorem testOff_taken (htest : c.brk.test = .onIdle) : testOff c = (.accepted, c.testing .off c.brk.results) := by
  simp only [testOff, Car.testing, htest]

theorem selectChannel_taken {n : Nat} {ch : CogChannel} (hn : CogChannel.ofNumber n = some ch) (htest : c.brk.test = .onIdle) :
    selectChannel n c =
      (.accepted, c.testing (.onSelected ⟨ch, .apply, false, none, none, 0⟩) (c.brk.results.set ch .reset)) := by
  simp only [selectChannel, Car.testing, hn, htest]

end Taken

/-- Settles O35: TEST ON, TEST OFF and SELECT by the test they leave. -/
theorem testIsEnteredAndSelects : Obligations.TestIsEnteredAndSelects := by
  intro via n s hr refused
  refine ⟨fun h => ?on, fun h => ?off, fun h => ?select⟩
  case on =>
    have hrefused {result : Result} (hon : ∀ c : Car, c.brk = s.car.brk → c.odo = s.car.odo → testOn c = (result, c)) :
        refused (.testOn via) 12 result :=
      exec_test_refused rfl hr h (by decide) fun n => congrArg (testReply via 12) (hon _ rfl rfl)
    refine ⟨fun htest => hrefused fun c hb ho => ?_, fun htest hmoves => hrefused fun c hb ho => ?_,
      fun htest hstand hopen => hrefused fun c hb ho => ?_, fun htest hstand hproven hcauses => hrefused fun c hb ho => ?_,
      fun htest hstand hproven hcauses => ?_⟩
    · cases ht : s.car.brk.test with
      | off => exact absurd ht htest
      | onIdle | onSelected sel => simp only [testOn, hb, ht]
    · simp only [testOn, hb, ho, htest, hmoves, Bool.not_false, if_true]
    · simp only [testOn, hb, ho, htest, hstand, hopen, Bool.not_true, Bool.not_false, Bool.false_eq_true, if_true, if_false]
    · simp only [testOn, hb, ho, htest, hstand, hproven, hcauses, Bool.not_true, Bool.not_false, Bool.false_eq_true, if_true, if_false]
    · have hexec := exec_tested (i := .testOn via) (test := .onIdle) (results := s.car.brk.results) rfl hr h (by decide) fun n =>
        congrArg (testReply via 12) (testOn_taken (c := s.car.reserving n) htest hstand hproven hcauses)
      have happly (ch : CogChannel) := arbitrate_testing (ch := ch)
        (c := s.car.testing .onIdle s.car.brk.results) rfl nofun
      exact ⟨_, hexec, rfl, rfl, rfl, rfl, fun ch => (brkJudge_command ..).trans (happly ch), brkJudge_traction_of_apply (happly .cbA),
        rfl, rfl, rfl, exec_tested_ssv hr .., rfl⟩
  case off =>
    refine ⟨fun htest => exec_test_refused rfl hr h (by decide) fun n =>
      congrArg (testReply via 13) (show testOff (s.car.reserving n) = _ from ?_), fun htest => ?_⟩
    · cases ht : s.car.brk.test with
      | onIdle => exact absurd ht htest
      | off | onSelected sel => simp only [testOff, Car.reserving, ht]
    · have hexec := exec_tested (i := .testOff via) (test := .off) (results := s.car.brk.results) rfl hr h (by decide) fun n =>
        congrArg (testReply via 13) (testOff_taken (c := s.car.reserving n) htest)
      refine ⟨_, hexec, rfl, rfl, rfl, fun ch => ?_, rfl, rfl, rfl, exec_tested_ssv hr .., rfl⟩
      exact brkJudge_release_iff (c := s.car.testing .off s.car.brk.results) rfl
  case select =>
    refine ⟨fun h1 h2 => exec_test_refused rfl hr h (by simp [telegramKind]) fun k => congrArg (testReply via 14) ?_,
      fun hn htest => exec_test_refused rfl hr h (by simp [telegramKind]) fun k => congrArg (testReply via 14) ?_,
      fun ch hn htest hlaw => ?_⟩
    · simp only [selectChannel, CogChannel.ofNumber_none h1 h2]
    · have hchannel : ∃ ch, CogChannel.ofNumber n = some ch := by
        rcases hn with rfl | rfl
        · exact ⟨_, rfl⟩
        · exact ⟨_, rfl⟩
      obtain ⟨ch, hch⟩ := hchannel
      cases ht : s.car.brk.test with
      | onIdle => exact absurd ht htest
      | off | onSelected sel => simp only [selectChannel, hch, Car.reserving, ht]
    · have hexec := exec_tested (i := .select via n) (test := .onSelected ⟨ch, .apply, false, none, none, 0⟩)
        (results := s.car.brk.results.set ch .reset) rfl hr h (by simp [telegramKind]) fun k => congrArg (testReply via 14)
          (selectChannel_taken (c := s.car.reserving k) hn htest)
      have hselected := arbitrate_test (ch := ch) (cmd := .apply)
        (c := s.car.testing (.onSelected ⟨ch, .apply, false, none, none, 0⟩) (s.car.brk.results.set ch .reset))
        h.2.1 (hlaw.causesEmpty (by rw [htest]; nofun)) (if_pos rfl)
      refine ⟨_, _, hexec, rfl, rfl, rfl, rfl, rfl, rfl, rfl, ?_, ?_, rfl, rfl, rfl, rfl, exec_tested_ssv hr .., rfl⟩
      · exact (brkJudge_holder ..).trans (congrArg Prod.fst hselected)
      · exact (brkJudge_command ..).trans (congrArg Prod.snd hselected)

end Sys2Proof.Machine
end

section
/-! The timings of a selection: TEST RELEASE and TEST APPLY, the test timer and DESELECT (R121 to R123). -/

namespace Sys2Proof.Machine

/-! ## Test result records -/

theorem PerCog.set_set {α : Type} (q : PerCog α) (ch : CogChannel) (x y : α) : (q.set ch x).set ch y = q.set ch y := by
  cases ch <;> rfl

theorem PerCog.get_set_ne {α : Type} (q : PerCog α) {ch k : CogChannel} (x : α) (h : k ≠ ch) : (q.set ch x).get k = q.get k := by
  cases ch with
  | cbA =>
    cases k with
    | cbA => exact absurd rfl h
    | cbB => rfl
  | cbB =>
    cases k with
    | cbA => rfl
    | cbB => exact absurd rfl h

section Record
variable (r : TestRecord) (cmd : BrakeCommand) (t : TimingRecord)

theorem TestRecord.timing_setTiming : (r.setTiming cmd t).timing cmd = t := by cases cmd <;> rfl

theorem TestRecord.timing_setTiming_ne {cmd other : BrakeCommand} (h : other ≠ cmd) :
    (r.setTiming cmd t).timing other = r.timing other := by
  cases cmd with
  | apply =>
    cases other with
    | apply => exact absurd rfl h
    | release => rfl
  | release =>
    cases other with
    | apply => rfl
    | release => exact absurd rfl h

theorem TestRecord.setTiming_result : (r.setTiming cmd t).result = r.result := by cases cmd <;> rfl

theorem TestRecord.timing_with_result (x : TestResult) : TestRecord.timing { r with result := x } cmd = r.timing cmd := by
  cases cmd <;> rfl

theorem TestRecord.passes_iff : r.passes = true ↔ ∃ a b, r.release.time = .ticks a ∧ r.apply.time = .ticks b ∧
    r.release.clean = true ∧ r.apply.clean = true ∧ r.release.order < r.apply.order := by
  unfold TestRecord.passes
  split
  · rename_i a b ha hb
    simp only [Bool.and_eq_true, decide_eq_true_eq, and_assoc]
    exact ⟨fun h => ⟨a, b, ha, hb, h⟩, fun ⟨_, _, _, _, h⟩ => h⟩
  · rename_i hnot
    exact ⟨nofun, fun ⟨a, b, ha, hb, _⟩ => absurd hb (hnot a b ha)⟩

end Record

/-! ## A timing that ends -/

/-- A selection's record with the timing that runs, if one does, ended without a number. -/
def Selection.endedRecord (s : Selection) (r : TestRecord) (time : TestTime) : TestRecord :=
  s.timing.elim r fun t => r.setTiming t.command ⟨time, false, s.taken⟩

/-- What a timing's end changes of the brake record, but for the test. -/
theorem Selection.endTiming_eq (s : Selection) (b : Brk) (time : TestTime) : s.endTiming b time = { b with
    test := (s.endTiming b time).test
    results := b.results.set s.channel (s.endedRecord (b.results.get s.channel) time) } := by
  cases h : s.timing with
  | none => simp only [Selection.endTiming, Selection.endedRecord, h, Option.elim_none, PerCog.set_get]
  | some t => simp only [Selection.endTiming, Selection.endedRecord, h, Option.elim_some]

/-- The selection under another test command, with the reading it starts from. -/
def Selection.restarted (s : Selection) (cmd : BrakeCommand) (reading : Reading) : Selection :=
  if reading = cmd.target then { s with command := cmd, timing := none, watched := some cmd, taken := s.taken + 1 }
  else { s with command := cmd, timing := some ⟨0, cmd, reading, false⟩, watched := none, taken := s.taken + 1 }

/-- The record with a timing that starts, or is recorded as 0 at once. -/
def Selection.startedRecord (s : Selection) (cmd : BrakeCommand) (reading : Reading) (r : TestRecord) : TestRecord :=
  r.setTiming cmd (if reading = cmd.target then ⟨.ticks 0, true, s.taken + 1⟩ else { r.timing cmd with clean := true })

/-- The record with the timing that runs ended and a timing of another command started. -/
def Selection.retimedRecord (s : Selection) (cmd : BrakeCommand) (reading : Reading) (r : TestRecord) : TestRecord :=
  s.startedRecord cmd reading (s.endedRecord r .incomplete)

theorem changeTestCommand_eq (s : Selection) (cmd : BrakeCommand) (b : Brk) : changeTestCommand s cmd b = { b with
    test := .onSelected (s.restarted cmd (b.channels.get s.channel).reading)
    results := b.results.set s.channel (s.retimedRecord cmd (b.channels.get s.channel).reading
      (b.results.get s.channel)) } := by
  rw [changeTestCommand, Selection.endTiming_eq]
  simp only [startTiming, Selection.restarted, Selection.retimedRecord, Selection.startedRecord, PerCog.get_set_self, PerCog.set_set]
  split <;> rfl

section Restarted
variable (s : Selection) (cmd : BrakeCommand) (reading : Reading)

theorem Selection.restarted_frame : (s.restarted cmd reading).channel = s.channel ∧ (s.restarted cmd reading).command = cmd ∧
    (s.restarted cmd reading).deselectPending = s.deselectPending ∧ (s.restarted cmd reading).taken = s.taken + 1 := by
  unfold Selection.restarted
  split <;> exact ⟨rfl, rfl, rfl, rfl⟩

theorem Selection.restarted_timing : (s.restarted cmd reading).timing =
    if reading = cmd.target then none else some ⟨0, cmd, reading, false⟩ := by
  unfold Selection.restarted
  split <;> rfl

theorem Selection.endedRecord_timing {r : TestRecord} {time : TestTime} (h : ∀ g, s.timing = some g → g.command ≠ cmd) :
    (s.endedRecord r time).timing cmd = r.timing cmd := by
  unfold Selection.endedRecord
  cases ht : s.timing with
  | none => rfl
  | some g => exact TestRecord.timing_setTiming_ne _ _ (h g ht).symm

theorem Selection.endedRecord_ended {r : TestRecord} {time : TestTime} {g : Timing} (h : s.timing = some g) :
    (s.endedRecord r time).timing g.command = ⟨time, false, s.taken⟩ := by
  rw [Selection.endedRecord, h]
  exact TestRecord.timing_setTiming ..

theorem Selection.endedRecord_result (r : TestRecord) (time : TestTime) : (s.endedRecord r time).result = r.result := by
  unfold Selection.endedRecord
  cases s.timing with
  | none => rfl
  | some g => exact TestRecord.setTiming_result ..

end Restarted

/-! ## TEST RELEASE and TEST APPLY (R121) -/

section Command
variable {sel : Selection} {c : Car}

theorem testCommand_unselected (cmd : BrakeCommand) (h : c.brk.test.isSelected = false) : testCommand cmd c = (.state, c) := by
  cases ht : c.brk.test with
  | onSelected sel => rw [ht] at h; cases h
  | off | onIdle => simp only [testCommand, ht]

theorem testCommand_pending (cmd : BrakeCommand) (ht : c.brk.test = .onSelected sel) (h : sel.deselectPending = true) :
    testCommand cmd c = (.state, c) := by
  simp only [testCommand, ht, h, if_true]

theorem testCommand_same {cmd : BrakeCommand} (ht : c.brk.test = .onSelected sel) (h : sel.deselectPending = false)
    (hcmd : sel.command = cmd) : testCommand cmd c = (.accepted, c) := by
  simp only [testCommand, ht, h, hcmd, Bool.false_eq_true, if_false, if_true]

/-- The part with the selection's test command changed. -/
def Car.retimed (c : Car) (sel : Selection) (cmd : BrakeCommand) : Car :=
  c.testing (.onSelected (sel.restarted cmd (c.brk.channels.get sel.channel).reading))
    (c.brk.results.set sel.channel (sel.retimedRecord cmd (c.brk.channels.get sel.channel).reading
      (c.brk.results.get sel.channel)))

theorem testCommand_other {cmd : BrakeCommand} (ht : c.brk.test = .onSelected sel) (h : sel.deselectPending = false)
    (hcmd : sel.command ≠ cmd) : testCommand cmd c = (.accepted, c.retimed sel cmd) := by
  simp only [testCommand, ht, h, if_neg hcmd, Bool.false_eq_true, if_false, changeTestCommand_eq]
  rfl

end Command

theorem commandFor_selected {sel : Selection} {ch : CogChannel} (h : sel.channel = ch) :
    (BrakeTest.onSelected sel).commandFor ch = some sel.command := if_pos h

theorem Car.retimed_commandFor (c : Car) (sel : Selection) (cmd : BrakeCommand) :
    (c.retimed sel cmd).brk.test.commandFor sel.channel = some cmd := by
  obtain ⟨hchannel, hcommand, -, -⟩ := sel.restarted_frame cmd (c.brk.channels.get sel.channel).reading
  exact (commandFor_selected hchannel).trans (congrArg some hcommand)

/-- Settles O36: the test command by the selection it leaves, the channel by the arbitration that follows. -/
theorem testCommandsTimeTheChannel : Obligations.TestCommandsTimeTheChannel := by
  intro via cmd s hr hlaw i t0 kind target h
  have hi : i.telegram = some (via, t0) := by cases cmd <;> rfl
  have hp : telegramKind t0 ≠ 40 := by cases cmd <;> decide
  have hdeliver (c : Car) : deliver via t0 c = testReply via kind (testCommand cmd c) := by cases cmd <;> rfl
  have htarget : target = cmd.target := by cases cmd <;> rfl
  have hrefused {result : Result} (hcommand : ∀ c : Car, c.brk = s.car.brk → testCommand cmd c = (result, c)) :
      exec i s = .next ⟨replied via kind result [.brakeTest s.car.brk.test s.car.brk.holdPending s.car.brk.results] s.car,
        s.pending⟩ :=
    exec_test_refused hi hr h hp fun n => (hdeliver _).trans (congrArg (testReply via kind) (hcommand _ rfl))
  refine ⟨fun hnone => hrefused fun c hb => testCommand_unselected cmd (hb ▸ hnone), fun sel ht =>
    ⟨fun hpending => hrefused fun c hb => testCommand_pending cmd (hb ▸ ht) hpending,
      fun hfree hsame => hrefused fun c hb => testCommand_same (hb ▸ ht) hfree hsame, fun hfree hother htiming => ?_⟩⟩
  have hexec := exec_tested hi hr h hp
    (test := .onSelected (sel.restarted cmd (s.car.brk.channels.get sel.channel).reading))
    (results := s.car.brk.results.set sel.channel (sel.retimedRecord cmd (s.car.brk.channels.get sel.channel).reading
      (s.car.brk.results.get sel.channel))) fun n => (hdeliver _).trans (congrArg (testReply via kind)
    (testCommand_other (c := s.car.reserving n) ht hfree hother))
  have hended (g : Timing) (hg : sel.timing = some g) : g.command ≠ cmd := (htiming g hg).trans_ne hother
  obtain ⟨hchannel, hcommand, hdeselect, htaken⟩ := sel.restarted_frame cmd (s.car.brk.channels.get sel.channel).reading
  have hfor := s.car.retimed_commandFor sel cmd
  have hselected := arbitrate_test (c := s.car.retimed sel cmd) (ch := sel.channel) h.2.1
    (hlaw.causesEmpty (by rw [ht]; nofun)) hfor
  refine ⟨_, _, _, hexec, rfl, rfl, rfl, hchannel, hcommand, hdeselect.trans hfree, htaken, fun hreading => ⟨?_, ?_⟩,
    fun hreading => ⟨?_, ?_⟩, fun g hg => ?_, ?_, (brkJudge_command ..).trans (congrArg Prod.snd hselected),
    (brkJudge_holder ..).trans (congrArg Prod.fst hselected),
    fun hfault => brkJudge_fault_energised (c := s.car.retimed sel cmd) hfor hfault, rfl, rfl, exec_tested_ssv hr .., rfl, rfl⟩
  · rw [Selection.restarted_timing, if_pos (hreading.trans htarget)]
  · rw [Selection.retimedRecord, Selection.startedRecord, TestRecord.timing_setTiming, if_pos (hreading.trans htarget)]
  · rw [Selection.restarted_timing, if_neg (htarget ▸ hreading)]
  · rw [Selection.retimedRecord, Selection.startedRecord, TestRecord.timing_setTiming, if_neg (htarget ▸ hreading),
      Selection.endedRecord_timing _ _ hended]
  · rw [Selection.retimedRecord, Selection.startedRecord, TestRecord.timing_setTiming_ne _ _ (hended g hg),
      Selection.endedRecord_ended _ hg]
  · rw [Selection.retimedRecord, Selection.startedRecord, TestRecord.setTiming_result, Selection.endedRecord_result]

/-! ## The completion of a selection (R123) -/

/-- A channel whose selection is completed: a PASS takes it out of FAULT. -/
def CogRecord.recovered (r : CogRecord) (pass : Bool) : CogRecord :=
  if pass = true ∧ r.state = .fault then { r with state := .applied, command := .apply, reason := none } else r

/-- The part whose selection of a channel is completed with a result record that says whether it passes. -/
def Car.completed (c : Car) (ch : CogChannel) (r : TestRecord) : Car :=
  { c with brk := { c.brk with
      test := .onIdle
      results := c.brk.results.set ch { r with result := if r.passes then .pass else .fail }
      channels := c.brk.channels.set ch ((c.brk.channels.get ch).recovered r.passes) } }

theorem completeSelection_eq (s : Selection) (c : Car) : completeSelection s c =
    occur .brakeTestResult (256 * s.channel.number + if (c.brk.results.get s.channel).passes then 1 else 2)
      (c.completed s.channel (c.brk.results.get s.channel)) := by
  rw [Nat.mul_comm]
  rfl

/-- Completing a selection whose timing has ended: what its end wrote of the test is written over. -/
theorem Car.completed_ended (c : Car) (ch : CogChannel) (r x : TestRecord) (t : BrakeTest) :
    (c.testing t (c.brk.results.set ch r)).completed ch x = c.completed ch x := by
  simp only [Car.testing, Car.completed, PerCog.set_set]

/-! ## The test timer (R121, R123) -/

theorem testTimerExpiry_short {c : Car}
    (h : ∀ sel g, c.brk.test = .onSelected sel → sel.timing = some g → g.elapsed < 150) : testTimerExpiry c = c := by
  cases ht : c.brk.test with
  | off | onIdle => simp only [testTimerExpiry, ht]
  | onSelected sel =>
    cases hg : sel.timing with
    | none => simp only [testTimerExpiry, ht, hg]
    | some g =>
      have hshort : ¬ Limit.testTiming ≤ g.elapsed := Nat.not_le.2 (h sel g ht hg)
      simp only [testTimerExpiry, ht, hg, if_neg hshort]

/-- The part with the timing that runs recorded as EXCEEDED. -/
def Car.exceeded (c : Car) (sel : Selection) : Car :=
  c.testing (.onSelected { sel with timing := none, watched := none })
    (c.brk.results.set sel.channel (sel.endedRecord (c.brk.results.get sel.channel) .exceeded))

theorem testTimerExpiry_reached {c : Car} {sel : Selection} {g : Timing} (ht : c.brk.test = .onSelected sel)
    (hg : sel.timing = some g) (h : 150 ≤ g.elapsed) : testTimerExpiry c =
      if sel.deselectPending = true ∧ g.command = .apply then
        completeSelection { sel with timing := none, watched := none } (c.exceeded sel)
      else c.exceeded sel := by
  have hlong : Limit.testTiming ≤ g.elapsed := h
  have hended : ({ c with brk := sel.endTiming c.brk .exceeded } : Car) = c.exceeded sel := by
    simp only [Selection.endTiming, Car.exceeded, Car.testing, Selection.endedRecord, hg, Option.elim_some]
  have hdone : (sel.deselectPending && g.command == .apply) = true ↔ sel.deselectPending = true ∧ g.command = .apply := by
    rw [Bool.and_eq_true, beq_iff_eq]
  have hexpiry : testTimerExpiry c = completeIfPending (g.command == .apply) (c.exceeded sel) := by
    simp only [testTimerExpiry, ht, hg, if_pos hlong, hended]
  simp only [hexpiry, ← hdone]
  rfl

theorem TestRecord.passes_of_timing {r : TestRecord} {cmd : BrakeCommand} (h : ∀ n, (r.timing cmd).time ≠ .ticks n) :
    r.passes = false := by
  rw [← Bool.not_eq_true, TestRecord.passes_iff]
  rintro ⟨a, b, ha, hb, -⟩
  cases cmd with
  | apply => exact h b hb
  | release => exact h a ha

theorem Ready.settle_completed {s : State} (hr : Ready s) (ch : CogChannel) (r : TestRecord) (detail : Nat) :
    settle (occur .brakeTestResult detail (s.car.completed ch r)) =
      brkJudge (occur .brakeTestResult detail (s.car.completed ch r)) :=
  hr.settle_brakes rfl rfl rfl rfl rfl rfl

/-- Settles O37: the record that the timer ends, and the completion of a deselect that waits for an apply timing. -/
theorem testTimerRecordsExceeded : Obligations.TestTimerRecordsExceeded := by
  intro s hr
  have hrun {d : Car} (h : testTimerExpiry s.car = d) : exec .testTimerExpiry s = .next ⟨settle d, s.pending⟩ :=
    congrArg Host.Outcome.next ((hr.run _).trans (by rw [h]))
  refine ⟨fun hshort => (hrun (testTimerExpiry_short hshort)).trans (by rw [hr.settled]), fun sel g ht hg hlong => ?_⟩
  have hexpiry := testTimerExpiry_reached ht hg hlong
  have htiming := sel.endedRecord_ended (r := s.car.brk.results.get sel.channel) (time := .exceeded) hg
  by_cases hdone : sel.deselectPending = true ∧ g.command = .apply
  · rw [if_pos hdone, completeSelection_eq] at hexpiry
    have hget : (s.car.exceeded sel).brk.results.get sel.channel =
        sel.endedRecord (s.car.brk.results.get sel.channel) .exceeded := PerCog.get_set_self ..
    have hfails : (sel.endedRecord (s.car.brk.results.get sel.channel) .exceeded).passes = false :=
      TestRecord.passes_of_timing (cmd := g.command) fun n => by rw [htiming]; nofun
    rw [hget, hfails, if_neg Bool.false_ne_true, Car.exceeded, Car.completed_ended] at hexpiry
    have hexec := hrun hexpiry
    rw [hr.settle_completed] at hexec
    have hrecord : (s.car.brk.results.set sel.channel { sel.endedRecord (s.car.brk.results.get sel.channel) .exceeded with
        result := if (sel.endedRecord (s.car.brk.results.get sel.channel) .exceeded).passes then .pass else .fail }).get
          sel.channel = { sel.endedRecord (s.car.brk.results.get sel.channel) .exceeded with result := .fail } := by
      rw [PerCog.get_set_self, hfails]
      rfl
    refine ⟨_, hexec, rfl, ?_, ?_, fun other hother => PerCog.get_set_ne _ _ hother,
      fun hnot => absurd hdone ?_, fun _ _ => ⟨rfl, congrArg TestRecord.result hrecord, rfl, rfl⟩⟩
    · refine (congrArg (fun r => (TestRecord.timing r g.command).time) hrecord).trans ?_
      rw [TestRecord.timing_with_result, htiming]
    · refine (congrArg (fun r => (TestRecord.timing r g.command).clean) hrecord).trans ?_
      rw [TestRecord.timing_with_result, htiming]
    · rintro ⟨hpending, happly⟩
      rcases hnot with hnot | hnot
      · exact absurd (hpending.symm.trans hnot) nofun
      · exact absurd (happly.symm.trans hnot) nofun
  · rw [if_neg hdone] at hexpiry
    have hsettled : settle (s.car.exceeded sel) = s.car.exceeded sel := by
      refine (hr.settle_tested _ _).trans ((brkJudge_eq_self_iff _).2 (hr.brakes.with_test _ (fun ch => ?_) ?_ ?_))
      · rw [ht]; rfl
      · rw [ht]; rfl
      · rw [ht]; rfl
    have hexec := hrun hexpiry
    rw [hsettled] at hexec
    have hrecord : (s.car.brk.results.set sel.channel (sel.endedRecord (s.car.brk.results.get sel.channel) .exceeded)).get
        sel.channel = sel.endedRecord (s.car.brk.results.get sel.channel) .exceeded := PerCog.get_set_self ..
    refine ⟨_, hexec, rfl, ?_, ?_, fun other hother => PerCog.get_set_ne _ _ hother, fun _ => rfl,
      fun hpending happly => absurd ⟨hpending, happly⟩ hdone⟩
    · refine (congrArg (fun r => (TestRecord.timing r g.command).time) hrecord).trans ?_
      rw [htiming]
    · refine (congrArg (fun r => (TestRecord.timing r g.command).clean) hrecord).trans ?_
      rw [htiming]

/-! ## DESELECT (R123) -/

section Deselect
variable {sel : Selection} {c : Car}

theorem deselect_unselected (h : c.brk.test.isSelected = false) : deselect c = (.state, c) := by
  cases ht : c.brk.test with
  | onSelected sel => rw [ht] at h; cases h
  | off | onIdle => simp only [deselect, ht]

theorem deselect_pending (ht : c.brk.test = .onSelected sel) (h : sel.deselectPending = true) : deselect c = (.state, c) := by
  simp only [deselect, ht, h, if_true]

/-- Whether the timing of a selection that runs is one of an apply. -/
def Selection.applyRuns (s : Selection) : Bool := s.timing.any fun g => g.command == .apply

theorem Selection.applyRuns_iff (s : Selection) : s.applyRuns = true ↔ ∃ g, s.timing = some g ∧ g.command = .apply := by
  simp only [Selection.applyRuns, Option.any_eq_true, beq_iff_eq]

theorem deselect_free (ht : c.brk.test = .onSelected sel) (h : sel.deselectPending = false) : deselect c =
    if (c.brk.channels.get sel.channel).reading = .applied ∧ sel.applyRuns = false then
      (.accepted, completeSelection { sel with command := .apply, timing := none }
        { c with brk := sel.endTiming c.brk .incomplete })
    else if sel.command = .release then
      (.accepted, { c with brk := changeTestCommand { sel with deselectPending := true } .apply c.brk })
    else (.accepted, c.testing (.onSelected { sel with deselectPending := true }) c.brk.results) := by
  cases hg : sel.timing with
  | none => simp only [deselect, ht, h, hg, Selection.applyRuns, Option.any_none, Bool.false_eq_true, if_false]; rfl
  | some g => simp only [deselect, ht, h, hg, Selection.applyRuns, Option.any_some, Bool.false_eq_true, if_false]; rfl

theorem deselect_now (ht : c.brk.test = .onSelected sel) (h : sel.deselectPending = false)
    (hreading : (c.brk.channels.get sel.channel).reading = .applied) (htiming : ∀ g, sel.timing = some g → g.command = .release) :
    deselect c = (.accepted, occur .brakeTestResult (256 * sel.channel.number +
      if (sel.endedRecord (c.brk.results.get sel.channel) .incomplete).passes then 1 else 2)
      (c.completed sel.channel (sel.endedRecord (c.brk.results.get sel.channel) .incomplete))) := by
  have hruns : sel.applyRuns = false := by
    rw [← Bool.not_eq_true, Selection.applyRuns_iff]
    rintro ⟨g, hg, happly⟩
    exact absurd ((htiming g hg).symm.trans happly) nofun
  have hended : ({ c with brk := sel.endTiming c.brk .incomplete } : Car) = c.testing (sel.endTiming c.brk .incomplete).test
      (c.brk.results.set sel.channel (sel.endedRecord (c.brk.results.get sel.channel) .incomplete)) := by
    rw [Selection.endTiming_eq]
    rfl
  have hget (t : BrakeTest) (r : TestRecord) : (c.testing t (c.brk.results.set sel.channel r)).brk.results.get sel.channel = r :=
    PerCog.get_set_self ..
  rw [deselect_free ht h, if_pos ⟨hreading, hruns⟩, completeSelection_eq, hended, hget, Car.completed_ended]

theorem deselect_later (ht : c.brk.test = .onSelected sel) (h : sel.deselectPending = false)
    (hwait : (c.brk.channels.get sel.channel).reading ≠ .applied ∨ ∃ g, sel.timing = some g ∧ g.command = .apply) :
    deselect c = (.accepted, if sel.command = .release then c.retimed { sel with deselectPending := true } .apply
      else c.testing (.onSelected { sel with deselectPending := true }) c.brk.results) := by
  have hnot : ¬ ((c.brk.channels.get sel.channel).reading = .applied ∧ sel.applyRuns = false) := by
    rintro ⟨hreading, hruns⟩
    rcases hwait with hwait | hwait
    · exact hwait hreading
    · exact absurd ((sel.applyRuns_iff.2 hwait).symm.trans hruns) nofun
  rw [deselect_free ht h, if_neg hnot, changeTestCommand_eq]
  split <;> rfl

end Deselect

/-- A channel in APPLIED that is commanded to apply stays there (R96). -/
theorem CogRecord.takeCommand_applied {r : CogRecord} (h : r.state = .applied) (holder : Holder) :
    r.takeCommand holder .apply = { r with holder := holder, command := .apply } := by
  simp only [CogRecord.takeCommand, h, reduceCtorEq, false_and, and_false, or_self, if_false]

theorem availableCount_recovered {q : PerCog CogRecord} {ch : CogChannel} {r : CogRecord} (h : (q.get ch).state = .fault)
    (hr : r.state ≠ .fault) : availableCount (q.set ch r) = availableCount q + 1 := by
  cases ch with
  | cbA =>
    have hfault : q.cbA.state = .fault := h
    show (if r.state = .fault then 0 else 1) + (if q.cbB.state = .fault then 0 else 1) = _
    rw [availableCount, if_neg hr, if_pos hfault]
    omega
  | cbB =>
    have hfault : q.cbB.state = .fault := h
    show (if q.cbA.state = .fault then 0 else 1) + (if r.state = .fault then 0 else 1) = _
    rw [availableCount, if_neg hr, if_pos hfault]

section Recovered
variable (r : CogRecord)

theorem CogRecord.recovered_pass_state : (r.recovered true).state ≠ .fault := by
  unfold CogRecord.recovered
  split
  · nofun
  · rename_i h
    exact fun hfault => h ⟨rfl, hfault⟩

theorem CogRecord.recovered_fail : r.recovered false = r := if_neg fun h => absurd h.1 nofun

theorem CogRecord.recovered_fault (h : r.state = .fault) : r.recovered true =
    { r with state := .applied, command := .apply, reason := none } := if_pos ⟨rfl, h⟩

end Recovered

/-- The brakes of a part whose selection has been completed: the test is ON_IDLE, so both channels are commanded to apply. -/
theorem brkJudge_completed (c : Car) (ch : CogChannel) (r : TestRecord) (detail : Nat) : ∃ (holder : Holder) (value : Bool),
    (brkJudge (occur .brakeTestResult detail (c.completed ch r))).brk.channels.get ch =
      (((c.brk.channels.get ch).recovered r.passes).takeCommand holder .apply).drive value := by
  have happly := arbitrate_testing (c := occur .brakeTestResult detail (c.completed ch r)) (ch := ch) rfl nofun
  have hget : (occur .brakeTestResult detail (c.completed ch r)).brk.channels.get ch =
      (c.brk.channels.get ch).recovered r.passes := PerCog.get_set_self ..
  rw [brkJudge_channel, judgeChannel, happly, hget]
  exact ⟨_, _, rfl⟩

/-- The brake judgement gives the supervisor a cause of evaluation when the available count changes (R64, R105). -/
theorem brkJudge_ssv_cause {c : Car} (h : availableCount c.brk.channels ≠ c.brk.available) : (brkJudge c).ssv = c.ssv.cause := by
  have havailable := brkJudge_available c
  exact if_neg (havailable.trans_ne h)

theorem Selection.endedRecord_release {sel : Selection} (h : ∀ g, sel.timing = some g → g.command = .release) (r : TestRecord)
    (time : TestTime) : (sel.endedRecord r time).release = (if sel.timing = none then r.release else ⟨time, false, sel.taken⟩) ∧
      (sel.endedRecord r time).apply = r.apply := by
  unfold Selection.endedRecord
  cases hg : sel.timing with
  | none => exact ⟨rfl, rfl⟩
  | some g =>
    rw [Option.elim_some, h g hg]
    exact ⟨rfl, rfl⟩

theorem exec_deselect_now {via : Via} {s : State} (hr : Ready s) (h : Reaches via .deselect s.car) {sel : Selection}
    (ht : s.car.brk.test = .onSelected sel) (hfree : sel.deselectPending = false)
    (hreading : (s.car.brk.channels.get sel.channel).reading = .applied)
    (htiming : ∀ g, sel.timing = some g → g.command = .release) :
    let r := sel.endedRecord (s.car.brk.results.get sel.channel) .incomplete
    ∃ parts, exec (.deselect via) s = .next ⟨replied via 15 .accepted parts (brkJudge (occur .brakeTestResult
      (256 * sel.channel.number + if r.passes then 1 else 2) (s.car.completed sel.channel r))), s.pending⟩ := by
  intro r
  refine ⟨_, exec_test rfl hr h (by decide) (d := occur .brakeTestResult
    (256 * sel.channel.number + if r.passes then 1 else 2) (s.car.completed sel.channel r)) hr.unreserved
    (hr.settle_completed ..) fun n => ?_⟩
  refine (congrArg (testReply via 15) (deselect_now (c := s.car.reserving n) ht hfree hreading htiming)).trans ?_
  refine congrArg (fun c => testReply via 15 (.accepted, c)) ?_
  exact occur_withLif (c := s.car.completed sel.channel r) (l := { s.car.lif with reservedReplies := n }) ⟨rfl, rfl⟩ ..

/-- Settles O38: a completion by the record it is decided on, a deselect that waits by the test it leaves. -/
theorem deselectDecidesTheTest : Obligations.DeselectDecidesTheTest := by
  intro via s hr hlaw h
  have hrefused (hstate : ∀ c : Car, c.brk = s.car.brk → deselect c = (.state, c)) : exec (.deselect via) s = .next
      ⟨replied via 15 .state [.brakeTest s.car.brk.test s.car.brk.holdPending s.car.brk.results] s.car, s.pending⟩ :=
    exec_test_refused rfl hr h (by decide) fun n => congrArg (testReply via 15) (hstate _ rfl)
  refine ⟨fun hnone => hrefused fun c hb => deselect_unselected (hb ▸ hnone), fun sel ht =>
    ⟨fun hpending => hrefused fun c hb => deselect_pending (hb ▸ ht) hpending, fun hfree hreading htiming => ?now,
      fun hfree hwait => ?later⟩⟩
  case now =>
    intro release pass
    obtain ⟨parts, hexec⟩ := exec_deselect_now hr h ht hfree hreading htiming
    generalize hrecord : sel.endedRecord (s.car.brk.results.get sel.channel) .incomplete = r at hexec
    obtain ⟨hrelease, happly⟩ : r.release = release ∧ r.apply = (s.car.brk.results.get sel.channel).apply :=
      hrecord ▸ Selection.endedRecord_release htiming ..
    have hpass : r.passes = true ↔ pass := by
      rw [TestRecord.passes_iff, hrelease, happly]
    obtain ⟨holder, value, hchannel⟩ := brkJudge_completed s.car sel.channel r
      (256 * sel.channel.number + if r.passes then 1 else 2)
    have hresult : (s.car.brk.results.set sel.channel { r with result := if r.passes then .pass else .fail }).get sel.channel =
        { r with result := if r.passes then .pass else .fail } := PerCog.get_set_self ..
    have hcount (hp : pass) (hfault : (s.car.brk.channels.get sel.channel).state = .fault) :
        availableCount (s.car.completed sel.channel r).brk.channels = s.car.brk.available + 1 := by
      rw [hr.brakes.available]
      refine availableCount_recovered hfault ?_
      rw [hpass.2 hp]
      exact CogRecord.recovered_pass_state _
    refine ⟨_, hexec, rfl, rfl, rfl, (congrArg TestRecord.release hresult).trans hrelease,
      (congrArg TestRecord.apply hresult).trans happly, fun hp => ⟨?_, ?_, fun hfault => ⟨?_, ?_, ?_, ?_⟩⟩,
      fun hp => ⟨?_, fun hfault => ?_⟩, ?_, ⟨fun hp => ?_, fun hp => ?_⟩, rfl, rfl, rfl⟩
    · exact (congrArg TestRecord.result hresult).trans (if_pos (hpass.2 hp))
    · refine (congrArg CogRecord.state hchannel).trans_ne ?_
      rw [CogRecord.drive_state, Ne, CogRecord.takeCommand_fault, hpass.2 hp]
      exact CogRecord.recovered_pass_state _
    · rw [hpass.2 hp, CogRecord.recovered_fault _ hfault, CogRecord.takeCommand_applied rfl] at hchannel
      exact (congrArg CogRecord.state hchannel).trans (CogRecord.drive_state ..)
    · rw [hpass.2 hp, CogRecord.recovered_fault _ hfault, CogRecord.takeCommand_applied rfl] at hchannel
      exact (congrArg CogRecord.reason hchannel).trans (CogRecord.drive_reason ..)
    · exact (brkJudge_available _).trans (hcount hp hfault)
    · exact congrArg (·.waiting.cause) (brkJudge_ssv_cause (c := occur _ _ (s.car.completed sel.channel r)) ((hcount hp hfault).trans_ne (Nat.succ_ne_self _)))
    · exact (congrArg TestRecord.result hresult).trans (if_neg (mt hpass.1 hp))
    · refine (congrArg CogRecord.state hchannel).trans ?_
      rw [CogRecord.drive_state, CogRecord.takeCommand_fault, Bool.eq_false_of_not_eq_true (mt hpass.1 hp), CogRecord.recovered_fail]
      exact hfault
    · refine (congrArg CogRecord.command hchannel).trans ((CogRecord.drive_command ..).trans ?_)
      exact (CogRecord.takeCommand_command ..).1
    · exact congrArg (fun n => s.car.evr.take s.car.now .brakeTestResult (256 * sel.channel.number + n)) (if_pos (hpass.2 hp))
    · exact congrArg (fun n => s.car.evr.take s.car.now .brakeTestResult (256 * sel.channel.number + n)) (if_neg (mt hpass.1 hp))
  case later =>
    have hcauses := hlaw.causesEmpty (by rw [ht]; nofun)
    by_cases hrelease : sel.command = .release
    · have hexec := exec_tested (i := .deselect via) rfl hr h (by decide)
        (test := .onSelected (({ sel with deselectPending := true } : Selection).restarted .apply
          (s.car.brk.channels.get sel.channel).reading))
        (results := s.car.brk.results.set sel.channel (({ sel with deselectPending := true } : Selection).retimedRecord .apply
          (s.car.brk.channels.get sel.channel).reading (s.car.brk.results.get sel.channel))) fun n =>
        congrArg (testReply via 15) ((deselect_later (c := s.car.reserving n) ht hfree hwait).trans (by rw [if_pos hrelease]; rfl))
      obtain ⟨hchannel, hcommand, hdeselect, -⟩ := ({ sel with deselectPending := true } : Selection).restarted_frame .apply
        (s.car.brk.channels.get sel.channel).reading
      have hselected := arbitrate_test (c := s.car.retimed { sel with deselectPending := true } .apply) (ch := sel.channel) h.2.1
        hcauses (s.car.retimed_commandFor { sel with deselectPending := true } .apply)
      refine ⟨_, _, hexec, rfl, rfl, hchannel, hcommand, hdeselect, fun happly => absurd (happly.symm.trans hrelease) nofun,
        fun _ hreading => ?_, (brkJudge_command ..).trans (congrArg Prod.snd hselected), rfl, rfl, rfl⟩
      rw [Selection.restarted_timing]
      exact if_neg hreading
    · have hexec := exec_tested (i := .deselect via) rfl hr h (by decide)
        (test := .onSelected { sel with deselectPending := true }) (results := s.car.brk.results) fun n =>
        congrArg (testReply via 15) ((deselect_later (c := s.car.reserving n) ht hfree hwait).trans (by rw [if_neg hrelease]; rfl))
      have happly : sel.command = .apply := by
        cases hcommand : sel.command with
        | apply => rfl
        | release => exact absurd hcommand hrelease
      have hselected := arbitrate_test (c := s.car.testing (.onSelected { sel with deselectPending := true }) s.car.brk.results)
        (ch := sel.channel) h.2.1 hcauses (commandFor_selected rfl)
      refine ⟨_, _, hexec, rfl, rfl, rfl, happly, rfl, fun _ => ⟨rfl, rfl⟩, fun h => absurd h hrelease,
        (brkJudge_command ..).trans ((congrArg Prod.snd hselected).trans happly), rfl, rfl, rfl⟩

end Sys2Proof.Machine
end

section
/-! A change of a brake's feedback (R95, R96, R98, R121 to R123). -/

namespace Sys2Proof.Machine

/-! ## A reading taken by a channel (R96, R98) -/

section Reading
variable (r : CogRecord) (reading : Reading)

theorem CogRecord.settleReading_frame : r.settleReading = { r with
    state := r.settleReading.state, transit := r.settleReading.transit } := by
  unfold CogRecord.settleReading
  split <;> rfl

/-- A reading changes of a channel's record, besides itself, the state and the two timers of the movement. -/
theorem CogRecord.takeReading_frame : r.takeReading reading = { r with
    reading := reading
    state := (r.takeReading reading).state
    transit := (r.takeReading reading).transit
    departure := (r.takeReading reading).departure } := by
  cases h : r.state <;> simp only [CogRecord.takeReading, h]
  all_goals rw [CogRecord.settleReading_frame]

theorem CogRecord.takeReading_fault (h : r.state = .fault) : r.takeReading reading = { r with reading := reading } := by
  simp only [CogRecord.takeReading, h]

theorem CogRecord.takeReading_applied (h : r.state = .applied) : r.takeReading reading = { r with
    reading := reading, departure := if reading = .applied then none else some (r.departure.getD 0) } := by
  simp only [CogRecord.takeReading, h, departureTimer]

theorem CogRecord.takeReading_released (h : r.state = .released) : r.takeReading reading = { r with
    reading := reading, departure := if reading = .released then none else some (r.departure.getD 0) } := by
  simp only [CogRecord.takeReading, h, departureTimer]

theorem CogRecord.takeReading_releasing (h : r.state = .releasing) : r.takeReading reading =
    if reading = .released then { r with reading := reading, state := .released, transit := none }
    else { r with reading := reading } := by
  cases reading <;> simp only [CogRecord.takeReading, h, CogRecord.settleReading, reduceCtorEq, if_true, if_false]

theorem CogRecord.takeReading_applying (h : r.state = .applying) : r.takeReading reading =
    if reading = .applied then { r with reading := reading, state := .applied, transit := none }
    else { r with reading := reading } := by
  cases reading <;> simp only [CogRecord.takeReading, h, CogRecord.settleReading, reduceCtorEq, if_true, if_false]

/-- A reading settles a movement and turns none round. -/
theorem CogRecord.takeReading_way : ((r.takeReading reading).state = .fault ↔ r.state = .fault) ∧
    ((r.takeReading reading).state = .applied ∨ (r.takeReading reading).state = .applying ↔
      r.state = .applied ∨ r.state = .applying) ∧
    ((r.takeReading reading).state = .released ∨ (r.takeReading reading).state = .releasing ↔
      r.state = .released ∨ r.state = .releasing) := by
  obtain ⟨state, command, h, en, old, tr, de, pin, rb, rep, reason⟩ := r
  cases state <;> cases reading <;> simp [CogRecord.takeReading, CogRecord.settleReading]

end Reading

theorem CogRecord.drive_eq_self_iff (r : CogRecord) (value : Bool) : r.drive value = r ↔ r.energised = value ∧
    r.readback = (if r.readsBack = value then none else some (r.readback.getD 0)) ∧
    r.reported = (if r.readsBack = value then false else r.reported) := by
  obtain ⟨state, command, h, en, reading, tr, de, pin, rb, rep, reason⟩ := r
  by_cases hb : pin = value <;> simp [CogRecord.drive, hb, eq_comm]

/-- A reading leaves a channel that has taken its command and drives its output with nothing more to take or drive. -/
theorem CogRecord.takeReading_judged {r : CogRecord} {holder : Holder} {cmd : BrakeCommand} {test : Option BrakeCommand}
    (h : (r.takeCommand holder cmd).drive ((r.takeCommand holder cmd).drives test) = r) (reading : Reading) :
    let q := r.takeReading reading
    (q.takeCommand holder cmd).drive ((q.takeCommand holder cmd).drives test) = q := by
  intro q
  obtain ⟨hcommand, hholder⟩ := CogRecord.takeCommand_command r holder cmd
  rw [← CogRecord.drive_command _ ((r.takeCommand holder cmd).drives test), h] at hcommand
  rw [← CogRecord.drive_holder _ ((r.takeCommand holder cmd).drives test), h] at hholder
  obtain ⟨hrelease, happly⟩ := CogRecord.takeCommand_stays (r := r) (holder := holder) (cmd := cmd)
    (by rw [← CogRecord.drive_state _ ((r.takeCommand holder cmd).drives test), h])
  rw [(CogRecord.takeCommand_of_judged h).1] at h
  obtain ⟨hfault, hto, hfro⟩ := r.takeReading_way reading
  have hframe : q = { r with
      reading := reading, state := q.state, transit := q.transit, departure := q.departure } := r.takeReading_frame reading
  have hq : q.takeCommand holder cmd = q := by
    have hsame : ({ q with holder := holder, command := cmd } : CogRecord) = q := by
      rw [← hcommand, ← hholder, hframe]
    rw [CogRecord.takeCommand, if_neg (by rw [hto]; exact hrelease), if_neg (by rw [hfro]; exact happly), hsame]
  have hdrives : q.drives test = r.drives test := by
    have hcmd : q.command = r.command := (congrArg CogRecord.command hframe :)
    simp only [CogRecord.drives, hcmd, hfault, q]
  obtain ⟨henergised, hreadback, hreported⟩ := (CogRecord.drive_eq_self_iff r _).1 h
  rw [hq, hdrives, CogRecord.drive_eq_self_iff, hframe]
  exact ⟨henergised, hreadback, hreported⟩

/-! ## The judgement that follows a reading (R102, R108) -/

theorem availableCount_congr {q r : PerCog CogRecord} (h : ∀ ch, (q.get ch).state = .fault ↔ (r.get ch).state = .fault) :
    availableCount q = availableCount r := by
  have ha : q.cbA.state = .fault ↔ r.cbA.state = .fault := h .cbA
  have hb : q.cbB.state = .fault ↔ r.cbB.state = .fault := h .cbB
  simp only [availableCount, ha, hb]

/-- Channels that arbitration leaves alone: of what the brake judgement decides only the permission of traction is left. -/
theorem brkJudge_of_channels {c : Car} (hchannels : ∀ ch, judgeChannel c ch = c.brk.channels.get ch)
    (hhold : c.brk.holdPending = (c.brk.test.isSelected && holdPlaced c)) (havailable : c.brk.available = availableCount c.brk.channels)
    (hvalid : c.brk.svcValid = true) (hlevel : c.brk.svcLevel = serviceLevel c) : brkJudge c = { c with
      brk := { c.brk with tractionOk := tractionPermitted c c.brk.channels } } := by
  have hjudged : (⟨judgeChannel c .cbA, judgeChannel c .cbB⟩ : PerCog CogRecord) = c.brk.channels := by
    rw [hchannels, hchannels]
    rfl
  unfold brkJudge
  dsimp only
  rw [hjudged, ← hhold, ← havailable, ← hlevel, ← hvalid, if_pos rfl]

/-- The part with a channel's reading taken by its state. -/
def Car.reading (c : Car) (ch : CogChannel) (x : Reading) : Car :=
  { c with brk := { c.brk with channels := c.brk.channels.set ch ((c.brk.channels.get ch).takeReading x) } }

section CarReading
variable (c : Car) (ch : CogChannel) (x : Reading)

theorem Car.reading_get (k : CogChannel) : (c.reading ch x).brk.channels.get k =
    if k = ch then (c.brk.channels.get k).takeReading x else c.brk.channels.get k := by
  by_cases h : k = ch
  · subst h
    rw [if_pos rfl]
    exact PerCog.get_set_self ..
  · rw [if_neg h]
    exact PerCog.get_set_ne _ _ h

theorem Car.reading_fault (k : CogChannel) :
    ((c.reading ch x).brk.channels.get k).state = .fault ↔ (c.brk.channels.get k).state = .fault := by
  rw [Car.reading_get]
  split
  · exact (CogRecord.takeReading_way ..).1
  · rfl

theorem Car.reading_arbitrate (k : CogChannel) : arbitrate (c.reading ch x) k = arbitrate c k := by
  have hfault : (((c.reading ch x).brk.channels.get k).state == .fault) = ((c.brk.channels.get k).state == .fault) := by
    rw [Bool.eq_iff_iff, beq_iff_eq, beq_iff_eq, Car.reading_fault]
  simp only [arbitrate, releasePresent, hfault]
  rfl

end CarReading

/-- A reading taken between commands: the channel takes it, and traction is permitted or not. -/
theorem Ready.brkJudge_reading {s : State} (hr : Ready s) (ch : CogChannel) (x : Reading) :
    brkJudge (s.car.reading ch x) = { s.car.reading ch x with brk := { (s.car.reading ch x).brk with
      tractionOk := tractionPermitted (s.car.reading ch x) (s.car.reading ch x).brk.channels } } := by
  refine brkJudge_of_channels (fun k => ?_) hr.brakes.holdPending ?_ hr.brakes.svcValid hr.brakes.svcLevel
  · have hjudged := hr.brakes.channels k
    rw [judgeChannel] at hjudged
    rw [judgeChannel, Car.reading_arbitrate, Car.reading_get]
    split
    · exact CogRecord.takeReading_judged hjudged x
    · exact hjudged
  · exact hr.brakes.available.trans (availableCount_congr fun k => (s.car.reading_fault ch x k).symm)

/-! ## A reading taken by the timing of a selection (R121, R122) -/

/-- A selection after a reading of its channel. -/
def Selection.read (s : Selection) (x : Reading) : Selection :=
  s.timing.elim { s with watched := s.watched.filter fun cmd => decide (x = cmd.target) } fun t =>
    if x = t.command.target then { s with timing := none, watched := some t.command }
    else { s with timing := some { t with left := t.left || x != t.start } }

/-- The selection's record after a reading of its channel. -/
def Selection.readRecord (s : Selection) (x : Reading) (r : TestRecord) : TestRecord :=
  s.timing.elim (s.watched.elim r fun cmd => if x = cmd.target then r else r.soil cmd) fun t =>
    if x = t.command.target then r.setTiming t.command ⟨.ticks (min 150 t.elapsed), (r.timing t.command).clean, s.taken⟩
    else if t.left = true ∧ x = t.start then r.soil t.command
    else r

theorem Selection.takeReading_eq {s : Selection} {b : Brk} (ht : b.test = .onSelected s) (x : Reading) :
    s.takeReading x b = { b with
      test := .onSelected (s.read x)
      results := b.results.set s.channel (s.readRecord x (b.results.get s.channel)) } := by
  obtain ⟨channel, command, pending, timing, watched, taken⟩ := s
  cases timing with
  | none =>
    cases watched with
    | none => simp only [Selection.takeReading, Selection.read, Selection.readRecord, Option.elim_none, Option.filter_none, ← ht, PerCog.set_get]
    | some cmd =>
      by_cases hx : x = cmd.target
      · simp only [Selection.takeReading, Selection.read, Selection.readRecord, Option.elim_none, Option.elim_some, Option.filter_some,
          hx, decide_true, if_true, ← ht, PerCog.set_get]
      · simp only [Selection.takeReading, Selection.read, Selection.readRecord, Option.elim_none, Option.elim_some, Option.filter_some,
          hx, decide_false, Bool.false_eq_true, if_false]
  | some t =>
    by_cases hx : x = t.command.target
    · simp only [Selection.takeReading, Selection.read, Selection.readRecord, Option.elim_some, if_pos hx]
    · simp only [Selection.takeReading, Selection.read, Selection.readRecord, Option.elim_some, if_neg hx]
      split
      · rfl
      · rw [PerCog.set_get]

section Read
variable (s : Selection) (x : Reading)

theorem Selection.read_frame : (s.read x).channel = s.channel ∧ (s.read x).command = s.command ∧
    (s.read x).deselectPending = s.deselectPending ∧ (s.read x).taken = s.taken := by
  unfold Selection.read
  cases s.timing with
  | none => exact ⟨rfl, rfl, rfl, rfl⟩
  | some t =>
    rw [Option.elim_some]
    split <;> exact ⟨rfl, rfl, rfl, rfl⟩

theorem Selection.read_target {g : Timing} (hg : s.timing = some g) (hx : x = g.command.target) :
    (s.read x).timing = none ∧ (s.read x).watched = some g.command := by
  rw [Selection.read, hg, Option.elim_some, if_pos hx]
  exact ⟨rfl, rfl⟩

theorem Selection.read_other {g : Timing} (hg : s.timing = some g) (hx : x ≠ g.command.target) :
    (s.read x).watched = s.watched ∧ (s.read x).timing = some { g with left := g.left || x != g.start } := by
  rw [Selection.read, hg, Option.elim_some, if_neg hx]
  exact ⟨rfl, rfl⟩

theorem Selection.read_untimed (hg : s.timing = none) : (s.read x).timing = none ∧
    (s.read x).watched = if s.watched.map BrakeCommand.target = some x then s.watched else none := by
  have hread : s.read x = { s with watched := s.watched.filter fun cmd => decide (x = cmd.target) } := by
    rw [Selection.read, hg, Option.elim_none]
  rw [hread]
  refine ⟨hg, ?_⟩
  cases s.watched with
  | none => rfl
  | some cmd =>
    by_cases hx : x = cmd.target
    · simp only [Option.filter_some, hx, decide_true, if_true, Option.map_some]
    · have hx' : ¬ some cmd.target = some x := fun h => hx (Option.some.inj h).symm
      simp only [Option.filter_some, hx, decide_false, Bool.false_eq_true, if_false, Option.map_some, if_neg hx']

variable (r : TestRecord)

theorem TestRecord.soil_timing (cmd : BrakeCommand) : (r.soil cmd).timing cmd = { r.timing cmd with clean := false } :=
  TestRecord.timing_setTiming ..

theorem TestRecord.soil_timing_ne {cmd other : BrakeCommand} (h : other ≠ cmd) : (r.soil cmd).timing other = r.timing other :=
  TestRecord.timing_setTiming_ne _ _ h

theorem Selection.readRecord_target {g : Timing} (hg : s.timing = some g) (hx : x = g.command.target) :
    (s.readRecord x r).timing g.command = ⟨.ticks (min 150 g.elapsed), (r.timing g.command).clean, s.taken⟩ := by
  rw [Selection.readRecord, hg, Option.elim_some, if_pos hx]
  exact TestRecord.timing_setTiming ..

theorem Selection.readRecord_other {g : Timing} (hg : s.timing = some g) (hx : x ≠ g.command.target) :
    (s.readRecord x r).timing g.command =
      if g.left = true ∧ x = g.start then { r.timing g.command with clean := false } else r.timing g.command := by
  rw [Selection.readRecord, hg, Option.elim_some, if_neg hx]
  split
  · exact TestRecord.soil_timing ..
  · rfl

theorem Selection.readRecord_watched {cmd : BrakeCommand} (hg : s.timing = none) (hw : s.watched = some cmd) :
    (s.readRecord x r).timing cmd = if x = cmd.target then r.timing cmd else { r.timing cmd with clean := false } := by
  rw [Selection.readRecord, hg, Option.elim_none, hw, Option.elim_some]
  split
  · rfl
  · exact TestRecord.soil_timing ..

theorem Selection.readRecord_kept {cmd : BrakeCommand} (hg : s.timing.map Timing.command ≠ some cmd)
    (hw : s.timing = none → s.watched ≠ some cmd) : (s.readRecord x r).timing cmd = r.timing cmd := by
  unfold Selection.readRecord
  cases ht : s.timing with
  | none =>
    rw [Option.elim_none]
    cases hwatched : s.watched with
    | none => rfl
    | some k =>
      have hne : cmd ≠ k := fun h => hw ht (hwatched.trans (congrArg some h.symm))
      rw [Option.elim_some]
      split
      · rfl
      · exact TestRecord.soil_timing_ne _ hne
  | some t =>
    have hne : cmd ≠ t.command := fun h => hg (by rw [ht, h]; rfl)
    rw [Option.elim_some]
    split
    · exact TestRecord.timing_setTiming_ne _ _ hne
    · split
      · exact TestRecord.soil_timing_ne _ hne
      · rfl

theorem Selection.readRecord_result : (s.readRecord x r).result = r.result := by
  unfold Selection.readRecord
  cases s.timing with
  | none =>
    cases s.watched with
    | none => rfl
    | some cmd =>
      rw [Option.elim_none, Option.elim_some]
      split
      · rfl
      · exact TestRecord.setTiming_result ..
  | some t =>
    rw [Option.elim_some]
    split
    · exact TestRecord.setTiming_result ..
    · split
      · exact TestRecord.setTiming_result ..
      · rfl

end Read

/-! ## CB_FEEDBACK_CHANGE -/

theorem feedbackChange_untested {ch : CogChannel} {applied released : Bool} {c : Car}
    (hne : (c.brk.channels.get ch).reading ≠ readingOf applied released) (h : c.brk.test.commandFor ch = none) :
    feedbackChange ch applied released c = c.reading ch (readingOf applied released) := by
  cases ht : c.brk.test with
  | off | onIdle => simp only [feedbackChange, Car.reading, if_neg hne, ht]
  | onSelected sel =>
    have hchannel : sel.channel ≠ ch := by
      intro hch
      rw [ht] at h
      exact absurd ((commandFor_selected hch).symm.trans h) nofun
    simp only [feedbackChange, Car.reading, if_neg hne, ht, if_neg hchannel]

/-- The part whose selected channel's reading is taken by the channel and by the timing. -/
def Car.readSelected (c : Car) (sel : Selection) (x : Reading) : Car :=
  (c.reading sel.channel x).testing (.onSelected (sel.read x))
    (c.brk.results.set sel.channel (sel.readRecord x (c.brk.results.get sel.channel)))

theorem feedbackChange_selected {sel : Selection} {applied released : Bool} {c : Car}
    (hne : (c.brk.channels.get sel.channel).reading ≠ readingOf applied released) (ht : c.brk.test = .onSelected sel) :
    feedbackChange sel.channel applied released c =
      if sel.deselectPending = true ∧ readingOf applied released = .applied then
        completeSelection (sel.read (readingOf applied released)) (c.readSelected sel (readingOf applied released))
      else c.readSelected sel (readingOf applied released) := by
  generalize hx : readingOf applied released = x at hne
  have htaken := Selection.takeReading_eq (b := (c.reading sel.channel x).brk) ht x
  have hfeedback : feedbackChange sel.channel applied released c =
      completeIfPending (decide (x = .applied)) { c.reading sel.channel x with
        brk := sel.takeReading x (c.reading sel.channel x).brk } := by
    simp only [feedbackChange, Car.reading, hx, if_neg hne, ht, if_true]
  have hdone : (sel.deselectPending && decide (x = .applied)) = true ↔ sel.deselectPending = true ∧ x = .applied := by
    rw [Bool.and_eq_true, decide_eq_true_iff]
  obtain ⟨-, -, hpending, -⟩ := sel.read_frame x
  rw [hfeedback, htaken]
  simp only [completeIfPending, hpending, ← hdone]
  rfl

/-- Taking a command and driving an output leave a channel's reading as it is. -/
theorem brkJudge_reading (c : Car) (ch : CogChannel) :
    ((brkJudge c).brk.channels.get ch).reading = (c.brk.channels.get ch).reading := by
  have htake (r : CogRecord) (holder : Holder) (cmd : BrakeCommand) : (r.takeCommand holder cmd).reading = r.reading := by
    unfold CogRecord.takeCommand
    dsimp only
    split
    · rw [CogRecord.settleReading_frame]
    · split
      · rw [CogRecord.settleReading_frame]
      · rfl
  rw [brkJudge_channel, judgeChannel, CogRecord.drive_reading, htake]

theorem CogRecord.takeReading_reading (r : CogRecord) (x : Reading) : (r.takeReading x).reading = x := by
  rw [CogRecord.takeReading_frame]

theorem CogRecord.recovered_reading (r : CogRecord) (pass : Bool) : (r.recovered pass).reading = r.reading := by
  unfold CogRecord.recovered
  split <;> rfl

/-- The part whose selection a reading completes. -/
def Car.readCompleted (c : Car) (sel : Selection) (x : Reading) : Car :=
  occur .brakeTestResult (256 * sel.channel.number + if (sel.readRecord x (c.brk.results.get sel.channel)).passes then 1 else 2)
    ((c.reading sel.channel x).completed sel.channel (sel.readRecord x (c.brk.results.get sel.channel)))

theorem completeSelection_read (c : Car) (sel : Selection) (x : Reading) :
    completeSelection (sel.read x) (c.readSelected sel x) = c.readCompleted sel x := by
  obtain ⟨hchannel, -, -, -⟩ := sel.read_frame x
  have hget : (c.readSelected sel x).brk.results.get sel.channel = sel.readRecord x (c.brk.results.get sel.channel) :=
    PerCog.get_set_self ..
  rw [completeSelection_eq, hchannel, hget]
  exact congrArg (occur _ _) ((c.reading sel.channel x).completed_ended ..)

theorem TestRecord.passes_iff_timed (r : TestRecord) : r.passes = true ↔
    (∃ a b, r.release.time = .ticks a ∧ r.apply.time = .ticks b) ∧ r.release.clean = true ∧ r.apply.clean = true ∧
      r.release.order < r.apply.order := by
  rw [TestRecord.passes_iff]
  exact ⟨fun ⟨a, b, ha, hb, h⟩ => ⟨⟨a, b, ha, hb⟩, h⟩, fun ⟨⟨a, b, ha, hb⟩, h⟩ => ⟨a, b, ha, hb, h⟩⟩

/-- The completion of a selection by a reading, as PASS or as FAIL. -/
theorem Car.readCompleted_result (c : Car) (sel : Selection) (x : Reading) :
    let t := brkJudge (c.readCompleted sel x)
    let r := t.brk.results.get sel.channel
    let timed := (∃ a b, r.release.time = .ticks a ∧ r.apply.time = .ticks b) ∧ r.release.clean = true ∧ r.apply.clean = true ∧
      r.release.order < r.apply.order
    r.result = .pass ∧ t.evr = c.evr.take c.now .brakeTestResult (256 * sel.channel.number + 1) ∧
        (t.brk.channels.get sel.channel).state ≠ .fault ∧ timed ∨
      r.result = .fail ∧ t.evr = c.evr.take c.now .brakeTestResult (256 * sel.channel.number + 2) ∧
        ((c.brk.channels.get sel.channel).state = .fault → (t.brk.channels.get sel.channel).state = .fault) ∧ ¬ timed := by
  intro t r timed
  obtain ⟨holder, value, hchannel⟩ := brkJudge_completed (c.reading sel.channel x) sel.channel
    (sel.readRecord x (c.brk.results.get sel.channel))
    (256 * sel.channel.number + if (sel.readRecord x (c.brk.results.get sel.channel)).passes then 1 else 2)
  have hr : r = { sel.readRecord x (c.brk.results.get sel.channel) with
      result := if (sel.readRecord x (c.brk.results.get sel.channel)).passes then .pass else .fail } := PerCog.get_set_self ..
  have hevr : t.evr = c.evr.take c.now .brakeTestResult (256 * sel.channel.number +
    if (sel.readRecord x (c.brk.results.get sel.channel)).passes then 1 else 2) := rfl
  have hget : (c.reading sel.channel x).brk.channels.get sel.channel = (c.brk.channels.get sel.channel).takeReading x :=
    PerCog.get_set_self ..
  have hchannel : t.brk.channels.get sel.channel = _ := hchannel
  clear_value t
  generalize sel.readRecord x (c.brk.results.get sel.channel) = q at hchannel hr hevr
  have hstate : (t.brk.channels.get sel.channel).state = .fault ↔
      (((c.brk.channels.get sel.channel).takeReading x).recovered q.passes).state = .fault := by
    rw [hchannel, CogRecord.drive_state, CogRecord.takeCommand_fault, hget]
  have htimed : timed ↔ q.passes = true := by
    rw [TestRecord.passes_iff_timed]
    simp only [timed, hr]
  rw [htimed, hr, hevr, Ne, hstate]
  by_cases hpass : q.passes = true
  · simp only [hpass, if_true]
    exact .inl ⟨trivial, trivial, CogRecord.recovered_pass_state _, trivial⟩
  · rw [Bool.not_eq_true] at hpass
    simp only [hpass, Bool.false_eq_true, if_false]
    refine .inr ⟨trivial, trivial, fun hfault => ?_, nofun⟩
    rw [CogRecord.recovered_fail]
    exact (CogRecord.takeReading_way ..).1.2 hfault

/-- Settles O31: an untested channel takes its reading alone, a selected one together with its timing. -/
theorem feedbackSettlesTransits : Obligations.FeedbackSettlesTransits := by
  intro ch applied released s hr hlaw reading r i
  have hreading : reading = readingOf applied released := by cases applied <;> cases released <;> rfl
  clear_value reading
  subst hreading
  have hrun {d : Car} (h : feedbackChange ch applied released s.car = d) : exec i s = .next ⟨settle d, s.pending⟩ :=
    congrArg Host.Outcome.next ((hr.runPin ..).trans (by rw [h]))
  refine ⟨fun hsame => ?same, fun hne htest => ?untested, fun sel hne ht hchannel => ?selected⟩
  case same => exact (hrun (if_pos hsame)).trans (by rw [hr.settled])
  case untested =>
    have hexec := hrun (feedbackChange_untested hne htest)
    rw [hr.settle_brakes (d := s.car.reading ch _) rfl rfl rfl rfl rfl rfl, hr.brkJudge_reading] at hexec
    have hget := s.car.reading_get ch (readingOf applied released) ch
    rw [if_pos rfl] at hget
    refine ⟨_, hexec, rfl, rfl, fun other hother => PerCog.get_set_ne _ _ hother, fun h => hget.trans (CogRecord.takeReading_fault _ _ h),
      fun h => hget.trans (CogRecord.takeReading_releasing _ _ h), fun h => hget.trans (CogRecord.takeReading_applying _ _ h),
      fun h => hget.trans (CogRecord.takeReading_applied _ _ h), fun h => hget.trans (CogRecord.takeReading_released _ _ h),
      tractionPermitted_iff ..⟩
  case selected =>
    subst hchannel
    intro earlier
    have hfeedback := feedbackChange_selected hne ht
    have htaken := CogRecord.takeReading_reading r (readingOf applied released)
    generalize readingOf applied released = x at hne hrun hfeedback htaken ⊢
    intro completes
    have hget : (s.car.reading sel.channel x).brk.channels.get sel.channel = r.takeReading x := PerCog.get_set_self ..
    by_cases hdone : completes
    · rw [if_pos hdone, completeSelection_read] at hfeedback
      have hexec := hrun hfeedback
      rw [hr.settle_brakes (d := s.car.readCompleted sel x) rfl rfl rfl rfl rfl rfl] at hexec
      have hrecord : (s.car.brk.results.set sel.channel { sel.readRecord x earlier with
          result := if (sel.readRecord x earlier).passes then .pass else .fail }).get sel.channel =
          { sel.readRecord x earlier with result := if (sel.readRecord x earlier).passes then .pass else .fail } :=
        PerCog.get_set_self ..
      have htiming (cmd : BrakeCommand) := (congrArg (TestRecord.timing · cmd) hrecord).trans (TestRecord.timing_with_result ..)
      obtain ⟨holder, value, hchannel⟩ := brkJudge_completed (s.car.reading sel.channel x) sel.channel (sel.readRecord x earlier)
        (256 * sel.channel.number + if (sel.readRecord x earlier).passes then 1 else 2)
      rw [hget] at hchannel
      refine ⟨_, hexec, rfl, ?_, fun other hother => PerCog.get_set_ne _ _ hother, fun hnot => absurd hdone hnot,
        fun _ => ⟨rfl, ?_⟩, fun g hg hx => (htiming _).trans (sel.readRecord_target x earlier hg hx),
        fun g hg hx => (htiming _).trans (sel.readRecord_other x earlier hg hx),
        fun cmd hg hw => (htiming _).trans (sel.readRecord_watched x earlier hg hw),
        fun cmd hg hw => (htiming _).trans (sel.readRecord_kept x earlier hg hw), rfl, rfl, rfl, rfl, rfl, rfl, rfl⟩
      · refine (brkJudge_reading ..).trans ?_
        refine (congrArg CogRecord.reading (PerCog.get_set_self ..)).trans ((CogRecord.recovered_reading ..).trans ?_)
        rw [hget, htaken]
      · exact s.car.readCompleted_result sel x
    · rw [if_neg hdone] at hfeedback
      have hexec := hrun hfeedback
      rw [hr.settle_brakes (d := s.car.readSelected sel x) rfl rfl rfl rfl rfl rfl] at hexec
      have hrecord : (s.car.brk.results.set sel.channel (sel.readRecord x earlier)).get sel.channel = sel.readRecord x earlier :=
        PerCog.get_set_self ..
      have htiming (cmd : BrakeCommand) := congrArg (TestRecord.timing · cmd) hrecord
      obtain ⟨hchannel, hcommand, hpending, htakens⟩ := sel.read_frame x
      refine ⟨_, hexec, rfl, ?_, fun other hother => PerCog.get_set_ne _ _ hother, fun _ => ⟨_, rfl, hchannel, hcommand, hpending,
        htakens, (congrArg TestRecord.result hrecord).trans (sel.readRecord_result x earlier), rfl,
        fun g hg hx => sel.read_target x hg hx, fun g hg hx => sel.read_other x hg hx, fun hg => sel.read_untimed x hg⟩,
        fun h => absurd h hdone, fun g hg hx => (htiming _).trans (sel.readRecord_target x earlier hg hx),
        fun g hg hx => (htiming _).trans (sel.readRecord_other x earlier hg hx),
        fun cmd hg hw => (htiming _).trans (sel.readRecord_watched x earlier hg hw),
        fun cmd hg hw => (htiming _).trans (sel.readRecord_kept x earlier hg hw), rfl, rfl, rfl, rfl, rfl, rfl, rfl⟩
      exact (brkJudge_reading ..).trans ((congrArg CogRecord.reading hget).trans htaken)

end Sys2Proof.Machine
end

section
/-! The entry to fault stop and its broadcasts (R125 to R129, R149, R173). -/

namespace Sys2Proof.Machine

/-! ## Doors of which no leaf has moved (R144, R147 to R149) -/

theorem Dor.withdraw_leaves (d : Dor) (side : Side) : (d.withdraw side).leaves = d.leaves := rfl

/-- What the withdrawal of releases leaves alone of the doors: it takes releases, slots and kept acts and nothing else. -/
structure Dor.Withdrawn (d e : Dor) : Prop where
  leaves : e.leaves = d.leaves
  proven : e.proven = d.proven
  condition : e.condition = d.condition
  exchange : e.exchange = d.exchange
  blocks : e.blocks = d.blocks

theorem Dor.Withdrawn.refl (d : Dor) : d.Withdrawn d := ⟨rfl, rfl, rfl, rfl, rfl⟩

theorem Dor.Withdrawn.trans {d e f : Dor} (h : d.Withdrawn e) (k : e.Withdrawn f) : d.Withdrawn f :=
  ⟨k.leaves.trans h.leaves, k.proven.trans h.proven, k.condition.trans h.condition, k.exchange.trans h.exchange,
    k.blocks.trans h.blocks⟩

theorem Dor.withdraw_withdrawn (d : Dor) (side : Side) : d.Withdrawn (d.withdraw side) := ⟨rfl, rfl, rfl, rfl, rfl⟩

theorem Dor.withdrawGranted_withdrawn (d : Dor) : d.Withdrawn d.withdrawGranted := by
  have hone (e : Dor) (side : Side) : e.Withdrawn (if (e.sides.get side).release.isSome then e.withdraw side else e) := by
    split
    · exact e.withdraw_withdrawn side
    · exact .refl e
  exact (hone d .left).trans (hone _ .right)

theorem Dor.enterFaultStop_withdrawn (d : Dor) : d.Withdrawn d.enterFaultStop :=
  d.withdrawGranted_withdrawn.trans ⟨rfl, rfl, rfl, rfl, rfl⟩

/-- No release is left granted once each granted one has been withdrawn. -/
theorem Dor.withdrawGranted_release (d : Dor) (side : Side) : (d.withdrawGranted.sides.get side).release = none := by
  have hone (e : Dor) (side : Side) :
      ((if (e.sides.get side).release.isSome then e.withdraw side else e).sides.get side).release = none := by
    split
    · cases side <;> rfl
    · exact Option.not_isSome_iff_eq_none.1 ‹_›
  have hother (e : Dor) : ((if (e.sides.get .right).release.isSome then e.withdraw .right else e).sides.get .left).release =
      (e.sides.get .left).release := by
    split <;> rfl
  cases side
  · exact (hother _).trans (hone d .left)
  · exact hone _ .right

theorem Dor.enterFaultStop_slots (d : Dor) : ∀ x ∈ d.enterFaultStop.slots, x.2.opens = false := fun x hx => by
  simpa using (List.mem_filter.1 hx).2

/-- The door judgement of doors whose leaves stand as they stood: the proven state and the DOOR condition are handed no change. -/
theorem DoorsSettled.dorJudge_of {c d : Car} (h : DoorsSettled c) (hleaves : d.dor.allSafe = c.dor.allSafe)
    (hproven : d.dor.proven = c.dor.proven) (hcondition : d.dor.condition = c.dor.condition) (hfused : d.odo.fused = c.odo.fused)
    (hhanded : d.brk.doorsProven = c.brk.doorsProven) (hconditions : d.brk.conditions.door = c.brk.conditions.door)
    (hcauses : d.brk.causes.door = c.brk.causes.door) : dorJudge d = { d with
      dor := d.dor.judge d.odo.fused
      brk := { d.brk with doorHold := (d.dor.judge d.odo.fused).hold } } := by
  have hsafe : d.dor.allSafe = c.dor.proven := hleaves.trans (congrArg Dor.proven h.judged)
  have hstill : (d.dor.judge d.odo.fused).condition = d.dor.condition := by
    have hbefore : (c.dor.judge c.odo.fused).condition = c.dor.condition := congrArg Dor.condition h.judged
    rw [hcondition, ← hbefore]
    show (!d.dor.allSafe && decide (25 < d.odo.fused)) = (!c.dor.allSafe && decide (25 < c.odo.fused))
    rw [hleaves, hfused]
  have hproven' : (d.dor.judge d.odo.fused).proven = d.dor.proven := hsafe.trans hproven.symm
  have hgiven : d.brk.doorsProven = (d.dor.judge d.odo.fused).proven :=
    hhanded.trans (h.handedProven.trans hsafe.symm)
  unfold dorJudge
  dsimp only
  rw [hstill, hproven', levelChange, if_pos rfl, ← hproven', ← hgiven]
  unfold handDoor
  cases hcond : d.dor.condition
  · rfl
  · obtain ⟨r, hr, hp⟩ := h.cause (hcondition.symm.trans hcond)
    exact causeStart_of_present (cause := .door) (hconditions.trans (h.handedCondition (hcondition.symm.trans hcond)))
      (hcauses.trans hr) hp

/-! ## The broadcast (R129, R173) -/

section Broadcast
variable (c : Car)

theorem placeFaultStop_frame (f : Frame) : placeFaultStop f c = { c with
    lif := (placeFaultStop f c).lif
    evr := (placeFaultStop f c).evr
    vrl := (placeFaultStop f c).vrl } := by
  unfold placeFaultStop
  split
  · rfl
  · split <;> rfl

theorem broadcastFaultStop_frame : broadcastFaultStop c = { c with
    lif := (broadcastFaultStop c).lif
    evr := (broadcastFaultStop c).evr
    vrl := (broadcastFaultStop c).vrl } := by
  unfold broadcastFaultStop
  split
  · split
    · rfl
    · exact placeFaultStop_frame ..
  · rfl

variable {c}

/-- The broadcast that the part's fault record makes. -/
def Car.broadcast (c : Car) (f : FaultRecord) : Frame :=
  .faultStop c.lif.sourceNumber f.cause f.stamp f.laterCount f.laterMask c.odo.position.pos c.odo.position.state

theorem broadcastFaultStop_waiting (h : (c.lif.queue.any fun q => q.frame.isFaultStop) = true) : broadcastFaultStop c = c := by
  unfold broadcastFaultStop
  split
  · rw [if_pos h]
  · rfl

theorem broadcastFaultStop_placed {f : FaultRecord} (hf : c.brk.faultRecord = some f)
    (h : (c.lif.queue.any fun q => q.frame.isFaultStop) = false) :
    broadcastFaultStop c = placeFaultStop (c.broadcast f) c := by
  simp only [broadcastFaultStop, hf, h]
  rfl

theorem placeFaultStop_room {f : Frame} (h : c.lif.nonReplyRoom = true) :
    placeFaultStop f c = { c with lif := c.lif.append c.vrl.link [f] } := if_pos h

theorem placeFaultStop_displaced {f : Frame} {rest : List Queued} (h : c.lif.nonReplyRoom = false)
    (hrest : displace c.lif.queue = some rest) :
    placeFaultStop f c = { c with lif := ({ c.lif with queue := rest } : Lif).append c.vrl.link [f] } := by
  rw [placeFaultStop, if_neg (ne_true_of_eq_false h), hrest]

theorem placeFaultStop_dropped {f : Frame} (h : c.lif.nonReplyRoom = false) (hnone : displace c.lif.queue = none) :
    placeFaultStop f c = occur .originateFull (512 + f.kind) c := by
  rw [placeFaultStop, if_neg (ne_true_of_eq_false h), hnone]

theorem removeFirst_eq_none {α : Type} {f : α → Bool} {l : List α} (h : ∀ x ∈ l, f x = false) : removeFirst f l = none := by
  induction l with
  | nil => rfl
  | cons x l ih =>
    rw [removeFirst, h x List.mem_cons_self, ih fun y hy => h y (List.mem_cons_of_mem _ hy)]
    rfl

theorem removeFirst_append {α : Type} {f : α → Bool} {a b : List α} {q : α} (ha : ∀ x ∈ a, f x = false) (hq : f q = true) :
    removeFirst f (a ++ q :: b) = some (a ++ b) := by
  induction a with
  | nil => simp only [List.nil_append, removeFirst, hq, if_true]
  | cons x a ih =>
    rw [List.cons_append, removeFirst, ha x List.mem_cons_self, ih fun y hy => ha y (List.mem_cons_of_mem _ hy)]
    rfl

theorem removeFirst_isSome {α : Type} {f : α → Bool} {l : List α} {q : α} (h : q ∈ l) (hq : f q = true) :
    ∃ rest, removeFirst f l = some rest := by
  induction l with
  | nil => cases h
  | cons x l ih =>
    unfold removeFirst
    split
    · exact ⟨_, rfl⟩
    · rename_i hx
      obtain ⟨rest, hrest⟩ := ih ((List.mem_cons.1 h).resolve_left fun heq => hx (heq ▸ hq))
      exact ⟨x :: rest, by rw [hrest, Option.map_some]⟩

/-- What a FAULT STOP may displace: a NOTICE BATCH, a RADIO STATUS or a RADIO RELAY whose sending has not begun. -/
theorem displace_isSome_iff (q : List Queued) : (∃ rest, displace q = some rest) ↔
    ∃ x ∈ q, x.begun = false ∧ x.frame.kind ∈ [44, 45, 49] := by
  have hbatch (f : Frame) : f.isNoticeBatch = true ↔ f.kind = 49 := by cases f <;> simp [Frame.isNoticeBatch, Frame.kind]
  constructor
  · rintro ⟨rest, h⟩
    by_contra hnone
    have hnot (x : Queued) (hx : x ∈ q) (hb : x.begun = false) : x.frame.kind ≠ 44 ∧ x.frame.kind ≠ 45 ∧ x.frame.kind ≠ 49 := by
      have := fun hk => hnone ⟨x, hx, hb, hk⟩
      simpa [not_or] using this
    rw [displace, removeFirst_eq_none fun x hx => ?batch] at h
    · dsimp only at h
      rw [removeFirst_eq_none fun x hx => ?status] at h
      · cases h
      case status =>
        cases hb : x.begun with
        | true => simp
        | false => simpa using ⟨(hnot x hx hb).2.1, (hnot x hx hb).1⟩
    case batch =>
      cases hb : x.begun with
      | true => simp
      | false => simpa [← Bool.not_eq_true, hbatch] using (hnot x hx hb).2.2
  · rintro ⟨x, hx, hb, hk⟩
    unfold displace
    split
    · exact ⟨_, rfl⟩
    · rename_i hnone
      have hk49 : x.frame.kind ≠ 49 := fun hk => by
        obtain ⟨rest, hrest⟩ := removeFirst_isSome (f := fun x => x.frame.isNoticeBatch && !x.begun) hx
          (by simp [(hbatch _).2 hk, hb])
        cases hnone.symm.trans hrest
      refine removeFirst_isSome hx ?_
      simp only [List.mem_cons, List.not_mem_nil, or_false] at hk
      simp only [hb, Bool.not_false, Bool.and_true, Bool.or_eq_true, beq_iff_eq]
      tauto

end Broadcast

/-! ## Settled with the broadcast timer restarted (R129) -/

theorem BrakesSettled.with_record {c : Car} (h : BrakesSettled c) (timer : Option Nat) (record : Option FaultRecord) :
    BrakesSettled { c with brk := { c.brk with broadcastTimer := timer, faultRecord := record } } := by
  obtain ⟨hchannels, hpending, havailable, hvalid, hlevel, htraction⟩ := h
  exact ⟨hchannels, hpending, havailable, hvalid, hlevel, htraction⟩

theorem Ready.with_record {s : State} (hr : Ready s) (timer : Option Nat) (record : Option FaultRecord) :
    Ready ⟨{ s.car with brk := { s.car.brk with broadcastTimer := timer, faultRecord := record } }, s.pending⟩ := by
  have hdoors : DoorsSettled { s.car with brk := { s.car.brk with broadcastTimer := timer, faultRecord := record } } := by
    obtain ⟨hjudged, hproven, hhold, hcondition, hcause⟩ := hr.doors
    exact ⟨hjudged, hproven, hhold, hcondition, hcause⟩
  exact ⟨hr.1, (settle_eq_self_iff _).2 ⟨hdoors, hr.brakes.with_record timer record⟩, hr.unreserved⟩

/-- The part with its broadcast timer from 0. -/
def Car.rebroadcast (c : Car) : Car := { c with brk := { c.brk with broadcastTimer := some 0 } }

theorem exec_broadcast {s : State} (hr : Ready s) (hstop : s.car.brk.faultStop = true)
    (htimer : Timer.reached 50 s.car.brk.broadcastTimer = true) :
    exec .faultStopBroadcastTimer s = .next ⟨broadcastFaultStop s.car.rebroadcast, s.pending⟩ := by
  have hexpiry : broadcastExpiry s.car = broadcastFaultStop s.car.rebroadcast := by
    unfold broadcastExpiry
    rw [hstop, show Timer.reached Limit.broadcast s.car.brk.broadcastTimer = true from htimer]
    rfl
  have hframe := broadcastFaultStop_frame s.car.rebroadcast
  have hquiet : settle (broadcastFaultStop s.car.rebroadcast) = broadcastFaultStop s.car.rebroadcast :=
    (hr.with_record (some 0) s.car.brk.faultRecord).settle_quiet (by rw [hframe]; rfl) (by rw [hframe]; rfl)
      (by rw [hframe]; rfl) (by rw [hframe]; rfl)
  have hrun : exec .faultStopBroadcastTimer s = .next (s.run broadcastExpiry) := rfl
  rw [hrun, hr.run, hexpiry, hquiet]

/-- Settles O34: the broadcast timer restarts, and what is placed is decided by the queue alone. -/
theorem faultStopIsBroadcast : Obligations.FaultStopIsBroadcast := by
  intro s hr
  refine ⟨fun h => ?quiet, fun hstop htimer f hf => ?_⟩
  case quiet =>
    have hexpiry : broadcastExpiry s.car = s.car := by
      unfold broadcastExpiry
      rcases h with h | h
      · rw [h]
        rfl
      · rw [show Timer.reached Limit.broadcast s.car.brk.broadcastTimer = false from h, Bool.and_false]
        rfl
    have hrun : exec .faultStopBroadcastTimer s = .next (s.run broadcastExpiry) := rfl
    rw [hrun, hr.run, hexpiry, hr.settled]
  intro restarted frame
  have hexec := exec_broadcast hr hstop htimer
  have hframe : s.car.rebroadcast.broadcast f = frame := rfl
  refine ⟨fun hwaits => ?_, fun hfree hroom => ?_, fun hfree hroom => ⟨fun a q b hq hbatch ha => ?_, fun a q b hnone hq hk ha => ?_,
    fun hall => ?_⟩⟩
  · rw [hexec, broadcastFaultStop_waiting (c := s.car.rebroadcast) hwaits]
    rfl
  · rw [hexec, broadcastFaultStop_placed (c := s.car.rebroadcast) hf hfree, placeFaultStop_room (c := s.car.rebroadcast) hroom]
    rfl
  · have hdisplace : displace s.car.rebroadcast.lif.queue = some (a ++ b) := by
      rw [show s.car.rebroadcast.lif.queue = a ++ q :: b from hq, displace, removeFirst_append (fun x hx => ?_) ?_]
      · rw [hbatch.1, hbatch.2]
        rfl
      · have := ha x hx
        cases hb : x.frame.isNoticeBatch <;> simp_all
    rw [hexec, broadcastFaultStop_placed (c := s.car.rebroadcast) hf hfree,
      placeFaultStop_displaced (c := s.car.rebroadcast) hroom hdisplace]
    rfl
  · have hdisplace : displace s.car.rebroadcast.lif.queue = some (a ++ b) := by
      have hbatches : removeFirst (fun x => x.frame.isNoticeBatch && !x.begun) s.car.lif.queue = none :=
        removeFirst_eq_none fun x hx => by
          have := hnone x hx
          cases hb : x.frame.isNoticeBatch <;> simp_all
      show displace s.car.lif.queue = _
      rw [displace, hbatches, hq]
      refine removeFirst_append (fun x hx => ?_) ?_
      · have := ha x hx
        cases hb : x.begun
        · simp only [hb, and_true, not_or] at this
          simp [this.1, this.2]
        · simp
      · rw [hk.2]
        rcases hk.1 with hk | hk
        · simp [hk]
        · simp [hk]
    rw [hexec, broadcastFaultStop_placed (c := s.car.rebroadcast) hf hfree,
      placeFaultStop_displaced (c := s.car.rebroadcast) hroom hdisplace]
    rfl
  · have hdisplace : displace s.car.rebroadcast.lif.queue = none := by
      rw [← Option.not_isSome_iff_eq_none, Option.isSome_iff_exists, displace_isSome_iff]
      rintro ⟨x, hx, hb, hk⟩
      have hreply := (hall x hx).resolve_left (ne_true_of_eq_false hb)
      cases hf : x.frame <;> simp_all [Frame.isReply, Frame.kind]
    rw [hexec, broadcastFaultStop_placed (c := s.car.rebroadcast) hf hfree,
      placeFaultStop_dropped (c := s.car.rebroadcast) hroom hdisplace]
    rfl

end Sys2Proof.Machine
end

section
/-! What entry to fault stop leaves over an intact table (R125, R126, R149), and BRAKE_CHANNEL_FAULT and the readback (R97 to R100). -/

namespace Sys2Proof.Machine

/-- Two outcomes of a command that leave the same part. -/
theorem next_congr {c d : Car} {pending : List Instr} (h : c = d) :
    (Host.Outcome.next ⟨c, pending⟩ : Host.Outcome State Fault Refusal) = .next ⟨d, pending⟩ := by rw [h]

section Entry
variable {c : Car} {cause : FaultCause}

theorem abortTest_frame (c : Car) : abortTest c = { c with
    brk := (abortTest c).brk
    evr := (abortTest c).evr
    vrl := (abortTest c).vrl } := by
  unfold abortTest
  split <;> rfl

theorem abortTest_off (h : c.brk.test = .off) : abortTest c = c := by
  simp only [abortTest, h]

theorem abortTest_idle_evr (h : c.brk.test = .onIdle) : (abortTest c).evr = c.evr.take c.now .brakeTestResult 3 := by
  simp only [abortTest, h]
  rfl

theorem abortTest_selected_evr {sel : Selection} (h : c.brk.test = .onSelected sel) :
    (abortTest c).evr = c.evr.take c.now .brakeTestResult (256 * sel.channel.number + 3) := by
  simp only [abortTest, h, Nat.mul_comm 256]
  rfl

/-- Fault stop in force with its record written and the releases of the doors withdrawn, before the test ends (R126). -/
def Car.stopping (c : Car) (cause : FaultCause) : Car := { c with
  brk := { c.brk with faultStop := true, faultRecord := some (c.faultRecordOf cause), broadcastTimer := some 0 }
  dor := c.dor.enterFaultStop }

/-- The part as the entry leaves it but for the first broadcast. -/
def Car.stopped (c : Car) (cause : FaultCause) : Car := occur .faultStop cause.code (abortTest (c.stopping cause))

theorem Intact.enterFaultStop (h : Intact c) (cause : FaultCause) :
    enterFaultStop cause c = broadcastFaultStop (c.stopped cause) := by
  simp only [Machine.enterFaultStop, h.failures, h.read, ite_self, laterCauses]
  rfl

theorem Car.stopped_frame (c : Car) (cause : FaultCause) : c.stopped cause = { c with
    brk := (abortTest (c.stopping cause)).brk
    dor := c.dor.enterFaultStop
    evr := (c.stopped cause).evr
    vrl := (c.stopped cause).vrl } := by
  unfold Car.stopped
  rw [abortTest_frame]
  rfl

theorem Intact.enterFaultStop_frame (h : Intact c) (cause : FaultCause) : Machine.enterFaultStop cause c = { c with
    brk := (abortTest (c.stopping cause)).brk
    dor := c.dor.enterFaultStop
    lif := (Machine.enterFaultStop cause c).lif
    evr := (Machine.enterFaultStop cause c).evr
    vrl := (Machine.enterFaultStop cause c).vrl } := by
  rw [h.enterFaultStop, broadcastFaultStop_frame, Car.stopped_frame]

/-- What a settled part holds right after the entry to fault stop. -/
structure Entered (c : Car) (cause : FaultCause) (d : Car) : Prop where
  faultStop : d.brk.faultStop = true
  watch : d.brk.watch = c.brk.watch
  broadcastTimer : d.brk.broadcastTimer = some 0
  faultRecord : d.brk.faultRecord = some (c.faultRecordOf cause)
  channel : ∀ ch, d.brk.channels.get ch = ((c.brk.channels.get ch).takeCommand .faultStop .apply).drive false
  svcLevel : d.brk.svcLevel = max 7 c.brk.copy.level
  tractionOk : d.brk.tractionOk = false
  test : d.brk.test = .off
  causes : d.brk.causes = c.brk.causes
  release : ∀ side, (d.dor.sides.get side).release = none
  slots : d.dor.slots = c.dor.enterFaultStop.slots
  now : d.now = c.now
  inReset : d.inReset = c.inReset
  evr : d.evr = (Machine.enterFaultStop cause c).evr
  lif : d.lif = (Machine.enterFaultStop cause c).lif
  odo : d.odo = c.odo
  tlf : d.tlf = c.tlf
  pst : d.pst = c.pst
  record : d.ssv = { c.ssv with waiting := d.ssv.waiting }

theorem judgeChannel_stopped_off (hstop : c.brk.faultStop = true) (htest : c.brk.test = .off) (ch : CogChannel) :
    judgeChannel c ch = ((c.brk.channels.get ch).takeCommand .faultStop .apply).drive false := by
  have harbitrate : arbitrate c ch = (.faultStop, .apply) := if_pos hstop
  have hdrives : ((c.brk.channels.get ch).takeCommand .faultStop .apply).drives none = false := by
    unfold CogRecord.drives
    split
    · rfl
    · rw [(CogRecord.takeCommand_command ..).1]
      rfl
  rw [judgeChannel, harbitrate, htest]
  exact congrArg (CogRecord.drive _) hdrives

theorem Intact.entered (h : Intact c) (hd : DoorsSettled c) (cause : FaultCause) :
    Entered c cause (settle (Machine.enterFaultStop cause c)) := by
  have hframe := h.enterFaultStop_frame cause
  generalize hbrk : (abortTest (c.stopping cause)).brk = b at hframe
  generalize hentered : Machine.enterFaultStop cause c = e at hframe ⊢
  obtain ⟨hleaves, hproven, hcondition, -, -⟩ := c.dor.enterFaultStop_withdrawn
  have hdor : e.dor = c.dor.enterFaultStop := by rw [hframe]
  have hodo : e.odo = c.odo := by rw [hframe]
  have hb : e.brk = b := by rw [hframe]
  have hsettle : settle e = brkJudge { e with
      dor := e.dor.judge e.odo.fused
      brk := { e.brk with doorHold := (e.dor.judge e.odo.fused).hold } } := by
    rw [settle, hd.dorJudge_of (by rw [hdor, Dor.allSafe, hleaves]; rfl) (by rw [hdor, hproven]) (by rw [hdor, hcondition])
      (by rw [hodo]) (by rw [hb, ← hbrk, abortTest_doorsProven]; rfl) (by rw [hb, ← hbrk, abortTest_conditions]; rfl)
      (by rw [hb, ← hbrk, abortTest_causes]; rfl)]
  have hstop : b.faultStop = true := by rw [← hbrk, abortTest_faultStop]; rfl
  have htest : b.test = .off := by rw [← hbrk, abortTest_test]
  rw [hsettle, hdor, hodo, hb]
  have hssv := (brkJudge_ssv_frame { e with
    dor := c.dor.enterFaultStop.judge c.odo.fused
    brk := { b with doorHold := (c.dor.enterFaultStop.judge c.odo.fused).hold } }).1
  refine {
    faultStop := hstop
    watch := by rw [← hbrk]; exact abortTest_watch _
    broadcastTimer := by rw [← hbrk]; exact abortTest_broadcastTimer _
    faultRecord := by rw [← hbrk]; exact abortTest_faultRecord _
    channel := fun ch => ?channel
    svcLevel := (serviceLevel_stopped (.inl hstop)).trans (by rw [← hbrk]; exact congrArg (max 7 ·.level) (abortTest_copy _))
    tractionOk := tractionPermitted_stopped (.inl hstop) _
    test := htest
    causes := by rw [← hbrk]; exact abortTest_causes _
    release := fun side => ?release
    slots := rfl
    now := by rw [hframe]; rfl
    inReset := by rw [hframe]; rfl
    evr := by rw [hentered]; rfl
    lif := by rw [hentered]; rfl
    odo := rfl
    tlf := by rw [hframe]; rfl
    pst := by rw [hframe]; rfl
    record := hssv.trans (by rw [hframe]) }
  case channel =>
    rw [brkJudge_channel, judgeChannel_stopped_off (by exact hstop) (by exact htest), ← hbrk]
    dsimp only
    rw [abortTest_channels]
    rfl
  case release =>
    have hsides : ((c.dor.enterFaultStop.judge c.odo.fused).sides.get side).release =
        (c.dor.enterFaultStop.sides.get side).release := by
      cases side <;> exact Dor.passed_release ..
    exact hsides.trans (c.dor.withdrawGranted_release side)

end Entry

/-! ## A channel enters FAULT (R97 to R99) -/

/-- A channel's record as it enters FAULT. -/
def CogRecord.failed (r : CogRecord) (reason : CogReason) : CogRecord :=
  { r with state := .fault, transit := none, departure := none, energised := false, reason := some reason }

/-- The part with a channel in FAULT, and the test and its results as that leaves them. -/
def Car.faulted (c : Car) (ch : CogChannel) (reason : CogReason) (t : BrakeTest) (results : PerCog TestRecord) : Car :=
  { c with brk := { c.brk with
      channels := c.brk.channels.set ch ((c.brk.channels.get ch).failed reason)
      test := t
      results := results } }

/-- The report of a channel's FAULT. -/
def Car.faultReported (c : Car) (ch : CogChannel) (reason : CogReason) (t : BrakeTest) (results : PerCog TestRecord) : Car :=
  occur .brakeChannelFault (256 * ch.number + reason.code) (c.faulted ch reason t results)

section ChannelFault
variable {c : Car} {ch : CogChannel} {reason : CogReason}

theorem channelFault_unselected (h : ∀ sel, c.brk.test = .onSelected sel → sel.channel ≠ ch) :
    channelFault ch reason c = c.faultReported ch reason c.brk.test c.brk.results := by
  simp only [Car.faultReported, Nat.mul_comm 256]
  cases ht : c.brk.test with
  | off | onIdle =>
    simp only [channelFault, ht, occur_brk, Car.faulted]
    rfl
  | onSelected sel =>
    have hne := h sel ht
    simp only [channelFault, ht, if_neg hne, occur_brk, completeIfPending, decide_eq_false hne, Bool.false_and, Bool.and_false,
      Bool.false_eq_true, if_false, Car.faulted]
    rfl

section Selected
variable {sel : Selection} (ht : c.brk.test = .onSelected sel) (hch : sel.channel = ch)
include ht hch

theorem channelFault_departed : ∃ results, channelFault ch .uncommanded c =
    c.faultReported ch .uncommanded (.onSelected { sel with command := .apply }) results := by
  have hkind : (CogReason.uncommanded != .uncommanded) = false := rfl
  simp only [Car.faultReported, Nat.mul_comm 256]
  simp only [channelFault, ht, if_pos hch, hkind, Bool.false_eq_true, if_false, occur_brk, completeIfPending, Bool.and_false,
    Bool.false_and]
  exact ⟨_, rfl⟩

/-- A transit timeout of the channel selected: the timing that runs ends as EXCEEDED under the command APPLY. -/
theorem channelFault_timed (hreason : reason ≠ .uncommanded) : ∃ sel', sel'.channel = ch ∧ sel'.command = .apply ∧
    channelFault ch reason c = if sel.deselectPending then
      completeSelection sel' (c.faultReported ch reason (.onSelected sel')
        (c.brk.results.set ch (sel.endedRecord (c.brk.results.get ch) .exceeded)))
    else c.faultReported ch reason (.onSelected sel')
      (c.brk.results.set ch (sel.endedRecord (c.brk.results.get ch) .exceeded)) := by
  have hkind : (reason != .uncommanded) = true := bne_iff_ne.2 hreason
  simp only [Car.faultReported, Nat.mul_comm 256]
  subst hch
  cases hg : sel.timing with
  | none =>
    refine ⟨{ sel with command := .apply }, rfl, rfl, ?_⟩
    simp only [channelFault, ht, hkind, if_true, Selection.endTiming, hg, occur_brk, completeIfPending, Selection.endedRecord,
      Option.elim_none, PerCog.set_get, decide_true, Option.isNone_none, Bool.and_true]
    rfl
  | some g =>
    refine ⟨{ sel with command := .apply, timing := none, watched := none }, rfl, rfl, ?_⟩
    simp only [channelFault, ht, hkind, if_true, Selection.endTiming, hg, occur_brk, completeIfPending, Selection.endedRecord,
      Option.elim_some, decide_true, Option.isNone_none, Bool.and_true]
    rfl

end Selected
end ChannelFault

/-! ## What arbitration does with a channel in FAULT -/

theorem CogRecord.takeCommand_frame (r : CogRecord) (holder : Holder) (cmd : BrakeCommand) : r.takeCommand holder cmd = { r with
    holder := holder
    command := cmd
    state := (r.takeCommand holder cmd).state
    transit := (r.takeCommand holder cmd).transit
    departure := (r.takeCommand holder cmd).departure } := by
  unfold CogRecord.takeCommand
  dsimp only
  split
  · rw [CogRecord.settleReading_frame]
  · split
    · rw [CogRecord.settleReading_frame]
    · rfl

theorem CogRecord.takeCommand_failed (r : CogRecord) (reason : CogReason) (holder : Holder) (cmd : BrakeCommand) :
    (r.failed reason).takeCommand holder cmd = { r.failed reason with holder := holder, command := cmd } := by
  have hstate : (r.failed reason).state = .fault := rfl
  simp only [CogRecord.takeCommand, hstate, reduceCtorEq, or_self, and_false, if_false]

theorem availableCount_failed {q : PerCog CogRecord} {ch : CogChannel} {r : CogRecord} (hbefore : (q.get ch).state ≠ .fault)
    (hr : r.state = .fault) : availableCount (q.set ch r) + 1 = availableCount q := by
  cases ch
  · have hq : q.cbA.state ≠ .fault := hbefore
    show (if r.state = .fault then 0 else 1) + (if q.cbB.state = .fault then 0 else 1) + 1 = _
    rw [availableCount, if_pos hr, if_neg hq]
    omega
  · have hq : q.cbB.state ≠ .fault := hbefore
    show (if q.cbA.state = .fault then 0 else 1) + (if r.state = .fault then 0 else 1) + 1 = _
    rw [availableCount, if_pos hr, if_neg hq]

section Faulted
variable {s : State} (hr : Ready s) {ch : CogChannel} (reason : CogReason) {t : BrakeTest} (results : PerCog TestRecord)

theorem Ready.settle_faultReported (hr : Ready s) (ch : CogChannel) (t : BrakeTest) :
    settle (s.car.faultReported ch reason t results) = brkJudge (s.car.faultReported ch reason t results) :=
  hr.settle_brakes rfl rfl rfl rfl rfl rfl

/-- A channel in FAULT that no test commands to release is de-energised, its readback compared with that. -/
theorem brkJudge_faulted (c : Car) (ch : CogChannel) (htest : t.commandFor ch ≠ some .release) :
    ∃ holder cmd, (brkJudge (c.faultReported ch reason t results)).brk.channels.get ch =
      CogRecord.drive { (c.brk.channels.get ch).failed reason with holder := holder, command := cmd } false := by
  have hget : (c.faultReported ch reason t results).brk.channels.get ch = (c.brk.channels.get ch).failed reason :=
    PerCog.get_set_self ..
  have hvalue : (t.commandFor ch == some .release) = false := beq_eq_false_iff_ne.2 htest
  rw [brkJudge_channel, judgeChannel, hget]
  dsimp only
  rw [CogRecord.takeCommand_failed]
  exact ⟨_, _, congrArg (CogRecord.drive _) ((if_pos rfl).trans hvalue)⟩

include hr

/-- The other channel is arbitrated as it was. -/
theorem Ready.brkJudge_unfaulted {other : CogChannel} (hother : other ≠ ch) (hoff : (t == .off) = (s.car.brk.test == .off))
    (hcommand : t.commandFor other = s.car.brk.test.commandFor other) :
    (brkJudge (s.car.faultReported ch reason t results)).brk.channels.get other = s.car.brk.channels.get other := by
  have hget : (s.car.faultReported ch reason t results).brk.channels.get other = s.car.brk.channels.get other :=
    PerCog.get_set_ne _ _ hother
  have harbitrate : arbitrate (s.car.faultReported ch reason t results) other = arbitrate s.car other := by
    have htest : (s.car.faultReported ch reason t results).brk.test = t := rfl
    simp only [arbitrate, releasePresent, hget, htest, hcommand, hoff]
    rfl
  have hdrives : (s.car.faultReported ch reason t results).brk.test.commandFor other = s.car.brk.test.commandFor other := hcommand
  rw [brkJudge_channel, judgeChannel, harbitrate, hget, hdrives]
  exact hr.brakes.channels other

theorem Ready.brkJudge_available_faulted (h : (s.car.brk.channels.get ch).state ≠ .fault) :
    (brkJudge (s.car.faultReported ch reason t results)).brk.available + 1 = s.car.brk.available ∧
    (brkJudge (s.car.faultReported ch reason t results)).ssv = s.car.ssv.cause := by
  have hcount := availableCount_failed (q := s.car.brk.channels) (r := (s.car.brk.channels.get ch).failed reason) h rfl
  rw [← hr.brakes.available] at hcount
  refine ⟨(congrArg (· + 1) (brkJudge_available _)).trans hcount, brkJudge_ssv_cause (c := s.car.faultReported ch reason t results) ?_⟩
  show availableCount (s.car.brk.channels.set ch _) ≠ s.car.brk.available
  omega

end Faulted

theorem brkJudge_faulted_traction {c : Car} (ch : CogChannel) (reason : CogReason) (t : BrakeTest) (results : PerCog TestRecord)
    (htest : t.commandFor ch ≠ some .release) :
    (brkJudge (c.faultReported ch reason t results)).brk.tractionOk = false := by
  obtain ⟨holder, cmd, hch⟩ := brkJudge_faulted reason results c ch htest
  have hstate : ((brkJudge (c.faultReported ch reason t results)).brk.channels.get ch).state = .fault := by
    rw [hch, CogRecord.drive_state]
    rfl
  rw [← Bool.not_eq_true]
  intro htraction
  obtain ⟨-, -, -, ha, hb, -⟩ := (tractionPermitted_iff ..).1 htraction
  cases ch
  · exact absurd (hstate.symm.trans ha) nofun
  · exact absurd (hstate.symm.trans hb) nofun

/-! ## The transit and departure timers (R97, R98) -/

section Expiry
variable {c : Car} {ch : CogChannel} {reason : CogReason}

theorem transitExpiry_quiet (h : Timer.reached 150 (c.brk.channels.get ch).transit = false ∨
    ((c.brk.channels.get ch).state ≠ .releasing ∧ (c.brk.channels.get ch).state ≠ .applying)) : transitExpiry ch c = c := by
  unfold transitExpiry
  dsimp only
  split
  · rename_i hreached
    obtain ⟨hreleasing, happlying⟩ := h.resolve_left (ne_false_of_eq_true hreached)
    cases hs : (c.brk.channels.get ch).state with
    | releasing => exact absurd hs hreleasing
    | applying => exact absurd hs happlying
    | _ => rfl
  · rfl

theorem departureExpiry_quiet (h : Timer.reached 20 (c.brk.channels.get ch).departure = false ∨
    ((c.brk.channels.get ch).state ≠ .applied ∧ (c.brk.channels.get ch).state ≠ .released)) : departureExpiry ch c = c := by
  unfold departureExpiry
  dsimp only
  split
  · rename_i hreached
    obtain ⟨happlied, hreleased⟩ := h.resolve_left (ne_false_of_eq_true hreached)
    cases hs : (c.brk.channels.get ch).state with
    | applied => exact absurd hs happlied
    | released => exact absurd hs hreleased
    | _ => rfl
  · rfl

theorem transitExpiry_reached (hreached : Timer.reached 150 (c.brk.channels.get ch).transit = true)
    (h : ((c.brk.channels.get ch).state = .releasing ∧ reason = .releaseTimeout) ∨
      ((c.brk.channels.get ch).state = .applying ∧ reason = .applyTimeout)) : transitExpiry ch c = channelFault ch reason c := by
  have hlimit : Timer.reached Limit.transit (c.brk.channels.get ch).transit = true := hreached
  obtain ⟨hs, rfl⟩ | ⟨hs, rfl⟩ := h
  all_goals simp only [transitExpiry, hlimit, if_true, hs]

theorem departureExpiry_reached (hreached : Timer.reached 20 (c.brk.channels.get ch).departure = true)
    (h : (c.brk.channels.get ch).state = .applied ∨ (c.brk.channels.get ch).state = .released) :
    departureExpiry ch c = channelFault ch .uncommanded c := by
  have hlimit : Timer.reached Limit.departure (c.brk.channels.get ch).departure = true := hreached
  obtain hs | hs := h
  all_goals simp only [departureExpiry, hlimit, if_true, hs]

end Expiry

/-- A channel's FAULT that completes no selection: the report, with the test and its results as some selection of the channel
under the command APPLY leaves them. -/
theorem channelFault_reported {c : Car} {ch : CogChannel} {reason : CogReason} (hfree : reason ≠ .uncommanded →
      ∀ sel, c.brk.test = .onSelected sel → sel.channel = ch → sel.deselectPending = false) :
    ∃ t results, channelFault ch reason c = c.faultReported ch reason t results ∧ (t == .off) = (c.brk.test == .off) ∧
      t.commandFor ch ≠ some .release ∧ (∀ other, other ≠ ch → t.commandFor other = c.brk.test.commandFor other) ∧
      (c.brk.test.isSelected = false → t = c.brk.test ∧ results = c.brk.results) ∧
      (∀ sel, c.brk.test = .onSelected sel → sel.channel = ch → ∃ sel', t = .onSelected sel' ∧ sel'.channel = ch ∧
        sel'.command = .apply) := by
  by_cases hsel : ∃ sel, c.brk.test = .onSelected sel ∧ sel.channel = ch
  · obtain ⟨sel, ht, hch⟩ := hsel
    have hselected (sel' : Selection) (h' : sel'.channel = ch) (hcmd : sel'.command = .apply) :
        ((BrakeTest.onSelected sel') == .off) = (c.brk.test == .off) ∧
        (BrakeTest.onSelected sel').commandFor ch ≠ some .release ∧
        (∀ other, other ≠ ch → (BrakeTest.onSelected sel').commandFor other = c.brk.test.commandFor other) ∧
        (c.brk.test.isSelected = false → BrakeTest.onSelected sel' = c.brk.test) ∧
        (∀ sel, c.brk.test = .onSelected sel → sel.channel = ch → ∃ sel'', BrakeTest.onSelected sel' = .onSelected sel'' ∧
          sel''.channel = ch ∧ sel''.command = .apply) := by
      refine ⟨by rw [ht]; rfl, ?_, fun other hother => ?_, fun h => ?_, fun _ _ _ => ⟨sel', rfl, h', hcmd⟩⟩
      · rw [commandFor_selected h', hcmd]
        nofun
      · rw [ht]
        exact (if_neg fun h => hother (h'.symm.trans h).symm).trans (if_neg fun h => hother (hch.symm.trans h).symm).symm
      · rw [ht] at h
        cases h
    have hnot : c.brk.test.isSelected ≠ false := by rw [ht]; nofun
    by_cases hreason : reason = .uncommanded
    · subst hreason
      obtain ⟨results, hfault⟩ := channelFault_departed ht hch
      obtain ⟨hoff, hcmd, hother, -, hsel⟩ := hselected { sel with command := .apply } hch rfl
      exact ⟨_, results, hfault, hoff, hcmd, hother, fun h => absurd h hnot, hsel⟩
    · obtain ⟨sel', hch', hcmd', hfault⟩ := channelFault_timed ht hch hreason
      rw [if_neg (ne_true_of_eq_false (hfree hreason sel ht hch))] at hfault
      obtain ⟨hoff, hcmd, hother, -, hsel⟩ := hselected sel' hch' hcmd'
      exact ⟨_, _, hfault, hoff, hcmd, hother, fun h => absurd h hnot, hsel⟩
  · have hnone (sel : Selection) (ht : c.brk.test = .onSelected sel) : sel.channel ≠ ch := fun hch => hsel ⟨sel, ht, hch⟩
    refine ⟨_, _, channelFault_unselected hnone, rfl, ?_, fun _ _ => rfl, fun _ => ⟨rfl, rfl⟩, fun sel ht hch =>
      absurd hch (hnone sel ht)⟩
    cases ht : c.brk.test with
    | off | onIdle => nofun
    | onSelected sel => exact fun h => absurd ((if_neg (hnone sel ht)).symm.trans h) nofun

/-! ## The readback of an output (R100) -/

theorem CogRecord.takeCommand_pinned {r : CogRecord} {holder : Holder} {cmd : BrakeCommand} {value : Bool}
    (h : (r.takeCommand holder cmd).drive value = r) (pin : Bool) (timer : Timer) (reported : Bool) :
    CogRecord.takeCommand { r with readsBack := pin, readback := timer, reported := reported } holder cmd =
      { r with readsBack := pin, readback := timer, reported := reported } := by
  obtain ⟨hcommand, hholder⟩ := CogRecord.takeCommand_command r holder cmd
  rw [← CogRecord.drive_command _ value, h] at hcommand
  rw [← CogRecord.drive_holder _ value, h] at hholder
  obtain ⟨hrelease, happly⟩ := CogRecord.takeCommand_stays (r := r) (holder := holder) (cmd := cmd)
    (by rw [← CogRecord.drive_state _ value, h])
  subst hcommand hholder
  exact (if_neg hrelease).trans (if_neg happly)

/-- The brake judgement of channels of which no state changes. -/
theorem BrakesSettled.brkJudge_channels {c : Car} (h : BrakesSettled c) {q r : PerCog CogRecord}
    (hq : ∀ ch, judgeChannel { c with brk := { c.brk with channels := q } } ch = r.get ch)
    (hstate : ∀ ch, (r.get ch).state = (c.brk.channels.get ch).state) :
    brkJudge { c with brk := { c.brk with channels := q } } = { c with brk := { c.brk with channels := r } } := by
  have hjudged : (⟨judgeChannel { c with brk := { c.brk with channels := q } } .cbA,
      judgeChannel { c with brk := { c.brk with channels := q } } .cbB⟩ : PerCog CogRecord) = r := by
    rw [hq, hq]
    rfl
  have hcount : availableCount r = c.brk.available := (availableCount_congr fun ch => by rw [hstate ch]).trans h.available.symm
  have htraction : tractionPermitted { c with brk := { c.brk with channels := q } } r = c.brk.tractionOk := by
    rw [h.tractionOk, Bool.eq_iff_iff, tractionPermitted_iff, tractionPermitted_iff]
    rw [show r.cbA.state = c.brk.channels.cbA.state from hstate .cbA, show r.cbB.state = c.brk.channels.cbB.state from hstate .cbB]
  have hlevel : serviceLevel { c with brk := { c.brk with channels := q } } = c.brk.svcLevel := h.svcLevel.symm
  have hpending : (c.brk.test.isSelected && holdPlaced { c with brk := { c.brk with channels := q } }) = c.brk.holdPending :=
    h.holdPending.symm
  have hvalid : true = c.brk.svcValid := h.svcValid.symm
  unfold brkJudge
  dsimp only
  rw [hjudged, hcount, htraction, hlevel, hpending, if_pos rfl, hvalid]

/-- The part with what an output reads back, its timer and its reported flag. -/
def Car.readingBack (c : Car) (ch : CogChannel) (pin : Bool) (timer : Timer) (reported : Bool) : Car :=
  { c with brk := { c.brk with
      channels := c.brk.channels.set ch { c.brk.channels.get ch with readsBack := pin, readback := timer, reported := reported } } }

/-- A channel's output compared with a new readback. -/
theorem CogRecord.pinned_drive (r : CogRecord) (pin : Bool) (timer : Timer) (reported : Bool) :
    CogRecord.drive { r with readsBack := pin, readback := timer, reported := reported } r.energised =
      { r with
        readsBack := pin
        readback := if pin = r.energised then none else some (timer.getD 0)
        reported := if pin = r.energised then false else reported } := by
  by_cases h : pin = r.energised
  · simp only [CogRecord.drive, h, if_true]
  · simp only [CogRecord.drive, h, if_false]

theorem Ready.settle_readingBack {s : State} (hr : Ready s) (ch : CogChannel) (pin : Bool) (timer : Timer) (reported : Bool) :
    settle (s.car.readingBack ch pin timer reported) = s.car.readingBack ch pin
      (if pin = (s.car.brk.channels.get ch).energised then none else some (timer.getD 0))
      (if pin = (s.car.brk.channels.get ch).energised then false else reported) := by
  have hsettle : settle (s.car.readingBack ch pin timer reported) = brkJudge (s.car.readingBack ch pin timer reported) :=
    hr.settle_brakes rfl rfl rfl rfl rfl rfl
  have hget (t : Timer) (rep : Bool) (k : CogChannel) : (s.car.readingBack ch pin t rep).brk.channels.get k =
      if k = ch then { s.car.brk.channels.get k with readsBack := pin, readback := t, reported := rep }
      else s.car.brk.channels.get k := by
    split
    · subst k
      exact PerCog.get_set_self ..
    · exact PerCog.get_set_ne _ _ ‹_›
  rw [hsettle]
  refine hr.brakes.brkJudge_channels (fun k => ?_) fun k => ?_
  · have hjudged := hr.brakes.channels k
    have harbitrate : arbitrate (s.car.readingBack ch pin timer reported) k = arbitrate s.car k := by
      have hstate : ((s.car.readingBack ch pin timer reported).brk.channels.get k).state = (s.car.brk.channels.get k).state := by
        rw [hget]
        split <;> rfl
      simp only [arbitrate, releasePresent, hstate]
      rfl
    have hdrives (r : CogRecord) : r.drives ((s.car.readingBack ch pin timer reported).brk.test.commandFor k) =
        r.drives (s.car.brk.test.commandFor k) := rfl
    rw [judgeChannel] at hjudged
    show judgeChannel (s.car.readingBack ch pin timer reported) k = (s.car.readingBack ch pin _ _).brk.channels.get k
    rw [judgeChannel, harbitrate, hdrives, hget, hget]
    by_cases hk : k = ch
    · subst hk
      obtain ⟨hkept, -⟩ := CogRecord.takeCommand_of_judged hjudged
      have hvalue := (congrArg CogRecord.energised hjudged).symm
      rw [CogRecord.drive_energised, hkept] at hvalue
      rw [if_pos rfl, if_pos rfl, CogRecord.takeCommand_pinned hjudged, ← CogRecord.pinned_drive]
      exact congrArg (CogRecord.drive _) hvalue.symm
    · rw [if_neg hk, if_neg hk]
      exact hjudged
  · refine congrArg CogRecord.state (hget _ _ k) |>.trans ?_
    split <;> rfl

/-! ## The timers and the readback, settled -/

/-- A channel that a timer sends to FAULT with no selection to complete. -/
theorem exec_faulted {s : State} (hr : Ready s) {i : Instr} {ch : CogChannel} {reason : CogReason}
    (hexec : exec i s = .next ⟨settle (channelFault ch reason s.car), s.pending⟩)
    (hfree : reason ≠ .uncommanded → ∀ sel, s.car.brk.test = .onSelected sel → sel.channel = ch → sel.deselectPending = false) :
    ∃ t results, exec i s = .next ⟨brkJudge (s.car.faultReported ch reason t results), s.pending⟩ ∧
      (t == .off) = (s.car.brk.test == .off) ∧ t.commandFor ch ≠ some .release ∧
      (∀ other, other ≠ ch → t.commandFor other = s.car.brk.test.commandFor other) ∧
      (s.car.brk.test.isSelected = false → t = s.car.brk.test ∧ results = s.car.brk.results) ∧
      (∀ sel, s.car.brk.test = .onSelected sel → sel.channel = ch → ∃ sel', t = .onSelected sel' ∧ sel'.channel = ch ∧
        sel'.command = .apply) := by
  obtain ⟨t, results, hfault, hoff, hcmd, hother, hunselected, hselected⟩ := channelFault_reported hfree
  refine ⟨t, results, ?_, hoff, hcmd, hother, hunselected, hselected⟩
  rw [hexec, hfault, hr.settle_faultReported]

/-- A pending deselect that a transit timeout completes. -/
theorem exec_faultCompleted {s : State} (hr : Ready s) {ch : CogChannel} {reason : CogReason} {sel : Selection}
    (hexec : exec (.transitTimeout ch) s = .next ⟨settle (channelFault ch reason s.car), s.pending⟩)
    (hreason : reason ≠ .uncommanded) (ht : s.car.brk.test = .onSelected sel) (hch : sel.channel = ch)
    (hpending : sel.deselectPending = true) :
    let r := sel.endedRecord (s.car.brk.results.get ch) .exceeded
    ∃ t, exec (.transitTimeout ch) s = .next ⟨brkJudge (occur .brakeTestResult (256 * ch.number + if r.passes then 1 else 2)
      ((s.car.faultReported ch reason t (s.car.brk.results.set ch r)).completed ch r)), s.pending⟩ := by
  intro r
  obtain ⟨sel', hch', -, hfault⟩ := channelFault_timed ht hch hreason
  have hget : (s.car.faultReported ch reason (.onSelected sel') (s.car.brk.results.set ch r)).brk.results.get ch = r :=
    PerCog.get_set_self ..
  rw [if_pos hpending, completeSelection_eq, hch', hget] at hfault
  have hsettle := hr.settle_brakes (d := occur .brakeTestResult (256 * ch.number + if r.passes then 1 else 2)
    ((s.car.faultReported ch reason (.onSelected sel') (s.car.brk.results.set ch r)).completed ch r)) rfl rfl rfl rfl rfl rfl
  exact ⟨.onSelected sel', by rw [hexec, hfault, hsettle]⟩

theorem dorJudge_channels (c : Car) : (dorJudge c).brk.channels = c.brk.channels := by
  simp only [dorJudge, handDoor_channels, levelChange]
  split
  · rfl
  · split <;> rfl

/-- A judgement compares each output's readback with the value it drives (R100). -/
theorem settle_readback (c : Car) (ch : CogChannel) :
    let r := c.brk.channels.get ch
    let q := (settle c).brk.channels.get ch
    q.readsBack = r.readsBack ∧
    (r.readsBack = q.energised → q.readback = none ∧ q.reported = false) ∧
    (r.readsBack ≠ q.energised → q.readback = some (r.readback.getD 0) ∧ q.reported = r.reported) := by
  have hget : (settle c).brk.channels.get ch = judgeChannel (dorJudge c) ch := brkJudge_channel ..
  have hframe := CogRecord.takeCommand_frame (c.brk.channels.get ch) (arbitrate (dorJudge c) ch).1 (arbitrate (dorJudge c) ch).2
  rw [judgeChannel, dorJudge_channels] at hget
  generalize (c.brk.channels.get ch).takeCommand (arbitrate (dorJudge c) ch).1 (arbitrate (dorJudge c) ch).2 = q at hget hframe
  have hpin : q.readsBack = (c.brk.channels.get ch).readsBack := (congrArg CogRecord.readsBack hframe :)
  have htimer : q.readback = (c.brk.channels.get ch).readback := (congrArg CogRecord.readback hframe :)
  have hreported : q.reported = (c.brk.channels.get ch).reported := (congrArg CogRecord.reported hframe :)
  obtain ⟨hdriven, hflag⟩ := CogRecord.drive_readback q (q.drives ((dorJudge c).brk.test.commandFor ch))
  intro r q'
  rw [show q' = _ from hget]
  rw [CogRecord.drive_readsBack, CogRecord.drive_energised, hdriven, hflag, hpin, htimer, hreported]
  exact ⟨rfl, fun h => ⟨if_pos h, if_pos h⟩, fun h => ⟨if_neg h, if_neg h⟩⟩

section Readback
variable {s : State} {ch : CogChannel}

theorem readbackExpiry_quiet {c : Car} (h : Timer.reached 5 (c.brk.channels.get ch).readback = false ∨
    (c.brk.channels.get ch).reported = true) : readbackExpiry ch c = c := by
  refine if_neg fun hboth => ?_
  rcases h with h | h
  · exact absurd (h.symm.trans hboth.1) nofun
  · exact absurd (h.symm.trans hboth.2) nofun

theorem readbackExpiry_reached {c : Car} (h : Timer.reached 5 (c.brk.channels.get ch).readback = true)
    (hr : (c.brk.channels.get ch).reported = false) : readbackExpiry ch c = reportFault .outputReadback
      (c.readingBack ch (c.brk.channels.get ch).readsBack (c.brk.channels.get ch).readback true) := if_pos ⟨h, hr⟩

/-- A settled output whose readback timer runs reads back another value than it drives. -/
theorem Ready.readback_differs (hr : Ready s) (h : Timer.reached 5 (s.car.brk.channels.get ch).readback = true) :
    ∃ n, (s.car.brk.channels.get ch).readback = some n ∧
      (s.car.brk.channels.get ch).readsBack ≠ (s.car.brk.channels.get ch).energised := by
  obtain ⟨hpin, hagree, -⟩ := settle_readback s.car ch
  rw [hr.settled] at hagree
  cases hn : (s.car.brk.channels.get ch).readback with
  | none =>
    rw [hn] at h
    cases h
  | some n => exact ⟨n, rfl, fun hsame => absurd (hn.symm.trans (hagree hsame).1) nofun⟩

/-- Reporting an output as OUTPUT_READBACK leaves the part settled (R100). -/
theorem Ready.with_reported (hr : Ready s) (h : Timer.reached 5 (s.car.brk.channels.get ch).readback = true) :
    Ready ⟨s.car.readingBack ch (s.car.brk.channels.get ch).readsBack (s.car.brk.channels.get ch).readback true, s.pending⟩ := by
  obtain ⟨n, hn, hdiffers⟩ := hr.readback_differs h
  refine ⟨hr.1, ?_, hr.unreserved⟩
  have hsettle := hr.settle_readingBack ch (s.car.brk.channels.get ch).readsBack (s.car.brk.channels.get ch).readback true
  rw [if_neg hdiffers, if_neg hdiffers, hn, Option.getD_some] at hsettle
  rw [hn]
  exact hsettle

end Readback

section Reported
variable {s : State} (hr : Ready s) {ch : CogChannel} (reason : CogReason) {t : BrakeTest} (results : PerCog TestRecord)

/-- The record that a channel in FAULT is left with, its readback compared with an output that is de-energised (R99, R100). -/
theorem brkJudge_faulted_record (c : Car) (hcmd : t.commandFor ch ≠ some .release) :
    let r := c.brk.channels.get ch
    let q := (brkJudge (c.faultReported ch reason t results)).brk.channels.get ch
    q.state = .fault ∧ q.reason = some reason ∧ q.transit = none ∧ q.departure = none ∧ q.energised = false ∧
      q.reading = r.reading ∧ q.readsBack = r.readsBack ∧
      q.readback = (if r.readsBack then some (r.readback.getD 0) else none) ∧ q.reported = (r.readsBack && r.reported) := by
  intro r q
  obtain ⟨holder, cmd, hget⟩ := brkJudge_faulted reason results c ch hcmd
  obtain ⟨htimer, hflag⟩ := CogRecord.drive_readback { r.failed reason with holder := holder, command := cmd } false
  rw [show q = _ from hget]
  rw [CogRecord.drive_state, CogRecord.drive_reason, CogRecord.drive_transit, CogRecord.drive_departure,
    CogRecord.drive_energised, CogRecord.drive_reading, CogRecord.drive_readsBack, htimer, hflag]
  refine ⟨rfl, rfl, rfl, rfl, rfl, rfl, rfl, ?_, ?_⟩
  · show (if r.readsBack = false then none else some (r.readback.getD 0)) = _
    cases r.readsBack <;> rfl
  · show (if r.readsBack = false then false else r.reported) = _
    cases r.readsBack <;> rfl

/-- The report of a FAULT and the completion of a deselect leave the other blocks, the causes and fault stop as they are. -/
theorem brkJudge_faultCompleted (c : Car) (x : TestRecord) (n : Nat) :
    let d := brkJudge (occur .brakeTestResult n ((c.faultReported ch reason t (results.set ch x)).completed ch x))
    d.brk.test = .onIdle ∧ d.brk.results.get ch = { x with result := if x.passes then .pass else .fail } ∧
    d.evr = (c.evr.take c.now .brakeChannelFault (256 * ch.number + reason.code)).take c.now .brakeTestResult n ∧
    d.brk.causes = c.brk.causes ∧ d.brk.faultStop = c.brk.faultStop ∧
    d.lif = c.lif ∧ d.tlf = c.tlf ∧ d.odo = c.odo ∧ d.pst = c.pst ∧ d.dor = c.dor :=
  ⟨rfl, PerCog.get_set_self .., rfl, rfl, rfl, rfl, rfl, rfl, rfl, rfl⟩

/-- A completion that does not pass leaves the channel in FAULT with its reason. -/
theorem brkJudge_faultCompleted_fails (c : Car) {x : TestRecord} (n : Nat) (hx : x.passes = false) :
    let d := brkJudge (occur .brakeTestResult n ((c.faultReported ch reason t results).completed ch x))
    (d.brk.channels.get ch).state = .fault ∧ (d.brk.channels.get ch).reason = some reason := by
  intro d
  obtain ⟨holder, value, hget⟩ := brkJudge_completed (c.faultReported ch reason t results) ch x n
  have hfailed : (c.faultReported ch reason t results).brk.channels.get ch = (c.brk.channels.get ch).failed reason :=
    PerCog.get_set_self ..
  rw [hfailed, hx, CogRecord.recovered_fail, CogRecord.takeCommand_failed] at hget
  rw [show d.brk.channels.get ch = _ from hget, CogRecord.drive_state, CogRecord.drive_reason]
  exact ⟨rfl, rfl⟩

end Reported

section Instructions
variable {s : State} (hr : Ready s) (ch : CogChannel)
include hr

theorem exec_transitTimeout : exec (.transitTimeout ch) s = .next ⟨settle (transitExpiry ch s.car), s.pending⟩ :=
  congrArg Host.Outcome.next (hr.run _)

theorem exec_departureTimeout : exec (.departureTimeout ch) s = .next ⟨settle (departureExpiry ch s.car), s.pending⟩ :=
  congrArg Host.Outcome.next (hr.run _)

theorem exec_readbackTimeout : exec (.readbackTimeout ch) s = .next ⟨settle (readbackExpiry ch s.car), s.pending⟩ :=
  congrArg Host.Outcome.next (hr.run _)

theorem exec_readbackChange (pin : Bool) : exec (.readbackChange ch pin) s =
    .next ⟨settle (s.car.readingBack ch pin (s.car.brk.channels.get ch).readback (s.car.brk.channels.get ch).reported), s.pending⟩ :=
  congrArg Host.Outcome.next (hr.runPin _ _)

/-- A timer that sends its channel to FAULT, and what it found. -/
theorem exec_channelFault {i : Instr} {reason : CogReason} (h :
    (i = .transitTimeout ch ∧ Timer.reached 150 (s.car.brk.channels.get ch).transit = true ∧
      (((s.car.brk.channels.get ch).state = .releasing ∧ reason = .releaseTimeout) ∨
        ((s.car.brk.channels.get ch).state = .applying ∧ reason = .applyTimeout))) ∨
    (i = .departureTimeout ch ∧ Timer.reached 20 (s.car.brk.channels.get ch).departure = true ∧ reason = .uncommanded ∧
      ((s.car.brk.channels.get ch).state = .applied ∨ (s.car.brk.channels.get ch).state = .released))) :
    exec i s = .next ⟨settle (channelFault ch reason s.car), s.pending⟩ ∧ (s.car.brk.channels.get ch).state ≠ .fault ∧
      (reason ≠ .uncommanded → i = .transitTimeout ch) := by
  rcases h with ⟨rfl, hreached, hstate⟩ | ⟨rfl, hreached, rfl, hstate⟩
  · rw [exec_transitTimeout hr, transitExpiry_reached hreached hstate]
    refine ⟨rfl, ?_, fun _ => rfl⟩
    rcases hstate with ⟨hs, -⟩ | ⟨hs, -⟩
    all_goals rw [hs]; nofun
  · rw [exec_departureTimeout hr, departureExpiry_reached hreached hstate]
    refine ⟨rfl, ?_, fun hnot => absurd rfl hnot⟩
    rcases hstate with hs | hs
    all_goals rw [hs]; nofun

end Instructions

/-- Settles O32: a channel's FAULT by the record it leaves the channel, its readback by what each judgement compares. -/
theorem brakeTimersAndReadback : Obligations.BrakeTimersAndReadback := by
  refine ⟨fun i ch reason s hr => ?fault, fun ch s hr hi => ?readback, fun ch c => settle_readback c ch⟩
  case fault =>
    refine ⟨fun h => ?quiet, fun h hfree => ?reported, fun sel hinstr hreached hstate _ ht hch hpending htiming => ?completed⟩
    case quiet =>
      rcases h with ⟨rfl, h⟩ | ⟨rfl, h⟩
      · rw [exec_transitTimeout hr, transitExpiry_quiet h, hr.settled]
      · rw [exec_departureTimeout hr, departureExpiry_quiet h, hr.settled]
    case reported =>
      obtain ⟨hrun, hbefore, hi⟩ := exec_channelFault hr ch h
      obtain ⟨t, results, hnext, hoff, hcmd, hother, hunselected, hselected⟩ :=
        exec_faulted hr hrun fun hreason sel => hfree sel (hi hreason)
      obtain ⟨havailable, hssv⟩ := hr.brkJudge_available_faulted (t := t) reason results hbefore
      refine ⟨_, hnext, rfl, brkJudge_faulted_record reason results s.car hcmd,
        fun other hne => congrArg CogRecord.state (hr.brkJudge_unfaulted reason results hne hoff (hother _ hne)),
        havailable, hssv, rfl, rfl, brkJudge_faulted_traction ch reason t results hcmd,
        fun h => ⟨(hunselected h).1, (hunselected h).2, ?_⟩, hselected, rfl, rfl, rfl, rfl, rfl⟩
      cases reason <;> rfl
    case completed =>
      have hreason : reason ≠ .uncommanded := by
        rcases hstate with ⟨-, rfl⟩ | ⟨-, rfl⟩ <;> nofun
      obtain ⟨hrun, -, -⟩ := exec_channelFault hr ch (.inl ⟨hinstr, hreached, hstate⟩)
      subst hinstr
      obtain ⟨t, hnext⟩ := exec_faultCompleted hr hrun hreason ht hch hpending
      generalize hended : sel.endedRecord (s.car.brk.results.get ch) .exceeded = e at hnext
      obtain ⟨htest, hresult, hevr, hrest⟩ := brkJudge_faultCompleted (ch := ch) (t := t) reason s.car.brk.results s.car e
        (256 * ch.number + if e.passes then 1 else 2)
      refine ⟨_, hnext, rfl, htest, fun g hg => ?_, hevr.trans ?_, by rw [hresult]; cases e.passes <;> simp, hrest⟩
      · have htimed : e.timing g.command = ⟨.exceeded, false, sel.taken⟩ := hended ▸ sel.endedRecord_ended hg
        have hfails : e.passes = false := TestRecord.passes_of_timing (cmd := g.command) fun n => by rw [htimed]; nofun
        exact ⟨(congrArg (TestRecord.timing · g.command) hresult).trans ((TestRecord.timing_with_result ..).trans htimed),
          (congrArg TestRecord.result hresult).trans (by rw [hfails]; rfl),
          brkJudge_faultCompleted_fails reason _ s.car _ hfails⟩
      · rw [hresult]
        cases reason <;> cases e.passes <;> rfl
  case readback =>
    intro r
    refine ⟨?_, ?_, fun h => ?_, fun hreached hreported hstop f hf => ?_, fun hreached hreported hstop => ?_⟩
    · rw [exec_readbackChange hr, hr.settle_readingBack, if_pos rfl, if_pos rfl]
      rfl
    · have hne : (!r.energised) ≠ r.energised := by cases r.energised <;> nofun
      rw [exec_readbackChange hr, hr.settle_readingBack, if_neg hne, if_neg hne]
      rfl
    · rw [exec_readbackTimeout hr, readbackExpiry_quiet h, hr.settled]
    · have hready := (hr.with_reported hreached).with_record s.car.brk.broadcastTimer (some (f.later .outputReadback))
      have hlater : reportFault .outputReadback (s.car.readingBack ch r.readsBack r.readback true) = occur .faultStop 259
          { s.car.readingBack ch r.readsBack r.readback true with brk :=
            { (s.car.readingBack ch r.readsBack r.readback true).brk with faultRecord := some (f.later .outputReadback) } } := by
        rw [reportFault, if_pos (by exact hstop), laterCause]
        dsimp only [Car.readingBack]
        rw [hf]
        rfl
      rw [exec_readbackTimeout hr, readbackExpiry_reached hreached hreported]
      exact next_congr ((congrArg settle hlater).trans (hready.settle_occur ..))
    · have hready := hr.with_reported hreached
      obtain ⟨n, hn, -⟩ := hr.readback_differs hreached
      have hentry : reportFault .outputReadback (s.car.readingBack ch r.readsBack r.readback true) =
          enterFaultStop .outputReadback (s.car.readingBack ch r.readsBack r.readback true) :=
        if_neg (ne_true_of_eq_false hstop)
      have hentered := Intact.entered (c := s.car.readingBack ch r.readsBack r.readback true) hi hready.doors .outputReadback
      have hget : (s.car.readingBack ch r.readsBack r.readback true).brk.channels.get ch = { r with reported := true } :=
        PerCog.get_set_self ..
      have hchannel := hentered.channel ch
      obtain ⟨htimer, hflag⟩ := CogRecord.drive_readback (CogRecord.takeCommand { r with reported := true } .faultStop .apply) false
      rw [CogRecord.takeCommand_frame] at htimer hflag
      rw [hget, CogRecord.takeCommand_frame] at hchannel
      have hrun := exec_readbackTimeout hr ch
      rw [readbackExpiry_reached hreached hreported, hentry] at hrun
      refine ⟨_, _, hrun, rfl, hentered.faultStop, ?_, ?_, ?_, hentered.faultRecord, rfl, rfl, hentered.odo, hentered.tlf,
        hentered.pst⟩
      · rw [hchannel, CogRecord.drive_energised]
      · rw [hchannel, hflag]
        show (if r.readsBack = false then false else true) = r.readsBack
        cases r.readsBack <;> rfl
      · rw [hchannel, htimer]
        show (if r.readsBack = false then none else some (r.readback.getD 0)) = if r.readsBack then r.readback else none
        rw [show r.readback = some n from hn]
        cases r.readsBack <;> rfl

end Sys2Proof.Machine
end

section
/-! What the steps of an odometry update hand to the other blocks (R44, R51, R57 to R59), said once as a relation between the part
before and after a step. -/

namespace Sys2Proof.Machine

/-! ## Conditions handed on -/

/-- A step that hands conditions on: it may change the ODO's record, what the causes and the brake test hold, the waiting causes
of evaluation, the events and the reports, and of the pending flags and the causes only those named can be cleared or changed. -/
structure HandsOn (sources : List Nat) (causes : List Cause) (c d : Car) : Prop where
  frame : d = { c with
    odo := d.odo
    brk := { c.brk with
      conditions := d.brk.conditions
      causes := d.brk.causes
      test := d.brk.test
      results := d.brk.results
      standstillSince := d.brk.standstillSince }
    ssv := { c.ssv with
      waiting := d.ssv.waiting
      record := { c.ssv.record with overspeed := d.ssv.record.overspeed } }
    evr := d.evr
    vrl := d.vrl }
  link : c.vrl.SameLink d.vrl
  follower : c.vrl.role = .follower → d.vrl = c.vrl
  length : d.evr.sources.length = c.evr.sources.length
  pending : ∀ n, n ∉ sources → (c.evr.source n).pending = true → (d.evr.source n).pending = true
  cause : ∀ x, x ∉ causes → d.brk.causes.get x = c.brk.causes.get x

section HandsOn
variable {sources more : List Nat} {causes others : List Cause} {c d e : Car}

theorem HandsOn.refl (sources : List Nat) (causes : List Cause) (c : Car) : HandsOn sources causes c c :=
  ⟨rfl, .refl _, fun _ => rfl, rfl, fun _ _ => id, fun _ _ => rfl⟩

theorem HandsOn.mono (h : HandsOn sources causes c d) (hs : sources ⊆ more) (hc : causes ⊆ others) : HandsOn more others c d :=
  ⟨h.frame, h.link, h.follower, h.length, fun n hn => h.pending n fun hmem => hn (hs hmem), fun x hx => h.cause x fun hmem => hx (hc hmem)⟩

theorem HandsOn.trans (h : HandsOn sources causes c d) (k : HandsOn sources causes d e) : HandsOn sources causes c e := by
  obtain ⟨hframe, hlink, hfollower, hlength, hpending, hcause⟩ := h
  obtain ⟨kframe, klink, kfollower, klength, kpending, kcause⟩ := k
  have hrole : d.vrl.role = c.vrl.role := by rw [hlink]
  refine ⟨?_, hlink.trans klink, fun h => (kfollower (hrole.trans h)).trans (hfollower h), klength.trans hlength,
    fun n hn h => kpending n hn (hpending n hn h), fun x hx => (kcause x hx).trans (hcause x hx)⟩
  rw [hframe] at kframe
  exact kframe

theorem HandsOn.append (h : HandsOn sources causes c d) (k : HandsOn more others d e) :
    HandsOn (sources ++ more) (causes ++ others) c e :=
  (h.mono (List.subset_append_left ..) (List.subset_append_left ..)).trans
    (k.mono (List.subset_append_right ..) (List.subset_append_right ..))

theorem HandsOn.ite {p : Prop} [Decidable p] (hd : HandsOn sources causes c d) (he : HandsOn sources causes c e) :
    HandsOn sources causes c (if p then d else e) := by
  split
  · exact hd
  · exact he

end HandsOn

/-- An ODO record and the causes waiting written anew. -/
theorem handsOn_odo (sources : List Nat) (causes : List Cause) (c : Car) (o : Odo) : HandsOn sources causes c { c with odo := o } :=
  ⟨rfl, .refl _, fun _ => rfl, rfl, fun _ _ => id, fun _ _ => rfl⟩

theorem Vrl.queueReport_follower {v : Vrl} (h : v.role = .follower) (train : Nat) (r : Report) : v.queueReport train r = v :=
  if_neg (by rw [h]; nofun)

theorem alarmed_follower {c : Car} (h : c.vrl.role = .follower) (src : Source) (detail : Nat) : alarmed c src detail = c.vrl := by
  unfold alarmed
  dsimp only
  split
  · exact Vrl.queueReport_follower h ..
  · rfl

section Conditions
variable (c : Car)

theorem occur_handsOn (src : Source) (detail : Nat) : HandsOn [] [] c (occur src detail c) :=
  ⟨rfl, occur_sameLink .., fun h => alarmed_follower h .., Evr.take_length .., fun n _ => (Evr.raises_take ..).pending n,
    fun _ _ => rfl⟩

theorem levelChange_handsOn (src : Source) (before after : Bool) (detail : Nat) :
    HandsOn [src.number] [] c (levelChange src before after detail c) := by
  refine .ite (.refl ..) (.ite ((occur_handsOn ..).mono (List.nil_subset _) (List.nil_subset _)) ?_)
  refine ⟨rfl, .refl _, fun _ => rfl, List.length_modify .., fun n hn h => ?_, fun _ _ => rfl⟩
  refine (congrArg SourceRecord.pending (Evr.source_modify_ne c.evr _ fun heq => hn ?_)).trans h
  exact List.mem_singleton.2 heq.symm

theorem abortTest_handsOn : HandsOn [] [] c (abortTest c) := by
  unfold abortTest
  split
  · exact .refl ..
  · refine .trans ?_ (occur_handsOn ..)
    exact ⟨rfl, .refl _, fun _ => rfl, rfl, fun _ _ => id, fun _ _ => rfl⟩
  · refine .trans ?_ (occur_handsOn ..)
    rw [Selection.endTiming_eq]
    exact ⟨rfl, .refl _, fun _ => rfl, rfl, fun _ _ => id, fun _ _ => rfl⟩

theorem causesWritten_handsOn (cause : Cause) (conditions : PerCause Bool) (r : Option CauseRecord) :
    HandsOn [] [cause] c { c with brk := { c.brk with conditions := conditions, causes := c.brk.causes.set cause r } } :=
  ⟨rfl, .refl _, fun _ => rfl, rfl, fun _ _ => id, fun _ hx => PerCause.get_set_ne _ _ fun h => hx (List.mem_singleton.2 h)⟩

theorem addCause_handsOn (cause : Cause) (present : Bool) : HandsOn [] [cause] c (addCause cause present c) := by
  unfold addCause
  split
  · exact causesWritten_handsOn c cause c.brk.conditions _
  · have hwritten := causesWritten_handsOn c cause c.brk.conditions (some ⟨c.now, present⟩)
    refine hwritten.trans (.trans (d := if cause = .reset then _ else occur .emergencySet cause.code _) ?_
      ((abortTest_handsOn _).mono (List.Subset.refl _) (List.nil_subset _)))
    exact .ite (.refl ..) ((occur_handsOn ..).mono (List.Subset.refl _) (List.nil_subset _))

theorem causeChange_handsOn (cause : Cause) (before after : Bool) : HandsOn [] [cause] c (causeChange cause before after c) := by
  refine .ite (.refl ..) (.ite ?_ (causesWritten_handsOn ..))
  refine .trans ?_ (addCause_handsOn ..)
  exact ⟨rfl, .refl _, fun _ => rfl, rfl, fun _ _ => id, fun _ _ => rfl⟩

theorem ssvCause_handsOn : HandsOn [] [] c (ssvCause c) := ⟨rfl, .refl _, fun _ => rfl, rfl, fun _ _ => id, fun _ _ => rfl⟩

/-- An ODO record written anew, with a cause of evaluation or not. -/
theorem ssvCause_if (sources : List Nat) (causes : List Cause) (o : Odo) {p : Prop} [Decidable p] :
    HandsOn sources causes c (if p then { c with odo := o } else ssvCause { c with odo := o }) :=
  .ite (handsOn_odo ..) ((handsOn_odo ..).trans ((ssvCause_handsOn _).mono (List.nil_subset _) (List.nil_subset _)))

end Conditions

/-! ## The steps of an update -/

section Steps
variable (c : Car)

theorem handLost_handsOn (before : PositionState) (detail : Nat) : HandsOn [] [] c (handLost before detail c) :=
  .ite (occur_handsOn ..) (.refl ..)

theorem takeAdvance_handsOn (advance : Nat) : HandsOn [] [] c (takeAdvance advance c) :=
  (handsOn_odo ..).trans (handLost_handsOn ..)

theorem judgeMesh_handsOn : HandsOn [11] [.meshLoss] c (judgeMesh c) := by
  unfold judgeMesh
  dsimp only
  refine .trans ?_ ((causeChange_handsOn ..).mono (List.nil_subset _) (List.Subset.refl _))
  refine .trans ?_ ((levelChange_handsOn ..).mono (List.Subset.refl _) (List.nil_subset _))
  exact ssvCause_if ..

theorem judgeStandstill_handsOn : HandsOn [13, 11] [.rollback, .overspeed, .meshLoss] c (judgeStandstill c) := by
  refine .ite ?_ (.refl ..)
  refine .trans ?_ ((judgeMesh_handsOn _).mono (by decide) (by decide))
  refine .trans ?_ ((causeChange_handsOn ..).mono (List.nil_subset _) (by decide))
  refine .trans ?_ ((causeChange_handsOn ..).mono (List.nil_subset _) (by decide))
  refine .trans ?_ ((levelChange_handsOn ..).mono (by decide) (List.nil_subset _))
  exact ⟨rfl, .refl _, fun _ => rfl, rfl, fun _ _ => id, fun _ _ => rfl⟩

theorem takeRollback_handsOn (advance : Nat) : HandsOn [13] [.rollback] c (takeRollback advance c) := by
  refine .trans ?_ ((causeChange_handsOn ..).mono (List.nil_subset _) (List.Subset.refl _))
  refine .trans ?_ ((levelChange_handsOn ..).mono (List.Subset.refl _) (List.nil_subset _))
  exact handsOn_odo ..

theorem checkMesh_handsOn (k : KindSet) : HandsOn [11] [.meshLoss] c (checkMesh k c) :=
  .ite (.refl ..) ((handsOn_odo ..).trans (judgeMesh_handsOn _))

theorem judgeCounts_handsOn (used : List LoopChannel) : HandsOn [12] [.odometryLost] c (judgeCounts used c) := by
  unfold judgeCounts
  dsimp only
  refine .trans ?_ ((causeChange_handsOn ..).mono (List.nil_subset _) (List.Subset.refl _))
  refine .trans ?_ ((levelChange_handsOn ..).mono (List.Subset.refl _) (List.nil_subset _))
  exact ssvCause_if ..

end Steps

theorem updateConditions_handsOn (k : KindSet) (used : List LoopChannel) (advance : Nat) (c : Car) :
    HandsOn [13, 11, 12] [.rollback, .overspeed, .meshLoss, .odometryLost] c (updateConditions k used advance c) := by
  refine .trans ?_ ((judgeCounts_handsOn ..).mono (by decide) (by decide))
  refine .trans ?_ ((checkMesh_handsOn ..).mono (by decide) (by decide))
  refine .trans ?_ ((takeRollback_handsOn ..).mono (by decide) (by decide))
  refine .trans ?_ ((judgeStandstill_handsOn _).mono (by decide) (by decide))
  exact (takeAdvance_handsOn ..).mono (List.nil_subset _) (List.nil_subset _)

/-! ## The update over an intact table (R44, R125) -/

/-- The part as an update finds it for its second step: the timers from 0 and every speed window closed. -/
def Car.windowed (c : Car) : Car :=
  closeWindows { c with odo := { c.odo with updateTimer := some 0 }, brk := { c.brk with watch := some 0 } }

/-- The channels that an update uses (R46, R47). -/
def Car.usedChannels (c : Car) : List LoopChannel :=
  validActive c.windowed.odo.channels (activeSet c.odo.position.state (askKinds c.windowed))

/-- The advance of an update (R47). -/
def Car.advanceTaken (c : Car) : Nat := advanceOf c.windowed.odo.channels c.usedChannels

/-- The part after the nine steps of an update. -/
def Car.conditioned (c : Car) : Car :=
  updateConditions (askKinds c.windowed) c.usedChannels c.advanceTaken (fuse c.usedChannels c.windowed)

/-- The part that an update hands its coverage and its cause of evaluation. -/
def Car.updated (c : Car) : Car := { c.conditioned with
  pst := { c.pst with
    coverage := coverageOf c.pst.readable c.conditioned.odo.position c.lif.params.carLength c.conditioned.odo.travelRef }
  ssv := c.conditioned.ssv.updateCause }

theorem Car.conditioned_handsOn (c : Car) :
    HandsOn [13, 11, 12] [.rollback, .overspeed, .meshLoss, .odometryLost] c.windowed c.conditioned :=
  (handsOn_odo _ _ c.windowed _).trans (updateConditions_handsOn ..)

theorem Car.conditioned_frame (c : Car) : c.conditioned = { c with
    odo := c.conditioned.odo
    brk := { c.brk with
      watch := some 0
      conditions := c.conditioned.brk.conditions
      causes := c.conditioned.brk.causes
      test := c.conditioned.brk.test
      results := c.conditioned.brk.results
      standstillSince := c.conditioned.brk.standstillSince }
    ssv := { c.ssv with
      waiting := c.conditioned.ssv.waiting
      record := { c.ssv.record with overspeed := c.conditioned.ssv.record.overspeed } }
    evr := c.conditioned.evr
    vrl := c.conditioned.vrl } := c.conditioned_handsOn.frame

theorem Intact.odometryUpdate {c : Car} (h : Intact c) : odometryUpdate c = shadowTest c.updated := by
  have hwindowed : Intact c.windowed := h
  have hconditioned : Intact c.conditioned := by
    rw [c.conditioned_frame]
    exact h
  have hread : Machine.readForExtent (closeWindows { c with
      odo := { c.odo with updateTimer := some 0 }, brk := { c.brk with watch := some 0 } }) = c.windowed := hwindowed.readForExtent
  have hcoverage := hconditioned.refreshCoverage
  have hpst : c.conditioned.pst = c.pst := (congrArg Car.pst c.conditioned_frame :)
  have hlif : c.conditioned.lif = c.lif := (congrArg Car.lif c.conditioned_frame :)
  unfold Machine.odometryUpdate
  dsimp only
  rw [hread]
  show shadowTest { Machine.refreshCoverage c.conditioned with ssv := (Machine.refreshCoverage c.conditioned).ssv.updateCause } = _
  rw [hcoverage, Car.updated, ← hpst, ← hlif]

theorem Car.updated_frame (c : Car) : c.updated = { c with
    odo := c.conditioned.odo
    pst := c.updated.pst
    brk := { c.brk with
      watch := some 0
      conditions := c.conditioned.brk.conditions
      causes := c.conditioned.brk.causes
      test := c.conditioned.brk.test
      results := c.conditioned.brk.results
      standstillSince := c.conditioned.brk.standstillSince }
    ssv := { c.ssv with
      waiting := ⟨true, true⟩
      record := { c.ssv.record with overspeed := c.conditioned.ssv.record.overspeed } }
    evr := c.conditioned.evr
    vrl := c.conditioned.vrl } := by
  unfold Car.updated
  rw [c.conditioned_frame]
  rfl

theorem Intact.odometryUpdate_frame {c : Car} (h : Intact c) : Machine.odometryUpdate c = { c.updated with
    vrl := (Machine.odometryUpdate c).vrl } := by
  rw [h.odometryUpdate]
  have hupdated : Intact c.updated := h
  exact shadowTest_frame hupdated

/-! ## What a judgement leaves alone -/

/-- The part with its doors judged and the proven state and the door hold handed on. -/
def Car.doorJudged (c : Car) : Car := { c with
  dor := c.dor.judge c.odo.fused
  brk := { c.brk with doorsProven := (c.dor.judge c.odo.fused).proven, doorHold := (c.dor.judge c.odo.fused).hold } }

theorem handDoor_handsOn (before after : Bool) (c : Car) : HandsOn [18] [.door] c (handDoor before after c) := by
  refine .ite (.trans ?_ ((addCause_handsOn ..).mono (List.nil_subset _) (List.Subset.refl _)))
    (.ite ((causesWritten_handsOn ..).mono (List.nil_subset _) (List.Subset.refl _)) (.refl ..))
  exact ⟨rfl, .refl _, fun _ => rfl, rfl, fun _ _ => id, fun _ _ => rfl⟩

theorem dorJudge_handsOn (c : Car) : HandsOn [18] [.door] c.doorJudged (dorJudge c) :=
  ((levelChange_handsOn c.doorJudged .doorsProven c.dor.proven _ 0).mono (List.Subset.refl _) (List.nil_subset _)).trans
    (handDoor_handsOn ..)

theorem dorJudge_standstillSince (c : Car) : (dorJudge c).brk.standstillSince = c.brk.standstillSince := by
  simp only [dorJudge, handDoor_standstillSince, levelChange_brk]

theorem dorJudge_frame (c : Car) : dorJudge c = { c with
    dor := c.dor.judge c.odo.fused
    brk := { c.brk with
      doorsProven := (c.dor.judge c.odo.fused).proven
      doorHold := (c.dor.judge c.odo.fused).hold
      conditions := (dorJudge c).brk.conditions
      causes := (dorJudge c).brk.causes
      test := (dorJudge c).brk.test
      results := (dorJudge c).brk.results }
    evr := (dorJudge c).evr
    vrl := (dorJudge c).vrl } := by
  have hframe := (dorJudge_handsOn c).frame
  rw [dorJudge_standstillSince, dorJudge_odo, dorJudge_ssv] at hframe
  exact hframe

/-- What a judgement decides: the doors, the brake outputs and what the doors hand on; the rest of the part stays. -/
theorem settle_frame (c : Car) : settle c = { c with
    dor := c.dor.judge c.odo.fused
    brk := { c.brk with
      channels := (settle c).brk.channels
      doorsProven := (c.dor.judge c.odo.fused).proven
      doorHold := (c.dor.judge c.odo.fused).hold
      holdPending := (settle c).brk.holdPending
      available := (settle c).brk.available
      svcValid := true
      svcLevel := (settle c).brk.svcLevel
      tractionOk := (settle c).brk.tractionOk
      conditions := (settle c).brk.conditions
      causes := (settle c).brk.causes
      test := (settle c).brk.test
      results := (settle c).brk.results }
    ssv := { c.ssv with waiting := (settle c).ssv.waiting }
    evr := (settle c).evr
    vrl := (settle c).vrl } := by
  have hsettle : settle c = { dorJudge c with
      brk := { (dorJudge c).brk with
        channels := (settle c).brk.channels
        holdPending := (settle c).brk.holdPending
        available := (settle c).brk.available
        svcValid := true
        svcLevel := (settle c).brk.svcLevel
        tractionOk := (settle c).brk.tractionOk }
      ssv := { (dorJudge c).ssv with waiting := (settle c).ssv.waiting } } := by
    have hssv : (settle c).ssv = { (dorJudge c).ssv with waiting := (settle c).ssv.waiting } := (brkJudge_ssv_frame (dorJudge c)).1
    rw [← hssv]
    rfl
  rw [dorJudge_frame] at hsettle
  exact hsettle

/-! ## The timebase watch (R125 to R128) -/

theorem Ready.with_watch {s : State} (hr : Ready s) (timer : Timer) :
    Ready ⟨{ s.car with brk := { s.car.brk with watch := timer } }, s.pending⟩ := by
  have hdoors : DoorsSettled { s.car with brk := { s.car.brk with watch := timer } } := by
    obtain ⟨hjudged, hproven, hhold, hcondition, hcause⟩ := hr.doors
    exact ⟨hjudged, hproven, hhold, hcondition, hcause⟩
  have hbrakes : BrakesSettled { s.car with brk := { s.car.brk with watch := timer } } := by
    obtain ⟨hchannels, hpending, havailable, hvalid, hlevel, htraction⟩ := hr.brakes
    exact ⟨hchannels, hpending, havailable, hvalid, hlevel, htraction⟩
  exact ⟨hr.1, (settle_eq_self_iff _).2 ⟨hdoors, hbrakes⟩, hr.unreserved⟩

theorem exec_timebaseWatch {s : State} (hr : Ready s) :
    exec .timebaseWatchExpiry s = .next ⟨settle (timebaseExpiry s.car), s.pending⟩ := congrArg Host.Outcome.next (hr.run _)

theorem exec_timebaseWatch_quiet {s : State} (hr : Ready s) (h : Timer.reached 8 s.car.brk.watch = false) :
    exec .timebaseWatchExpiry s = .next s := by
  have hquiet : timebaseExpiry s.car = s.car := if_neg (ne_true_of_eq_false h)
  rw [exec_timebaseWatch hr, hquiet, hr.settled]

theorem exec_odometryUpdate {s : State} (hr : Ready s) :
    exec .odometryUpdate s = .next ⟨settle (odometryUpdate s.car), s.pending⟩ := congrArg Host.Outcome.next (hr.run _)

theorem Ready.after_update {s : State} (hr : Ready s) : Ready ⟨settle (odometryUpdate s.car), s.pending⟩ :=
  everyStepKeepsReady { s with pending := .odometryUpdate :: s.pending } _ hr (by nofun) (exec_odometryUpdate hr)

/-- The records that a segment lookup of an intact table answers from are those whose check-failed flag is clear (R15). -/
theorem Intact.mem_readable {c : Car} (h : Intact c) (x : Segment) :
    x ∈ c.pst.readable ↔ x ∈ c.pst.table ∧ x.checkFailed = false := by
  rw [Pst.readable, List.mem_filter, Bool.and_eq_true, Bool.not_eq_true', Bool.not_eq_true']
  exact and_congr_right fun hx => and_iff_left (h x hx)

/-- The segment containing a position: a record of the lookup that holds it, none when there is none (R18). -/
theorem containing_spec (t : List Segment) (p : PositionRecord) :
    let stands (x : Segment) : Prop := x ∈ t ∧ p.state ≠ .unknown ∧ x.low ≤ p.pos ∧ p.pos < x.low + x.length
    ((∀ x, ¬ stands x) → containing t p = none) ∧ ((∃ x, stands x) → ∃ x, stands x ∧ containing t p = some x.id) := by
  intro stands
  by_cases hu : p.state = .unknown
  · refine ⟨fun _ => if_pos hu, ?_⟩
    rintro ⟨x, -, hknown, -⟩
    exact absurd hu hknown
  · have hfind : containing t p = (t.find? fun s => s.overlaps p.pos p.pos).map (·.id) := if_neg hu
    have hholds (x : Segment) : x.overlaps p.pos p.pos = true ↔ x.low ≤ p.pos ∧ p.pos < x.low + x.length := by
      rw [Segment.overlaps, decide_eq_true_iff, Segment.high]
      omega
    rw [hfind]
    cases hx : t.find? fun s => s.overlaps p.pos p.pos with
    | none =>
      refine ⟨fun _ => rfl, ?_⟩
      rintro ⟨x, hmem, -, hin⟩
      exact absurd ((hholds x).2 hin) (List.find?_eq_none.1 hx x hmem)
    | some x =>
      have hstands : stands x := ⟨List.mem_of_find?_eq_some hx, hu, (hholds x).1 (List.find?_some (p := fun s : Segment => s.overlaps p.pos p.pos) hx)⟩
      exact ⟨fun hnone => absurd hstands (hnone x), fun _ => ⟨x, hstands, rfl⟩⟩

section EntryEvents
variable {c : Car} (cause : FaultCause)

theorem Car.stopped_evr : (c.stopped cause).evr = (abortTest (c.stopping cause)).evr.take c.now .faultStop cause.code := by
  have hnow : (abortTest (c.stopping cause)).now = c.now := abortTest_now _
  rw [← hnow]
  rfl

theorem Car.stopped_lif : (c.stopped cause).lif = c.lif := (congrArg Car.lif (c.stopped_frame cause) :)

theorem Car.stopped_record : (c.stopped cause).brk.faultRecord = some (c.faultRecordOf cause) := abortTest_faultRecord _

/-- The broadcast that an entry places when none waits. -/
theorem Intact.enterFaultStop_placed (h : Intact c) (hfree : (c.lif.queue.any fun q => q.frame.isFaultStop) = false) :
    Machine.enterFaultStop cause c =
      placeFaultStop ((c.stopped cause).broadcast (c.faultRecordOf cause)) (c.stopped cause) := by
  rw [h.enterFaultStop, broadcastFaultStop_placed (c.stopped_record cause) (by rw [Car.stopped_lif]; exact hfree)]

/-- The events of an entry whose broadcast waits already, finds room or displaces another frame. -/
theorem Intact.enterFaultStop_evr (h : Intact c) (hroom : (c.lif.queue.any fun q => q.frame.isFaultStop) = true ∨
      c.lif.nonReplyRoom = true ∨ ∃ q ∈ c.lif.queue, q.begun = false ∧ q.frame.kind ∈ [44, 45, 49]) :
    (Machine.enterFaultStop cause c).evr = (abortTest (c.stopping cause)).evr.take c.now .faultStop cause.code := by
  rw [← Car.stopped_evr]
  cases hwaits : c.lif.queue.any fun q => q.frame.isFaultStop with
  | true => rw [h.enterFaultStop, broadcastFaultStop_waiting (by rw [Car.stopped_lif]; exact hwaits)]
  | false =>
    rw [h.enterFaultStop_placed cause hwaits]
    cases hnr : c.lif.nonReplyRoom with
    | true => rw [placeFaultStop_room (by rw [Car.stopped_lif]; exact hnr)]
    | false =>
      rw [hwaits, hnr] at hroom
      obtain ⟨rest, hrest⟩ := (displace_isSome_iff c.lif.queue).2 ((hroom.resolve_left nofun).resolve_left nofun)
      rw [placeFaultStop_displaced (by rw [Car.stopped_lif]; exact hnr) (by rw [Car.stopped_lif]; exact hrest)]

/-- The events of an entry whose broadcast is dropped. -/
theorem Intact.enterFaultStop_dropped (h : Intact c) (hfree : (c.lif.queue.any fun q => q.frame.isFaultStop) = false)
    (hroom : c.lif.nonReplyRoom = false) (hnone : ¬ ∃ q ∈ c.lif.queue, q.begun = false ∧ q.frame.kind ∈ [44, 45, 49]) :
    (Machine.enterFaultStop cause c).evr = ((abortTest (c.stopping cause)).evr.take c.now .faultStop cause.code).take c.now
      .originateFull 562 := by
  have hdisplace : displace c.lif.queue = none := by
    rw [← Option.not_isSome_iff_eq_none, Option.isSome_iff_exists, displace_isSome_iff]
    exact hnone
  have hnow : (c.stopped cause).now = c.now := (congrArg Car.now (c.stopped_frame cause) :)
  rw [h.enterFaultStop_placed cause hfree, placeFaultStop_dropped (by rw [Car.stopped_lif]; exact hroom)
    (by rw [Car.stopped_lif]; exact hdisplace), ← Car.stopped_evr]
  show (c.stopped cause).evr.take (c.stopped cause).now _ _ = _
  rw [hnow]
  rfl

/-- The frames of an entry whose broadcast finds room. -/
theorem Intact.enterFaultStop_frames (h : Intact c) (hfree : (c.lif.queue.any fun q => q.frame.isFaultStop) = false)
    (hroom : c.lif.nonReplyRoom = true) : (Machine.enterFaultStop cause c).lif.frames = c.lif.frames ++
      [.faultStop (c.lif.carNumber.getD 0) cause c.now 0 0 c.odo.position.pos c.odo.position.state] := by
  have hodo : (c.stopped cause).odo = c.odo := (congrArg Car.odo (c.stopped_frame cause) :)
  rw [h.enterFaultStop_placed cause hfree, placeFaultStop_room (by rw [Car.stopped_lif]; exact hroom), Lif.append_frames,
    Car.broadcast, Car.stopped_lif, hodo]
  rfl

end EntryEvents

/-- Settles O33: the watch finds nothing after an update, counts a later cause, or enters fault stop. -/
theorem timebaseEntersFaultStop : Obligations.TimebaseEntersFaultStop := by
  intro s hr hi
  refine ⟨exec_timebaseWatch_quiet hr, ⟨_, exec_odometryUpdate hr, exec_timebaseWatch_quiet hr.after_update ?_⟩,
    fun hreached hstop f hf => ?later, fun hreached hstop => ?entry⟩
  · have hwatch : (settle (odometryUpdate s.car)).brk.watch = some 0 := by
      rw [settle_frame, hi.odometryUpdate_frame, Car.updated_frame]
    rw [hwatch]
    rfl
  case later =>
    have hready := (hr.with_watch none).with_record s.car.brk.broadcastTimer (some (f.later .timebase))
    have hexpiry : timebaseExpiry s.car = occur .faultStop 260 { s.car with
        brk := { s.car.brk with watch := none, faultRecord := some (f.later .timebase) } } := by
      rw [timebaseExpiry, if_pos (by exact hreached), reportFault, if_pos (by exact hstop), laterCause]
      dsimp only
      rw [hf]
      rfl
    rw [exec_timebaseWatch hr, hexpiry]
    exact next_congr (hready.settle_occur ..)
  case entry =>
    intro p stands
    have hunwatched : Intact { s.car with brk := { s.car.brk with watch := none } } := hi
    have hexpiry : timebaseExpiry s.car = enterFaultStop .timebase { s.car with brk := { s.car.brk with watch := none } } := by
      rw [timebaseExpiry, if_pos (by exact hreached), reportFault, if_neg (ne_true_of_eq_false (by exact hstop))]
    have hrun := exec_timebaseWatch hr
    rw [hexpiry] at hrun
    have hentered := hunwatched.entered (hr.with_watch none).doors .timebase
    obtain ⟨hnone, hsome⟩ := containing_spec s.car.pst.readable p
    have hstands (x : Segment) : stands x ↔ x ∈ s.car.pst.readable ∧ p.state ≠ .unknown ∧ x.low ≤ p.pos ∧ p.pos < x.low + x.length := by
      rw [hi.mem_readable, and_assoc]
    simp only [← hstands] at hnone hsome
    refine ⟨_, _, hrun, rfl, hnone, hsome, hentered.faultStop, hentered.watch, hentered.broadcastTimer, hentered.faultRecord,
      fun ch => ?_, hentered.svcLevel, hentered.tractionOk, hentered.test, hentered.causes, hentered.release .left,
      hentered.release .right, ?_, ?_, ?_, hentered.odo, hentered.tlf, hentered.pst, ?_⟩
    · rw [hentered.channel ch, CogRecord.drive_command, CogRecord.drive_holder, CogRecord.drive_energised,
        (CogRecord.takeCommand_command ..).1, (CogRecord.takeCommand_command ..).2]
      exact ⟨rfl, rfl, rfl⟩
    · rw [hentered.slots]
      exact s.car.dor.enterFaultStop_slots
    · intro waits room ended stopped
      have hended : ended = (abortTest (Car.stopping { s.car with brk := { s.car.brk with watch := none } } .timebase)).evr := by
        cases htest : s.car.brk.test with
        | off =>
          rw [abortTest_off (by exact htest)]
          simp only [ended, htest]
          rfl
        | onIdle =>
          rw [abortTest_idle_evr (by exact htest)]
          simp only [ended, htest]
          rfl
        | onSelected sel =>
          rw [abortTest_selected_evr (by exact htest)]
          simp only [ended, htest]
          rfl
      rw [hentered.evr]
      refine ⟨fun h => ?_, fun hwaits hroom => ?_⟩
      · exact (hunwatched.enterFaultStop_evr .timebase h).trans (by rw [← hended]; rfl)
      · obtain ⟨hfull, hdrop⟩ := not_or.1 hroom
        exact (hunwatched.enterFaultStop_dropped .timebase (eq_false_of_ne_true hwaits) (eq_false_of_ne_true hfull) hdrop).trans
          (by rw [← hended]; rfl)
    · intro hroom hfree
      rw [hentered.lif]
      exact hunwatched.enterFaultStop_frames .timebase hfree hroom
    · exact (congrArg Ssv.record hentered.record :)

end Sys2Proof.Machine
end

section
/-! The tooth loop front end: levels, data words, loop faults and the end of SETTLING (R25 to R39). -/

namespace Sys2Proof.Machine

/-- A command that leaves alone what the outputs are decided from leaves what its meaning says. -/
theorem Ready.next_quiet {s : State} (hr : Ready s) {i : Instr} {f : Car → Car} (hi : exec i s = .next (s.run f)) {d : Car}
    (hf : f s.car = d) (hdor : d.dor = s.car.dor) (hbrk : d.brk = s.car.brk) (hfused : d.odo.fused = s.car.odo.fused)
    (hhold : d.ssv.record.hold = s.car.ssv.record.hold) : exec i s = .next ⟨d, s.pending⟩ := by
  rw [hi, hr.run, hf, hr.settle_quiet hdor hbrk hfused hhold]

/-- A command that changes nothing. -/
theorem Ready.next_same {s : State} (hr : Ready s) {i : Instr} {f : Car → Car} (hi : exec i s = .next (s.run f))
    (hf : f s.car = s.car) : exec i s = .next s := hr.next_quiet hi hf rfl rfl rfl rfl

/-! ## Loop faults and settling (R35, R36, R39) -/

section LoopFaults
variable (ch : LoopChannel) (r : TlfChannel) (c : Car)

/-- The ODO as a channel's validity is handed to it. -/
def Odo.handed (o : Odo) (valid : Bool) : Odo :=
  { o with channels := o.channels.set ch ((o.channels.get ch).setValid valid) }

theorem setLoop_get : (setLoop ch r c).tlf.get ch = r := PerLoop.get_set_self ..

theorem setLoop_setLoop (q : TlfChannel) : setLoop ch q (setLoop ch r c) = setLoop ch q c := by
  simp only [setLoop, PerLoop.set_set]

/-- A channel's record written and the channel taken out of ACTIVE, if it is there. -/
theorem passTo_setLoop {state : ChannelState} (hs : state ≠ .active) : passTo ch state (setLoop ch r c) = { c with
    tlf := c.tlf.set ch { r with state := state }
    odo := if r.state = .active then c.odo.handed ch false else c.odo } := by
  split
  · rename_i h
    rw [passTo_loss (by rw [setLoop_get]; exact h) hs, setLoop_get, setLoop_setLoop]
    rfl
  · rename_i h
    rw [passTo_quiet (by rw [setLoop_get]; exact h) hs, setLoop_get, setLoop_setLoop]
    rfl

theorem faultWhenActive_setLoop : faultWhenActive ch (setLoop ch r c) = { c with
    tlf := c.tlf.set ch { r with state := if r.state = .active then .fault else r.state }
    odo := if r.state = .active then c.odo.handed ch false else c.odo } := by
  unfold faultWhenActive
  rw [setLoop_get]
  split
  · rename_i h
    rw [passTo_setLoop (state := .fault) _ _ _ (by nofun), if_pos h]
  · rfl

theorem shortDetected_eq (h : (c.tlf.get ch).state ≠ .off) : shortDetected ch c = occur .sensorFault (256 * ch.number + 2) { c with
    tlf := c.tlf.set ch { c.tlf.get ch with
      state := .off, supply := false, latches := { (c.tlf.get ch).latches with shortLoop := true }, level := none
      receiver := none, settle := none }
    odo := if (c.tlf.get ch).state = .active then c.odo.handed ch false else c.odo } := by
  unfold shortDetected
  dsimp only
  rw [if_neg h, passTo_setLoop (state := .off) _ _ _ (by nofun), Nat.mul_comm]

theorem openDetected_eq (h : (c.tlf.get ch).state ≠ .off) : openDetected ch c =
    latchEvent ch 1 (c.tlf.get ch).latches.openLoop { c with
      tlf := c.tlf.set ch { c.tlf.get ch with
        state := if (c.tlf.get ch).state = .active then .fault else (c.tlf.get ch).state
        latches := { (c.tlf.get ch).latches with openLoop := true } }
      odo := if (c.tlf.get ch).state = .active then c.odo.handed ch false else c.odo } := by
  unfold openDetected
  dsimp only
  rw [if_neg h, faultWhenActive_setLoop]

/-- The record as the end of SETTLING leaves it but for the state. -/
def TlfChannel.settled (lowest : Nat) (p : Params) : TlfChannel :=
  TlfChannel.rework { r with restList := pushSample 16 (min 400 lowest) r.restList, settle := none } p ch

theorem TlfChannel.rework_frame (p : Params) : r.rework p ch = { r with
    i0 := (r.rework p ch).i0, d1 := (r.rework p ch).d1, d2 := (r.rework p ch).d2, t1 := (r.rework p ch).t1
    t2 := (r.rework p ch).t2, satI0 := (r.rework p ch).satI0, satD1 := (r.rework p ch).satD1
    satD2 := (r.rework p ch).satD2 } := rfl

end LoopFaults

/-- The end of SETTLING: the thresholds of the record with its settling rest level, then FAULT with a latch set and ACTIVE else. -/
theorem settlingEnd_eq {ch : LoopChannel} {lowest : Nat} {c : Car} (hstate : (c.tlf.get ch).state = .settling)
    (htimer : Timer.reached 10 (c.tlf.get ch).settle = true) :
    let d := reworkLoop ch { c.tlf.get ch with
      restList := pushSample 16 (min 400 lowest) (c.tlf.get ch).restList, settle := none } c
    let n := (c.tlf.get ch).settled ch lowest c.lif.params
    ((c.tlf.get ch).latches ≠ ⟨false, false, false⟩ → settlingEnd ch lowest c = { d with
      tlf := c.tlf.set ch { n with state := .fault } }) ∧
    ((c.tlf.get ch).latches = ⟨false, false, false⟩ → settlingEnd ch lowest c = { d with
      tlf := c.tlf.set ch { n with state := .active, idleFlag := true }
      odo := c.odo.handed ch true }) := by
  intro d n
  have htlf : d.tlf = c.tlf.set ch n := by
    simp only [d]
    rw [reworkLoop_frame]
    rfl
  have hodo : d.odo = c.odo := by
    simp only [d]
    rw [reworkLoop_frame]
  have hget : d.tlf.get ch = n := by rw [htlf, PerLoop.get_set_self]
  have hinactive : (d.tlf.get ch).state ≠ .active := by
    rw [hget, show n.state = (c.tlf.get ch).state from rfl, hstate]
    nofun
  have hset (q : TlfChannel) : d.tlf.set ch q = c.tlf.set ch q := by rw [htlf, PerLoop.set_set]
  have hend : settlingEnd ch lowest c = passTo ch (if (c.tlf.get ch).latches.openLoop ∨ (c.tlf.get ch).latches.sensor ∨
      (c.tlf.get ch).latches.shortLoop then .fault else .active) d := if_pos ⟨hstate, htimer⟩
  have hlatched : (c.tlf.get ch).latches = ⟨false, false, false⟩ ↔ ¬ ((c.tlf.get ch).latches.openLoop = true ∨
      (c.tlf.get ch).latches.sensor = true ∨ (c.tlf.get ch).latches.shortLoop = true) := by
    obtain ⟨openLoop, shortLoop, sensor⟩ := (c.tlf.get ch).latches
    simp only [Latches.mk.injEq, not_or, Bool.not_eq_true]
    tauto
  refine ⟨fun h => ?_, fun h => ?_⟩
  · rw [hend, if_pos (not_not.1 (mt hlatched.2 h)), passTo_quiet (state := .fault) hinactive (by nofun), setLoop, hget, hset]
  · rw [hend, if_neg (hlatched.1 h), passTo_gain hinactive, hget]
    show { d with
      tlf := d.tlf.set ch _, odo := d.odo.handed ch true } = _
    rw [hset, hodo]

/-- Settles O49: what each fault and the end of SETTLING write of the channel and hand the ODO. -/
theorem loopFaultsAndSettling : Obligations.LoopFaultsAndSettling := by
  intro ch lowest s hr r o odoAs lostOdo shortCar openCar
  have hodo : lostOdo = if r.state = .active then s.car.odo.handed ch false else s.car.odo := rfl
  have hfused : lostOdo.fused = s.car.odo.fused := by
    rw [hodo]
    split <;> rfl
  have hshort : exec (.shortDetected ch) s = .next (s.run (shortDetected ch)) := rfl
  have hopen : exec (.openDetected ch) s = .next (s.run (openDetected ch)) := rfl
  have hsettling : exec (.settlingEnd ch lowest) s = .next (s.run (settlingEnd ch lowest)) := rfl
  refine ⟨fun h => ⟨hr.next_same hshort (if_pos h), hr.next_same hopen (if_pos h)⟩,
    fun h => ⟨hr.next_quiet hshort (shortDetected_eq ch s.car h) rfl rfl hfused rfl, fun hset => ?_, fun hclear => ?_⟩,
    fun h => hr.next_same hsettling (if_neg fun hboth => ?_), fun hstate htimer => ?settling⟩
  · refine hr.next_quiet hopen ((openDetected_eq ch s.car h).trans ?_) rfl rfl hfused rfl
    exact if_pos hset
  · refine hr.next_quiet hopen ((openDetected_eq ch s.car h).trans ?_) rfl rfl hfused rfl
    rw [latchEvent, if_neg (ne_true_of_eq_false hclear), Nat.mul_comm]
    rfl
  · rcases h with h | h
    · exact h hboth.1
    · exact absurd (h.symm.trans hboth.2) nofun
  case settling =>
    intro n latched
    obtain ⟨hfault, hactive⟩ := settlingEnd_eq (ch := ch) (lowest := lowest) hstate htimer
    have hframe := reworkLoop_frame ch { r with restList := pushSample 16 (min 400 lowest) r.restList, settle := none } s.car
    have hsame (h0 : n.satI0 = r.satI0) (h1 : n.satD1 = r.satD1) (h2 : n.satD2 = r.satD2) :=
      reworkLoop_of_flags_same (ch := ch) (c := s.car)
        (r := { r with restList := pushSample 16 (min 400 lowest) r.restList, settle := none }) h0 h1 h2
    generalize reworkLoop ch { r with restList := pushSample 16 (min 400 lowest) r.restList, settle := none } s.car = d
      at hframe hsame hfault hactive
    by_cases hlatches : r.latches = ⟨false, false, false⟩
    · refine ⟨_, hr.next_quiet hsettling (hactive hlatches) (by rw [hframe]) (by rw [hframe]) rfl (by rw [hframe]), rfl,
        by rw [hframe], fun h => absurd hlatches h, fun _ => ⟨rfl, rfl⟩, fun h0 h1 h2 => ?_⟩
      rw [hsame h0 h1 h2]
      exact ⟨rfl, rfl⟩
    · refine ⟨_, hr.next_quiet hsettling (hfault hlatches) (by rw [hframe]) (by rw [hframe]) (by rw [hframe]) (by rw [hframe]), rfl,
        by rw [hframe], fun _ => ⟨rfl, by rw [hframe]⟩, fun h => absurd hlatches h, fun h0 h1 h2 => ?_⟩
      rw [hsame h0 h1 h2]
      exact ⟨rfl, rfl⟩

/-! ## Levels above T2 (R25, R32, R43) -/

theorem TlfChannel.decodes_iff (r : TlfChannel) : r.decodes = true ↔ r.state = .active ∨ r.state = .fault := by
  rw [TlfChannel.decodes, Bool.or_eq_true, beq_iff_eq, beq_iff_eq]

/-- The slots sampled by a moment are those whose sampling time has come (R31). -/
theorem slotsBefore_eq (t : Nat) : slotsBefore t = ((List.range 8).filter fun k => decide (26 + 50 * k ≤ t)).length := by
  have hslot (k : Nat) : decide (26 + 50 * k ≤ t) = decide (k < (t + 24) / 50) := decide_eq_decide.2 (by omega)
  have hcount (m n : Nat) : ((List.range n).filter fun k => decide (k < m)).length = min n m := by
    induction n with
    | zero => exact (Nat.zero_min m).symm
    | succ n ih =>
      rw [List.range_succ, List.filter_append, List.length_append, ih]
      by_cases h : n < m
      · rw [List.filter_cons_of_pos (by simpa using h)]
        simp only [List.filter_nil, List.length_singleton]
        omega
      · rw [List.filter_cons_of_neg (by simpa using h)]
        simp only [List.filter_nil, List.length_nil]
        omega
  simp only [hslot, hcount, slotsBefore]

section Levels
variable {ch : LoopChannel} {c : Car}

theorem levelRise_quiet (since lowest : Nat) (h : (c.tlf.get ch).decodes = false) : levelRise ch since lowest c = c :=
  if_neg (ne_true_of_eq_false h)

theorem levelRise_free (since lowest : Nat) (h : (c.tlf.get ch).decodes = true) (hrx : (c.tlf.get ch).receiver = none) :
    levelRise ch since lowest c =
      setLoop ch { c.tlf.get ch with level := some ⟨(c.tlf.get ch).t2, min 400 lowest⟩ } c := by
  unfold levelRise
  dsimp only
  rw [if_pos h, hrx]
  simp only [Option.map_none, TlfChannel.truncate]
  rw [← hrx]
  rfl

theorem levelRise_truncates (since lowest : Nat) (h : (c.tlf.get ch).decodes = true) {rx : WordReception}
    (hrx : (c.tlf.get ch).receiver = some rx) : levelRise ch since lowest c = setLoop ch { c.tlf.get ch with
      level := some ⟨(c.tlf.get ch).t2, min 400 lowest⟩, receiver := none, rollRef := none, lastTruncated := slotsBefore since
      counts := { (c.tlf.get ch).counts with truncated := min 65535 ((c.tlf.get ch).counts.truncated + 1) } } c := by
  unfold levelRise
  dsimp only
  rw [if_pos h, hrx]
  rfl

theorem levelEnd_quiet (duration highest : Nat) (h : (c.tlf.get ch).decodes = false ∨ (c.tlf.get ch).level = none) :
    levelEnd ch duration highest c = c := by
  unfold levelEnd
  dsimp only
  split
  · rename_i l hdecodes hlevel
    rcases h with h | h
    · exact absurd (hdecodes.symm.trans h) nofun
    · exact absurd (hlevel.symm.trans h) nofun
  · rfl

theorem levelKind_eq (duration : Nat) : (20 ≤ duration ∧ duration ≤ 200 → levelKind duration = .tooth) ∧
    (1000 ≤ duration ∧ duration ≤ 3000 → levelKind duration = .idle) ∧
    (¬ (20 ≤ duration ∧ duration ≤ 200) → ¬ (1000 ≤ duration ∧ duration ≤ 3000) → levelKind duration = .malformed) := by
  refine ⟨fun h => if_pos h, fun h => ?_, fun h k => (if_neg h).trans (if_neg k)⟩
  exact (if_neg (by omega)).trans (if_pos h)

/-- A tooth pulse's record and its receiver started from the thresholds worked out at its end. -/
def TlfChannel.pulsed (r : TlfChannel) (ch : LoopChannel) (lowest highest : Nat) (now : Stamp) (p : Params) : TlfChannel :=
  let n := (r.tooth lowest (min 400 highest) now).rework p ch
  { n with receiver := some ⟨n.t1, n.t2, 0⟩ }

/-- The part with a tooth pulse's record, its saturations reported. -/
def Car.toothed (c : Car) (ch : LoopChannel) (lowest highest : Nat) : Car :=
  { reworkLoop ch ((c.tlf.get ch).tooth lowest (min 400 highest) c.now) c with
    tlf := c.tlf.set ch ((c.tlf.get ch).pulsed ch lowest highest c.now c.lif.params) }

theorem Car.toothed_frame (c : Car) (ch : LoopChannel) (lowest highest : Nat) : c.toothed ch lowest highest = { c with
    tlf := c.tlf.set ch ((c.tlf.get ch).pulsed ch lowest highest c.now c.lif.params)
    evr := (c.toothed ch lowest highest).evr
    vrl := (c.toothed ch lowest highest).vrl } := by
  unfold Car.toothed
  rw [reworkLoop_frame]

theorem startReceiver_toothed (lowest highest : Nat) :
    startReceiver ch (reworkLoop ch ((c.tlf.get ch).tooth lowest (measured highest) c.now) c) = c.toothed ch lowest highest := by
  have htlf : (reworkLoop ch ((c.tlf.get ch).tooth lowest (measured highest) c.now) c).tlf =
      c.tlf.set ch (((c.tlf.get ch).tooth lowest (measured highest) c.now).rework c.lif.params ch) := by rw [reworkLoop_frame]
  have hget : (reworkLoop ch ((c.tlf.get ch).tooth lowest (measured highest) c.now) c).tlf.get ch =
      ((c.tlf.get ch).tooth lowest (measured highest) c.now).rework c.lif.params ch := by rw [htlf, PerLoop.get_set_self]
  unfold startReceiver
  dsimp only
  rw [hget, setLoop, htlf, PerLoop.set_set]
  rfl

section Ends
variable {duration highest : Nat} {l : HighLevel} (h : (c.tlf.get ch).decodes = true) (hl : (c.tlf.get ch).level = some l)
include h hl

theorem levelEnd_malformed (hk : levelKind duration = .malformed) : levelEnd ch duration highest c =
    setLoop ch { c.tlf.get ch with level := none
                                   counts := { (c.tlf.get ch).counts with
                                     malformed := min 65535 ((c.tlf.get ch).counts.malformed + 1) } } c := by
  simp only [levelEnd, h, hl, hk]
  rfl

theorem levelEnd_idle (hk : levelKind duration = .idle) : levelEnd ch duration highest c =
    if (c.tlf.get ch).state = .active then
      handIdle ch (setLoop ch { c.tlf.get ch with level := none, lastIdle := some c.now, idleFlag := true } c)
    else setLoop ch { c.tlf.get ch with level := none, lastIdle := some c.now, idleFlag := true } c := by
  simp only [levelEnd, h, hl, hk]

theorem levelEnd_tooth (hk : levelKind duration = .tooth) : levelEnd ch duration highest c =
    if (c.tlf.get ch).state = .active then handPulse ch (c.tlf.get ch).idleFlag (c.toothed ch l.lowest highest)
    else c.toothed ch l.lowest highest := by
  simp only [levelEnd, h, hl, hk, startReceiver_toothed]

end Ends
end Levels

/-! ## The end of standstill (R49, R144) -/

theorem Dor.withdrawGranted_slots {d : Dor} {side : Side} (h : (d.sides.get side).release ≠ none) :
    ∀ x ∈ d.withdrawGranted.slots, x.1.side = side → x.2.opens = false := by
  have hone (e : Dor) (k : Side) : ((if (e.sides.get k).release.isSome then e.withdraw k else e).slots).Sublist e.slots := by
    split
    · exact List.filter_sublist
    · exact List.Sublist.refl _
  have hcut (e : Dor) (k : Side) (hk : (e.sides.get k).release ≠ none) :
      ∀ x ∈ (if (e.sides.get k).release.isSome then e.withdraw k else e).slots, x.1.side = k → x.2.opens = false := by
    rw [if_pos (Option.isSome_iff_ne_none.2 hk)]
    intro x hx hside
    have := (List.mem_filter.1 hx).2
    simpa [hside] using this
  have hright : ((if (d.sides.get .left).release.isSome then d.withdraw .left else d).sides.get .right).release =
      (d.sides.get .right).release := by
    split <;> rfl
  cases side
  · exact fun x hx => hcut d .left h x ((hone _ .right).subset hx)
  · exact hcut _ .right (by rw [hright]; exact h)

theorem standstillEnd_moving {c : Car} (h : c.odo.standstill = false) : standstillEnd c = c := if_neg (ne_true_of_eq_false h)

/-- What a part that moves off holds once it is settled: the releases withdrawn, no other block touched but the brake outputs. -/
theorem settle_standstillEnd {s : State} (hr : Ready s) {d : Car} (hdor : d.dor = s.car.dor) (hbrk : d.brk = s.car.brk)
    (hfused : d.odo.fused = s.car.odo.fused) (hstand : d.odo.standstill = true) :
    let e := settle (standstillEnd d)
    e = { d with odo := { d.odo with standstill := false }, dor := e.dor, brk := e.brk } ∧
    e.brk.standstillSince = none ∧ e.brk.causes = s.car.brk.causes ∧ e.dor.leaves = s.car.dor.leaves ∧
    (∀ side, (e.dor.sides.get side).release = none) ∧ e.dor.slots = s.car.dor.withdrawGranted.slots := by
  obtain ⟨hleaves, hproven, hcondition, -, -⟩ := s.car.dor.withdrawGranted_withdrawn
  have hend : standstillEnd d = { d with
      odo := { d.odo with standstill := false }
      brk := { s.car.brk with standstillSince := none }
      dor := s.car.dor.withdrawGranted } := by
    rw [standstillEnd, if_pos hstand, hdor, hbrk]
  have hjudged := hr.doors.dorJudge_of (d := standstillEnd d) (by rw [hend, Dor.allSafe, hleaves]; rfl) (by rw [hend, hproven])
    (by rw [hend, hcondition]) (by rw [hend]; exact hfused) (by rw [hend]) (by rw [hend]) (by rw [hend])
  rw [hend] at hjudged
  intro e
  have he : e = brkJudge _ := (congrArg (fun c => brkJudge (dorJudge c)) hend).trans (congrArg brkJudge hjudged)
  have hssv := brkJudge_ssv_same (c := { d with
    odo := { d.odo with standstill := false }
    brk := { s.car.brk with
      standstillSince := none
      doorHold := (s.car.dor.withdrawGranted.judge d.odo.fused).hold }
    dor := s.car.dor.withdrawGranted.judge d.odo.fused }) hr.brakes.available
  refine ⟨?_, by rw [he]; rfl, by rw [he]; rfl, by rw [he]; exact hleaves, fun side => ?_, by rw [he]; rfl⟩
  · calc e = { e with ssv := d.ssv } := by rw [← hssv, he]
      _ = _ := by rw [he]; rfl
  · rw [he]
    have hsides : ((s.car.dor.withdrawGranted.judge d.odo.fused).sides.get side).release =
        (s.car.dor.withdrawGranted.sides.get side).release := by
      cases side <;> exact Dor.passed_release ..
    exact hsides.trans (s.car.dor.withdrawGranted_release side)

/-! ## A tooth pulse handed to the ODO (R43) -/

/-- The window of a channel after a tooth pulse. -/
theorem OdoChannel.pulse_window (o : OdoChannel) (pitch : Nat) (idle : Bool) (now : Stamp) :
    (o.pulse pitch idle now = { o with
      acc := min 4294967295 (o.acc + pitch), lastPulse := some now, window := (o.pulse pitch idle now).window
      firstPulse := false }) ∧
    (idle = true ∨ o.firstPulse = true → (o.pulse pitch idle now).window = o.window) ∧
    (idle = false → o.firstPulse = false →
      ∀ a b c d e, o.window = [a, b, c, d, e] → (o.pulse pitch idle now).window = [a, b, c, d, e + 1]) := by
  refine ⟨?_, fun h => if_pos ?_, fun hi hf a b c d e hw => ?_⟩
  · have hfirst : (if idle || o.firstPulse then false else o.firstPulse) = false := by
      cases idle <;> cases o.firstPulse <;> rfl
    simp only [OdoChannel.pulse, hfirst]
  · rcases h with h | h <;> rw [h]
    · exact Bool.true_or _
    · exact Bool.or_true _
  · have hcount : (o.pulse pitch idle now).window = countPulse o.window := if_neg (by rw [hi, hf]; nofun)
    rw [hcount, hw]
    rfl

/-- Settles O46: each kind of level by the record it leaves, a tooth pulse of a valid channel also by what it hands the ODO. -/
theorem levelsAreClassified : Obligations.LevelsAreClassified := by
  intro ch since lowest duration highest s hr r o decodes
  have hdecodes : r.decodes = true ↔ decodes := r.decodes_iff
  have hrise : exec (.highLevelRise ch since lowest) s = .next (s.run (levelRise ch since lowest)) := rfl
  have hend : exec (.highLevelEnd ch duration highest) s = .next (s.run (levelEnd ch duration highest)) := rfl
  obtain ⟨htooth, hidle, hmalformed⟩ := levelKind_eq duration
  refine ⟨fun h => hr.next_same hrise (levelRise_quiet _ _ (eq_false_of_ne_true (mt hdecodes.1 h))),
    fun h hrx => hr.next_quiet hrise (levelRise_free _ _ (hdecodes.2 h) hrx) rfl rfl rfl rfl, fun h hrx => ?rise,
    fun h => hr.next_same hend (levelEnd_quiet _ _ (h.imp_left fun h => eq_false_of_ne_true (mt hdecodes.1 h))),
    fun l h hl => ⟨fun ht hi => hr.next_quiet hend (levelEnd_malformed (hdecodes.2 h) hl (hmalformed ht hi)) rfl rfl rfl rfl,
      fun hi hfault => ?fault, fun hi hactive => ?active, fun ht => ?tooth⟩⟩
  case rise =>
    obtain ⟨rx, hrx⟩ := Option.ne_none_iff_exists'.1 hrx
    refine hr.next_quiet hrise ((levelRise_truncates _ _ (hdecodes.2 h) hrx).trans ?_) rfl rfl rfl rfl
    rw [slotsBefore_eq]
    rfl
  case fault =>
    refine hr.next_quiet hend ((levelEnd_idle (hdecodes.2 h) hl (hidle hi)).trans (if_neg ?_)) rfl rfl rfl rfl
    rw [show (s.car.tlf.get ch).state = _ from hfault]
    nofun
  case active => exact hr.next_quiet hend ((levelEnd_idle (hdecodes.2 h) hl (hidle hi)).trans (if_pos hactive)) rfl rfl rfl rfl
  case tooth =>
    intro sampled n
    have htlf : s.car.tlf.set ch ((s.car.tlf.get ch).pulsed ch l.lowest highest s.car.now s.car.lif.params) =
        s.car.tlf.set ch { n with receiver := some ⟨n.t1, n.t2, 0⟩ } := rfl
    have hsame (h0 : n.satI0 = r.satI0) (h1 : n.satD1 = r.satD1) (h2 : n.satD2 = r.satD2) :
        (s.car.toothed ch l.lowest highest).evr = s.car.evr := by
      have := reworkLoop_of_flags_same (ch := ch) (c := s.car)
        (r := (s.car.tlf.get ch).tooth l.lowest (min 400 highest) s.car.now) h0 h1 h2
      rw [Car.toothed, this]
      rfl
    have hkind := levelEnd_tooth (highest := highest) (hdecodes.2 h) hl (htooth ht)
    have hframe := s.car.toothed_frame ch l.lowest highest
    rcases h with hactive | hfault
    · rw [if_pos hactive] at hkind
      have hstate : r.state ≠ .fault := by rw [hactive]; nofun
      obtain ⟨hpulse, hkept, hcounted⟩ := o.pulse_window (s.car.lif.params.pitch.get ch) r.idleFlag s.car.now
      generalize hcar : s.car.toothed ch l.lowest highest = d at hkind hframe hsame
      have hhanded : handPulse ch r.idleFlag d = standstillEnd { d with
          odo := s.car.odo.modify ch (·.pulse (s.car.lif.params.pitch.get ch) r.idleFlag s.car.now) } := by
        rw [hframe]
        rfl
      have hodo : s.car.odo.modify ch (·.pulse (s.car.lif.params.pitch.get ch) r.idleFlag s.car.now) = { s.car.odo with
          channels := s.car.odo.channels.set ch { o with
            acc := min 4294967295 (o.acc + s.car.lif.params.pitch.get ch), lastPulse := some s.car.now
            window := (o.pulse (s.car.lif.params.pitch.get ch) r.idleFlag s.car.now).window, firstPulse := false } } := by
        rw [← hpulse]
        rfl
      rw [hodo] at hhanded
      generalize (o.pulse (s.car.lif.params.pitch.get ch) r.idleFlag s.car.now).window = window at hkept hcounted hhanded
      cases hstand : s.car.odo.standstill with
      | true =>
        obtain ⟨he, hsince, hcauses, hleaves, hrelease, hslots⟩ := settle_standstillEnd hr (d := { d with
          odo := { s.car.odo with channels := s.car.odo.channels.set ch { o with
            acc := min 4294967295 (o.acc + s.car.lif.params.pitch.get ch), lastPulse := some s.car.now, window := window
            firstPulse := false } } }) (by rw [hframe]) (by rw [hframe]) rfl hstand
        have hrun : exec (.highLevelEnd ch duration highest) s = .next ⟨settle (standstillEnd _), s.pending⟩ :=
          hend.trans (by rw [hr.run, hkind, hhanded])
        refine ⟨_, hrun, rfl, ?_, ?_, ?_, ?_, hcauses, hleaves, fun h0 h1 h2 => ?_, fun h => absurd h hstate, fun _ =>
          ⟨window, hkept, hcounted, ?_, fun _ => ⟨hsince, hrelease .left, hrelease .right, fun side hgranted => ?_⟩, nofun⟩⟩
        · rw [he, hframe, htlf]
        · rw [he, hframe]
        · rw [he, hframe]
        · rw [he, hframe]
        · rw [he]
          exact hsame h0 h1 h2
        · rw [he]
        · rw [hslots]
          exact Dor.withdrawGranted_slots hgranted
      | false =>
        have hodo : ({ s.car.odo with channels := s.car.odo.channels.set ch { o with
            acc := min 4294967295 (o.acc + s.car.lif.params.pitch.get ch), lastPulse := some s.car.now, window := window
            firstPulse := false } } : Odo) = { s.car.odo with standstill := false, channels := s.car.odo.channels.set ch { o with
            acc := min 4294967295 (o.acc + s.car.lif.params.pitch.get ch), lastPulse := some s.car.now, window := window
            firstPulse := false } } := by rw [← hstand]
        exact ⟨_, hr.next_quiet hend (hkind.trans (hhanded.trans (standstillEnd_moving hstand))) (by rw [hframe]) (by rw [hframe]) (by rw [hframe])
          (by rw [hframe]), rfl, by rw [hframe, htlf], by rw [hframe], by rw [hframe], by rw [hframe], by rw [hframe],
          by rw [hframe], hsame, fun h => absurd h hstate, fun _ => ⟨window, hkept, hcounted, hodo, nofun,
            fun _ => ⟨by rw [hframe], by rw [hframe]⟩⟩⟩
    · have hstate : r.state ≠ .active := by rw [hfault]; nofun
      rw [if_neg hstate] at hkind
      exact ⟨_, hr.next_quiet hend hkind (by rw [hframe]) (by rw [hframe]) (by rw [hframe]) (by rw [hframe]), rfl,
        by rw [hframe, htlf], by rw [hframe], by rw [hframe], by rw [hframe], by rw [hframe], by rw [hframe], hsame,
        fun _ => ⟨by rw [hframe], by rw [hframe], by rw [hframe]⟩, fun h => absurd h hstate⟩

end Sys2Proof.Machine
end

section
/-! A complete data word: its parity, its rolling count and what it hands on (R27, R31 to R34, R37, R58). -/

namespace Sys2Proof.Machine

/-! ## The bits of a word (R31, R33) -/

section Bits
variable (t1 : Nat) (samples : List Nat)

theorem parityGood_wordBits : parityGood (wordBits t1 samples) =
    decide (((List.range 9).filter fun k => decide (t1 < min 400 (samples.getD k 0))).length % 2 = 0) := by
  rw [parityGood, wordBits, List.filter_map, List.length_map]
  rfl

theorem dataSamples_eq : dataSamples t1 samples =
    ((List.range 9).filter fun k => decide (t1 < min 400 (samples.getD k 0))).map fun k => min 400 (samples.getD k 0) := by
  rw [dataSamples, List.filter_map]
  rfl

theorem rollingGood_iff (ref : Option Nat) (w : DataWord) :
    rollingGood ref w = true ↔ ∀ n, ref = some n → w.rolling = (n + 1) % 4 := by
  cases ref with
  | none => exact ⟨nofun, fun _ => rfl⟩
  | some n => simp only [rollingGood, decide_eq_true_eq, Option.some.injEq, forall_eq']

end Bits

section Words
variable {ch : LoopChannel} {samples : List Nat} {c : Car}

theorem wordComplete_quiet (h : (c.tlf.get ch).decodes = false ∨ (c.tlf.get ch).receiver = none) :
    wordComplete ch samples c = c := by
  unfold wordComplete
  dsimp only
  split
  · rename_i rx hdecodes hrx
    rcases h with h | h
    · exact absurd (hdecodes.symm.trans h) nofun
    · exact absurd (hrx.symm.trans h) nofun
  · rfl

/-- The record that a word of good parity leaves before its thresholds are worked out. -/
def TlfChannel.worded (r : TlfChannel) (t1 : Nat) (samples : List Nat) : TlfChannel :=
  r.takeWord (wordOf (wordBits t1 samples)) (dataSamples t1 samples)

section Received
variable {rx : WordReception} (h : (c.tlf.get ch).decodes = true) (hrx : (c.tlf.get ch).receiver = some rx)
include h hrx

theorem wordComplete_bad (hp : parityGood (wordBits rx.t1 samples) = false) :
    wordComplete ch samples c = setLoop ch (c.tlf.get ch).badWord c := by
  simp only [wordComplete, h, hrx, hp, Bool.false_eq_true, if_false]

theorem wordComplete_errs (hp : parityGood (wordBits rx.t1 samples) = true)
    (hg : rollingGood (c.tlf.get ch).rollRef (wordOf (wordBits rx.t1 samples)) = false) :
    wordComplete ch samples c = reworkLoop ch ((c.tlf.get ch).worded rx.t1 samples) c := by
  simp only [wordComplete, h, hrx, hp, hg, if_true, Bool.false_eq_true, if_false]
  rfl

theorem wordComplete_good (hp : parityGood (wordBits rx.t1 samples) = true)
    (hg : rollingGood (c.tlf.get ch).rollRef (wordOf (wordBits rx.t1 samples)) = true) :
    wordComplete ch samples c = wordEffect ch (wordOf (wordBits rx.t1 samples))
      (reworkLoop ch ((c.tlf.get ch).worded rx.t1 samples) c) := by
  simp only [wordComplete, h, hrx, hp, hg, if_true]
  rfl

end Received

theorem latchSensor_eq (ch : LoopChannel) (c : Car) : latchSensor ch c = latchEvent ch 3 (c.tlf.get ch).latches.sensor { c with
    tlf := c.tlf.set ch { c.tlf.get ch with
      latches := { (c.tlf.get ch).latches with sensor := true }
      state := if (c.tlf.get ch).state = .active then .fault else (c.tlf.get ch).state }
    odo := if (c.tlf.get ch).state = .active then c.odo.handed ch false else c.odo } := by
  unfold latchSensor
  dsimp only
  rw [faultWhenActive_setLoop]

theorem latchEvent_frame (ch : LoopChannel) (code : Nat) (set : Bool) (c : Car) : latchEvent ch code set c = { c with
    evr := (latchEvent ch code set c).evr, vrl := (latchEvent ch code set c).vrl } := by
  unfold latchEvent
  split <;> rfl

theorem latchEvent_pending (ch : LoopChannel) (code : Nat) (c : Car) :
    ((latchEvent ch code false c).evr.source 9).pending = true ∨ c.evr.sources.length ≤ 9 :=
  Evr.take_pending c.evr c.now .sensorFault _

end Words

/-! ## Mesh classes (R58) -/

/-- A channel's mesh history with one more class, of which the latest three count. -/
def OdoChannel.history (r : OdoChannel) (cls : Nat) : List Nat := (r.mesh ++ [cls]).drop (r.mesh.length + 1 - 3)

theorem OdoChannel.takeMesh_spec (r : OdoChannel) (cls : Nat) :
    let low := (r.history cls).length = 3 ∧ ∀ m ∈ r.history cls, m ≤ 3
    let high := (r.history cls).length = 3 ∧ ∀ m ∈ r.history cls, 4 ≤ m
    let q := r.takeMesh cls
    q.mesh = r.history cls ∧ (high → q.shallow = false ∧ q.loss = false) ∧ (low → q.shallow = true) ∧
      (¬ low → ¬ high → q.shallow = r.shallow) ∧ (¬ high → (q.loss = true ↔ r.loss = true ∨ cls ≤ 1)) := by
  intro low high q
  have hlow : (decide ((r.history cls).length = 3) = true ∧ ((r.history cls).all fun m => decide (m ≤ 3)) = true) ↔ low := by
    simp only [decide_eq_true_eq, List.all_eq_true, low]
  have hhigh : (decide ((r.history cls).length = 3) = true ∧ ((r.history cls).all fun m => decide (4 ≤ m)) = true) ↔ high := by
    simp only [decide_eq_true_eq, List.all_eq_true, high]
  have hapart (hl : low) : ¬ high := fun hh => by
    obtain ⟨m, hm⟩ := List.exists_mem_of_length_pos (l := r.history cls) (by rw [hl.1]; exact Nat.succ_pos _)
    have hle := hl.2 m hm
    have hge := hh.2 m hm
    omega
  have hq : q = if high then { r with mesh := r.history cls, loss := false, shallow := false }
      else { r with
        mesh := r.history cls, loss := r.loss || decide (cls ≤ 1), shallow := if low then true else r.shallow } := by
    show r.takeMesh cls = _
    unfold OdoChannel.takeMesh
    dsimp only
    rw [show (r.mesh ++ [cls]).drop (r.mesh.length + 1 - 3) = r.history cls from rfl]
    simp only [hlow, hhigh]
    by_cases hh : high
    · simp only [if_pos hh, if_neg fun hl => hapart hl hh]
    · by_cases hl : low
      · simp only [if_neg hh, if_pos hl]
      · simp only [if_neg hh, if_neg hl]
  rw [hq]
  refine ⟨by split <;> rfl, fun h => by rw [if_pos h]; exact ⟨rfl, rfl⟩, fun h => by rw [if_neg (hapart h)]; exact if_pos h,
    fun hl hh => by rw [if_neg hh]; exact if_neg hl, fun hh => ?_⟩
  rw [if_neg hh]
  simp only [Bool.or_eq_true, decide_eq_true_eq]

/-- The mesh conditions judged: the two flags of the ODO, and what their changes hand on. -/
theorem judgeMesh_odo (c : Car) : (judgeMesh c).odo = { c.odo with
    meshShallow := c.odo.channels.cogA.shallow || c.odo.channels.cogB.shallow
    meshLoss := c.odo.channels.cogA.loss || c.odo.channels.cogB.loss } := by
  unfold judgeMesh
  simp only [causeChange_odo, levelChange_odo]
  split <;> rfl

theorem judgeMesh_cause (c : Car) (h : c.odo.meshShallow ≠ (c.odo.channels.cogA.shallow || c.odo.channels.cogB.shallow)) :
    (judgeMesh c).ssv.waiting.cause = true := by
  unfold judgeMesh
  simp only [causeChange_ssv, levelChange_ssv, if_neg h]
  rfl

/-- A loss of mesh that starts puts its cause in the set with its condition present. -/
theorem judgeMesh_lost (c : Car) (hbefore : c.odo.meshLoss = false)
    (hloss : (c.odo.channels.cogA.loss || c.odo.channels.cogB.loss) = true) :
    ∃ r, (judgeMesh c).brk.causes.get .meshLoss = some r ∧ r.present = true := by
  unfold judgeMesh
  simp only [hbefore, hloss, causeChange, Bool.false_eq_true, if_false, if_true]
  exact causeStart_record ..

/-! ## A good word handed to the ODO -/

theorem handWord_quiet {ch : LoopChannel} {c : Car} (hi : Intact c) (cls : Nat)
    (h : isCog ch = false ∨ (askKinds c).rack = false) : handWord ch cls c = c := by
  unfold handWord
  split
  · rename_i hcog
    dsimp only
    rw [hi.readForExtent, if_neg (ne_true_of_eq_false (h.resolve_left (ne_false_of_eq_true hcog)))]
  · rfl

theorem handWord_rack {ch : LoopChannel} {c : Car} (hi : Intact c) (cls : Nat) (hcog : isCog ch = true)
    (h : (askKinds c).rack = true) : handWord ch cls c = judgeMesh { c with odo := c.odo.modify ch (·.takeMesh cls) } := by
  unfold handWord
  dsimp only
  rw [if_pos hcog, hi.readForExtent, if_pos h]

/-- What a settled part holds of the causes that are not the doors'. -/
theorem settle_cause (c : Car) {cause : Cause} (h : cause ≠ .door) :
    (settle c).brk.causes.get cause = c.brk.causes.get cause :=
  (dorJudge_handsOn c).cause cause fun hmem => h (List.mem_singleton.1 hmem)

theorem settle_waiting {c : Car} (h : c.ssv.waiting.cause = true) : (settle c).ssv.waiting.cause = true :=
  (brkJudge_ssv_frame (dorJudge c)).2 (by rw [dorJudge_ssv]; exact h)

/-- With a cause in the set both channels are commanded to apply once the part is settled (R102). -/
theorem settle_apply {c : Car} {cause : Cause} {r : CauseRecord} (hcause : cause ≠ .door) (h : c.brk.causes.get cause = some r)
    (ch : CogChannel) : ((settle c).brk.channels.get ch).command = .apply := by
  have hset : causesEmpty (dorJudge c).brk.causes = false := by
    rw [← Bool.not_eq_true, causesEmpty_iff]
    intro hnone
    exact absurd ((settle_cause c hcause).trans h) (by rw [show (settle c).brk.causes.get cause = none from hnone cause]; nofun)
  have hget : (settle c).brk.channels.get ch = judgeChannel (dorJudge c) ch := brkJudge_channel ..
  rw [hget]
  exact (judgeChannel_stopped (.inr hset) ch).1

/-- The part with a channel's record replaced and what its thresholds made occur. -/
def Car.reworked (c : Car) (ch : LoopChannel) (n : TlfChannel) (d : Car) : Prop :=
  d = { c with tlf := c.tlf.set ch n, evr := d.evr, vrl := d.vrl } ∧ d.evr.sources.length = c.evr.sources.length

/-- A good word with its sensor fault bit set (R37). -/
theorem wordEffect_sensor {c d : Car} {ch : LoopChannel} {n : TlfChannel} (h : c.reworked ch n d)
    (hn : n.state = .active ∨ n.state = .fault) {w : DataWord} (hw : w.sensorFault = true) :
    let e := wordEffect ch w d
    e = { c with
      tlf := c.tlf.set ch { n with latches := { n.latches with sensor := true }, state := .fault }
      odo := { c.odo with channels := if n.state = .active then c.odo.channels.set ch { c.odo.channels.get ch with
          valid := false, acc := 0, window := [0, 0, 0, 0, 0], speed := 0, firstPulse := true }
        else c.odo.channels }
      evr := e.evr
      vrl := e.vrl } ∧
    (n.latches.sensor = false → (e.evr.source 9).pending = true ∨ c.evr.sources.length ≤ 9) := by
  obtain ⟨hframe, hlength⟩ := h
  have hget : d.tlf.get ch = n := by rw [hframe, PerLoop.get_set_self]
  have hset (q : TlfChannel) : d.tlf.set ch q = c.tlf.set ch q := by rw [hframe, PerLoop.set_set]
  have hodo : d.odo = c.odo := by rw [hframe]
  have hstate : (if n.state = .active then .fault else n.state) = ChannelState.fault := by
    split
    · rfl
    · exact hn.resolve_left ‹_›
  have heffect : wordEffect ch w d = latchSensor ch d := if_pos hw
  rw [latchSensor_eq, hget, hset, hodo, hstate] at heffect
  intro e
  refine ⟨?_, fun hclear => ?_⟩
  · calc e = _ := heffect.trans (latchEvent_frame ..)
      _ = { d with
          tlf := c.tlf.set ch { n with latches := { n.latches with sensor := true }, state := .fault }
          odo := if n.state = .active then c.odo.handed ch false else c.odo
          evr := e.evr
          vrl := e.vrl } := by rw [← heffect]
      _ = _ := by
        rw [hframe]
        split <;> rfl
  · rw [show e = _ from heffect, hclear, ← hlength]
    exact latchEvent_pending ..

/-- A good word without the sensor fault bit that hands no mesh class on (R34, R58). -/
theorem wordEffect_quiet {c d : Car} {ch : LoopChannel} {n : TlfChannel} (h : c.reworked ch n d) (hi : Intact c) {w : DataWord}
    (hw : w.sensorFault = false) (hnone : n.state ≠ .active ∨ isCog ch = false ∨ (askKinds c).rack = false) :
    wordEffect ch w d = d := by
  have hframe := h.1
  have hget : d.tlf.get ch = n := by rw [hframe, PerLoop.get_set_self]
  have hintact : Intact d := by
    rw [hframe]
    exact hi
  have hkinds : askKinds d = askKinds c := by
    rw [hframe]
    rfl
  unfold wordEffect
  rw [if_neg (ne_true_of_eq_false hw), hget]
  split
  · rename_i hactive
    exact handWord_quiet hintact _ (by rw [hkinds]; exact hnone.resolve_left (not_not.2 hactive))
  · rfl

/-- A good word of an ACTIVE cog channel on rack, settled: its mesh class in the history, the conditions judged (R58). -/
theorem settle_wordMesh {s : State} {d : Car} {ch : LoopChannel} {n : TlfChannel} (h : s.car.reworked ch n d)
    (hi : Intact s.car) {w : DataWord} (hw : w.sensorFault = false) (hactive : n.state = .active) (hcog : isCog ch = true)
    (hrack : (askKinds s.car).rack = true) :
    let o := s.car.odo.channels.set ch ((s.car.odo.channels.get ch).takeMesh w.mesh)
    let shallow := o.cogA.shallow || o.cogB.shallow
    let loss := o.cogA.loss || o.cogB.loss
    let t := settle (wordEffect ch w d)
    t.odo = { s.car.odo with channels := o, meshShallow := shallow, meshLoss := loss } ∧
    t.lif = s.car.lif ∧ t.pst = s.car.pst ∧ t.tlf = s.car.tlf.set ch n ∧
    (shallow ≠ s.car.odo.meshShallow → t.ssv.waiting.cause = true) ∧
    (s.car.odo.meshLoss = false → loss = true →
      (t.brk.causes.meshLoss.map CauseRecord.present) = some true ∧ ∀ c, (t.brk.channels.get c).command = .apply) := by
  have hframe := h.1
  have hget : d.tlf.get ch = n := by rw [hframe, PerLoop.get_set_self]
  have hintact : Intact d := by
    rw [hframe]
    exact hi
  have hkinds : askKinds d = askKinds s.car := by
    rw [hframe]
    rfl
  have hodo : d.odo = s.car.odo := by rw [hframe]
  have heffect : wordEffect ch w d = judgeMesh { d with odo := d.odo.modify ch (·.takeMesh w.mesh) } := by
    rw [← handWord_rack hintact w.mesh hcog (by rw [hkinds]; exact hrack)]
    exact (if_neg (ne_true_of_eq_false hw)).trans (if_pos (by rw [hget]; exact hactive))
  rw [hodo] at heffect
  intro o shallow loss t
  have hjudged := judgeMesh_odo { d with odo := s.car.odo.modify ch (·.takeMesh w.mesh) }
  have hhanded := (judgeMesh_handsOn { d with odo := s.car.odo.modify ch (·.takeMesh w.mesh) }).frame
  have hcause := judgeMesh_cause { d with odo := s.car.odo.modify ch (·.takeMesh w.mesh) }
  have hlost := judgeMesh_lost { d with odo := s.car.odo.modify ch (·.takeMesh w.mesh) }
  rw [← heffect] at hjudged hhanded hcause hlost
  refine ⟨(settle_odo _).trans hjudged, (settle_lif _).trans ?_, (settle_pst _).trans ?_, (settle_tlf _).trans ?_,
    fun hne => settle_waiting (hcause fun heq => hne heq.symm), fun hbefore hloss => ?_⟩
  · rw [hhanded, hframe]
  · rw [hhanded, hframe]
  · rw [hhanded, hframe]
  · obtain ⟨r, hr, hp⟩ := hlost hbefore hloss
    have hmesh : (settle (wordEffect ch w d)).brk.causes.meshLoss = some r := (settle_cause _ (by nofun)).trans hr
    exact ⟨(congrArg (Option.map CauseRecord.present) hmesh).trans (congrArg some hp), settle_apply (by nofun) hr⟩

/-- Settles O48: the word by its parity and its rolling count, then what a good one hands on by its fault bit and its channel. -/
theorem dataWordsAreReceived : Obligations.DataWordsAreReceived := by
  intro ch samples s hr hi hlength r o decodes
  have hdecodes : r.decodes = true ↔ decodes := r.decodes_iff
  have hexec : exec (.dataWordComplete ch samples) s = .next (s.run (wordComplete ch samples)) := rfl
  refine ⟨fun h => hr.next_same hexec (wordComplete_quiet (h.imp_left fun h => eq_false_of_ne_true (mt hdecodes.1 h))),
    fun rx hd hrx => ?_⟩
  intro current bit value ones word good judged
  have hword : wordOf (wordBits rx.t1 samples) = word := rfl
  have hparity : parityGood (wordBits rx.t1 samples) = decide (ones % 2 = 0) := parityGood_wordBits ..
  have hgood : rollingGood r.rollRef word = true ↔ good := rollingGood_iff ..
  have hdata : dataSamples rx.t1 samples = ((List.range 9).filter bit).map current := dataSamples_eq ..
  have hjudged : r.worded rx.t1 samples = { judged with
      latest := if rollingGood r.rollRef word then some word else r.latest
      counts := { r.counts with
        wordErrors := if rollingGood r.rollRef word then r.counts.wordErrors else bump r.counts.wordErrors
        airGap := if rollingGood r.rollRef word && word.airGap then bump r.counts.airGap else r.counts.airGap } } := by
    rw [TlfChannel.worded, hword, hdata]
    rfl
  refine ⟨fun hodd => ?odd, fun heven hnot => ?errs, fun heven hok => ?good⟩
  case odd =>
    refine hr.next_quiet hexec (wordComplete_bad (hdecodes.2 hd) hrx ?_) rfl rfl rfl rfl
    rw [hparity, decide_eq_false]
    omega
  case errs =>
    have hfails : rollingGood r.rollRef word = false := eq_false_of_ne_true (mt hgood.1 hnot)
    have hframe := reworkLoop_frame ch (r.worded rx.t1 samples) s.car
    refine ⟨_, hr.next_quiet hexec (wordComplete_errs (hdecodes.2 hd) hrx (hparity.trans (decide_eq_true heven)) hfails)
      (by rw [hframe]) (by rw [hframe]) (by rw [hframe]) (by rw [hframe]), rfl, ?_, ?_⟩
    · dsimp only
      rw [hframe]
    · dsimp only
      rw [hframe, hjudged, hfails]
      rfl
  case good =>
    have hpass : rollingGood r.rollRef word = true := hgood.2 hok
    have hmeaning := wordComplete_good (hdecodes.2 hd) hrx (hparity.trans (decide_eq_true heven)) hpass
    have hframe := reworkLoop_frame ch (r.worded rx.t1 samples) s.car
    have hevents := (reworkLoop_raises ch (r.worded rx.t1 samples) s.car).length
    generalize reworkLoop ch (r.worded rx.t1 samples) s.car = d at hframe hevents hmeaning
    generalize hn : TlfChannel.rework { judged with
      latest := some word
      counts := { r.counts with
        airGap := if word.airGap then min 65535 (r.counts.airGap + 1) else r.counts.airGap } } s.car.lif.params ch = n
    have hrecord : (r.worded rx.t1 samples).rework s.car.lif.params ch = n := by
      rw [← hn, hjudged, hpass]
      rfl
    have hreworked : s.car.reworked ch n d := ⟨hrecord ▸ hframe, hevents⟩
    have hstate : n.state = r.state := by rw [← hn]; rfl
    have hlatch : n.latches = r.latches := by rw [← hn]; rfl
    rw [hword] at hmeaning
    cases hfault : word.sensorFault with
    | true =>
      obtain ⟨heffect, hpending⟩ := wordEffect_sensor hreworked (by rw [hstate]; exact hd) hfault
      refine ⟨_, hr.next_quiet hexec hmeaning (by rw [heffect]) (by rw [heffect]) (by rw [heffect]) (by rw [heffect]), rfl,
        by rw [heffect], by rw [heffect], ⟨nofun, fun _ => ⟨by rw [heffect], ?_, fun hclear => hpending (by rw [hlatch]; exact hclear)⟩⟩,
        nofun⟩
      dsimp only
      rw [heffect, hstate]
    | false =>
      by_cases hmesh : r.state = .active ∧ (ch = .cogA ∨ ch = .cogB) ∧ (askKinds s.car).rack = true
      · obtain ⟨hactive, hcog, hrack⟩ := hmesh
        have hiscog : isCog ch = true := by rcases hcog with rfl | rfl <;> rfl
        obtain ⟨hodo, hlif, hpst, htlf, hcause, hlost⟩ :=
          settle_wordMesh hreworked hi hfault (hstate.trans hactive) hiscog hrack
        obtain ⟨hhistory, hhigh, hlow, hkept, hloss⟩ := o.takeMesh_spec word.mesh
        have hget : (s.car.odo.channels.set ch (o.takeMesh word.mesh)).get ch = o.takeMesh word.mesh := PerLoop.get_set_self ..
        have hrun : exec (.dataWordComplete ch samples) s = .next ⟨settle (wordEffect ch word d), s.pending⟩ := by
          rw [hexec, hr.run, hmeaning]
        refine ⟨_, hrun, rfl, hlif, hpst, ⟨fun _ => htlf, nofun⟩, fun _ => ⟨fun h => ?_,
          fun _ _ _ => ?_⟩⟩
        · rcases h with h | rfl | rfl | h
          · exact absurd (hactive.symm.trans h) nofun
          · cases hiscog
          · cases hiscog
          · exact absurd (hrack.symm.trans h) nofun
        · dsimp only
          rw [hodo]
          dsimp only
          rw [hget]
          exact ⟨hhistory, hhigh, hlow, hkept, hloss, fun other hne => PerLoop.get_set_ne _ _ hne, rfl, hcause, hlost⟩
      · have hsame := wordEffect_quiet hreworked hi hfault (by
          rw [hstate]
          by_contra hnone
          obtain ⟨hactive, hrest⟩ := not_or.1 hnone
          obtain ⟨hcog, hrack⟩ := not_or.1 hrest
          refine hmesh ⟨not_not.1 hactive, ?_, Bool.not_eq_false _ ▸ hrack⟩
          cases ch with
          | cogA => exact .inl rfl
          | cogB => exact .inr rfl
          | wheelA | wheelB => exact absurd rfl hcog)
        rw [hsame] at hmeaning
        refine ⟨_, hr.next_quiet hexec hmeaning (by rw [hframe]) (by rw [hframe]) (by rw [hframe]) (by rw [hframe]), rfl,
          by rw [hframe], by rw [hframe], ⟨fun _ => by rw [hreworked.1], nofun⟩, fun _ => ⟨fun _ => ⟨by rw [hframe], by rw [hframe],
            by rw [hframe]⟩, fun hactive hcog hrack => absurd ⟨hactive, hcog, hrack⟩ hmesh⟩⟩

end Sys2Proof.Machine
end

section
/-! RESTRICTION ADD and RESTRICTION CANCEL, and what they hand on (R83 to R91). -/

namespace Sys2Proof.Machine

/-! ## What a change of the lists hands on (R91) -/

section Lists
variable {c : Car} {q : Ssv}

theorem isEmpty_not_eq {α : Type} (a b : List α) : ((!a.isEmpty) = (!b.isEmpty)) ↔ (a = [] ↔ b = []) := by
  cases a <;> cases b <;> simp

/-- An overflow list that cannot become non-empty: RESTRICTION_OVERFLOW ends as it becomes empty. -/
theorem handLists_shrunk (h : c.ssv.overflow = [] → q.overflow = []) : handLists c.ssv true { c with ssv := q } = { c with
    ssv := q.cause
    evr := if c.ssv.overflow ≠ [] ∧ q.overflow = [] then c.evr.modify 24 fun r => { r with pending := false } else c.evr } := by
  unfold handLists handOverflow levelChange
  rw [if_pos rfl]
  show (if (!c.ssv.overflow.isEmpty) = (!q.overflow.isEmpty) then ssvCause { c with ssv := q }
    else if (!q.overflow.isEmpty) = true then occur _ _ (ssvCause { c with ssv := q })
    else conditionEnd _ (ssvCause { c with ssv := q })) = _
  by_cases hended : c.ssv.overflow ≠ [] ∧ q.overflow = []
  · rw [if_neg fun heq => hended.1 (((isEmpty_not_eq ..).1 heq).2 hended.2), if_pos hended, hended.2]
    rfl
  · rw [if_pos ((isEmpty_not_eq ..).2 ⟨h, fun hq => by_contra fun hc => hended ⟨hc, hq⟩⟩), if_neg hended]
    rfl

/-- An overflow list that does not become empty: RESTRICTION_OVERFLOW starts with the first entry. -/
theorem handLists_grown (changed : Bool) (h : q.overflow ≠ []) : handLists c.ssv changed { c with ssv := q } =
    if c.ssv.overflow = [] then occur .restrictionOverflow ((q.overflow.head?.map OverflowEntry.id).getD 0)
      { c with ssv := if changed then q.cause else q }
    else { c with ssv := if changed then q.cause else q } := by
  have hcar : (if changed = true then ssvCause { c with ssv := q } else { c with ssv := q }) =
      { c with ssv := if changed = true then q.cause else q } := by
    split <;> rfl
  have hover : ({ c with ssv := if changed = true then q.cause else q } : Car).ssv.overflow = q.overflow := by
    dsimp only
    split <;> rfl
  have hnonempty : (!q.overflow.isEmpty) = true := by
    cases hq : q.overflow with
    | nil => exact absurd hq h
    | cons => rfl
  unfold handLists handOverflow levelChange
  rw [hcar, hover, hnonempty]
  cases hc : c.ssv.overflow with
  | nil => rfl
  | cons => rfl

theorem handLists_withLif {l : Lif} (h : c.lif.SameCar l) (before : Ssv) (changed : Bool) :
    handLists before changed (c.withLif l) = (handLists before changed c).withLif l := by
  have hcar : (if changed then ssvCause (c.withLif l) else c.withLif l) = (if changed then ssvCause c else c).withLif l := by
    split <;> rfl
  have hlif : (if changed then ssvCause c else c).lif.SameCar l := by
    split <;> exact h
  unfold handLists handOverflow
  rw [hcar]
  exact levelChange_withLif hlif ..

theorem handLists_frame (before : Ssv) (changed : Bool) (c : Car) : handLists before changed c = { c with
    ssv := { c.ssv with waiting := ⟨c.ssv.waiting.cause || changed, c.ssv.waiting.update⟩ }
    evr := (handLists before changed c).evr
    vrl := (handLists before changed c).vrl } := by
  have hcar : (if changed then ssvCause c else c) = { c with
      ssv := { c.ssv with waiting := ⟨c.ssv.waiting.cause || changed, c.ssv.waiting.update⟩ } } := by
    cases changed
    · simp only [Bool.or_false]
      rfl
    · simp only [Bool.or_true]
      rfl
  unfold handLists handOverflow levelChange
  rw [hcar]
  split
  · rfl
  · split <;> rfl

end Lists

/-! ## The two telegrams' blocks -/

section Blocks
variable (id low high speed appliesTo : Nat) (origin : Origin) (c : Car)

/-- What a restriction command may change: the two lists with the saturated flag, the causes waiting, and the events. -/
def Car.ListsOnly (c d : Car) : Prop := d = { c with
  ssv := { c.ssv with
    restrictions := d.ssv.restrictions
    overflow := d.ssv.overflow
    saturated := d.ssv.saturated
    waiting := { c.ssv.waiting with cause := d.ssv.waiting.cause } }
  evr := d.evr
  vrl := d.vrl }

theorem handLists_listsOnly (changed : Bool) {q : Ssv} (h : q = { c.ssv with
    restrictions := q.restrictions, overflow := q.overflow, saturated := q.saturated }) :
    c.ListsOnly (handLists c.ssv changed { c with ssv := q }) := by
  unfold Car.ListsOnly
  rw [handLists_frame, h]

theorem Ssv.refuseRestriction_frame (q : Ssv) : q.refuseRestriction id speed = { q with
    overflow := (q.refuseRestriction id speed).overflow, saturated := (q.refuseRestriction id speed).saturated } := by
  unfold Ssv.refuseRestriction
  split
  · rfl
  · split <;> rfl

theorem restrictionAdd_listsOnly : c.ListsOnly (restrictionAdd id low high speed appliesTo origin c).2 := by
  unfold restrictionAdd
  split
  · rfl
  · split
    · exact handLists_listsOnly c true rfl
    · refine handLists_listsOnly c _ ?_
      rw [Ssv.refuseRestriction_frame]

theorem restrictionCancel_listsOnly : c.ListsOnly (restrictionCancel id c).2 := by
  unfold restrictionCancel
  split
  · rfl
  · split
    · exact handLists_listsOnly c true rfl
    · rfl

theorem restrictionAdd_withLif {c : Car} {l : Lif} (h : c.lif.SameCar l) :
    restrictionAdd id low high speed appliesTo origin (c.withLif l) =
      ((restrictionAdd id low high speed appliesTo origin c).1,
        (restrictionAdd id low high speed appliesTo origin c).2.withLif l) := by
  have hhand (q : Ssv) (changed : Bool) : handLists c.ssv changed { c.withLif l with ssv := q } =
      (handLists c.ssv changed { c with ssv := q }).withLif l := handLists_withLif (c := { c with ssv := q }) h ..
  unfold restrictionAdd
  rw [show (c.withLif l).ssv = c.ssv from rfl]
  split
  · rfl
  · split
    · rw [hhand]
    · dsimp only
      rw [hhand]

theorem restrictionCancel_withLif {c : Car} {l : Lif} (h : c.lif.SameCar l) : restrictionCancel id (c.withLif l) =
    ((restrictionCancel id c).1, (restrictionCancel id c).2.withLif l) := by
  have hhand (q : Ssv) (changed : Bool) : handLists c.ssv changed { c.withLif l with ssv := q } =
      (handLists c.ssv changed { c with ssv := q }).withLif l := handLists_withLif (c := { c with ssv := q }) h ..
  unfold restrictionCancel
  rw [show (c.withLif l).ssv = c.ssv from rfl]
  split
  · rfl
  · split
    · dsimp only
      rw [hhand]
    · rfl

end Blocks

/-! ## The telegrams -/

section Telegrams
variable {via : Via} {s : State} (hr : Ready s)
include hr

/-- A restriction telegram places the result of its block, which leaves the outputs alone. -/
theorem exec_listed {i : Instr} {t : Telegram} (hi : i.telegram = some (via, t)) (h : Reaches via t s.car)
    (hp : telegramKind t ≠ 40) {kind : Nat} {f : Car → Result × Car} (hdeliver : ∀ c, deliver via t c = reply via kind (f c))
    (hlif : ∀ c l, c.lif.SameCar l → f (c.withLif l) = ((f c).1, (f c).2.withLif l)) (hf : ∀ c : Car, c.ListsOnly (f c).2) :
    exec i s = .next ⟨replied via kind (f s.car).1 [.none] (f s.car).2, s.pending⟩ := by
  have hframe := hf s.car
  unfold Car.ListsOnly at hframe
  refine exec_eq_replied_quiet hi hr h hp (by rw [hframe]; exact hr.unreserved) (by rw [hframe]) (by rw [hframe]) (by rw [hframe])
    (by rw [hframe]) fun n => ?_
  rw [hdeliver]
  have hreserved := hlif s.car { s.car.lif with reservedReplies := n } ⟨rfl, rfl⟩
  have hreserving : (f s.car).2.reserving n = (f s.car).2.withLif { s.car.lif with reservedReplies := n } := by
    rw [hframe]
    rfl
  rw [hreserving]
  exact congrArg (reply via kind) hreserved

theorem exec_restrictionAdd {id low high speed appliesTo : Nat}
    (h : Reaches via (.restrictionAdd id low high speed appliesTo) s.car) :
    exec (.restrictionAdd via id low high speed appliesTo) s = .next ⟨replied via 24
      (restrictionAdd id low high speed appliesTo .cab s.car).1 [.none]
      (restrictionAdd id low high speed appliesTo .cab s.car).2, s.pending⟩ :=
  exec_listed hr rfl h (by simp [telegramKind]) (fun _ => rfl) (fun _ _ h => restrictionAdd_withLif _ _ _ _ _ _ h)
    fun _ => restrictionAdd_listsOnly ..

theorem exec_restrictionCancel {id : Nat} (h : Reaches via (.restrictionCancel id) s.car) :
    exec (.restrictionCancel via id) s = .next ⟨replied via 25 (restrictionCancel id s.car).1 [.none]
      (restrictionCancel id s.car).2, s.pending⟩ :=
  exec_listed hr rfl h (by simp [telegramKind]) (fun _ => rfl) (fun _ _ h => restrictionCancel_withLif _ h)
    fun _ => restrictionCancel_listsOnly ..

end Telegrams

/-! ## The results, case by case (R85 to R89) -/

section Results
variable {id low high speed appliesTo : Nat} {origin : Origin} {c : Car}

theorem restrictionAdd_range (h : ¬ (1 ≤ id ∧ id ≤ 255 ∧ low ≤ 1999999 ∧ high ≤ 1999999 ∧ low ≤ high) ∨
    AppliesTo.ofCode appliesTo = none) : restrictionAdd id low high speed appliesTo origin c = (.range, c) := by
  have hnone : restrictionRequest id low high speed appliesTo = none := by
    unfold restrictionRequest
    split
    · rename_i a ha
      exact if_neg (h.resolve_right (by rw [ha]; nofun))
    · rfl
  simp only [restrictionAdd, hnone]

section InRange
variable {a : AppliesTo} (hrange : 1 ≤ id ∧ id ≤ 255 ∧ low ≤ 1999999 ∧ high ≤ 1999999 ∧ low ≤ high)
  (ha : AppliesTo.ofCode appliesTo = some a)
include hrange ha

theorem restrictionRequest_eq : restrictionRequest id low high speed appliesTo = some ⟨id, low, high, min 40 speed, a⟩ := by
  have hin : 1 ≤ id ∧ id ≤ 255 ∧ low ≤ lineEnd ∧ high ≤ lineEnd ∧ low ≤ high := hrange
  simp only [restrictionRequest, ha, if_pos hin]

theorem restrictionAdd_taken (h : (∃ r ∈ c.ssv.restrictions, r.id = id) ∨ c.ssv.restrictions.length < 16) :
    restrictionAdd id low high speed appliesTo origin c = (if speed ≤ 40 then .accepted else .acceptedClamped,
      handLists c.ssv true { c with ssv := c.ssv.acceptRestriction ⟨id, low, high, min 40 speed, a⟩ origin }) := by
  have hroom : (c.ssv.restrictions.any fun r => r.id == id) = true ∨ c.ssv.restrictions.length < 16 := by
    simpa only [List.any_eq_true, beq_iff_eq] using h
  simp only [restrictionAdd, restrictionRequest_eq hrange ha, if_pos hroom]

theorem restrictionAdd_full (h : ∀ r ∈ c.ssv.restrictions, r.id ≠ id) (hfull : 16 ≤ c.ssv.restrictions.length) :
    restrictionAdd id low high speed appliesTo origin c = (.listFull,
      handLists c.ssv (decide (c.ssv.refuseRestriction id (min 40 speed) ≠ c.ssv))
        { c with ssv := c.ssv.refuseRestriction id (min 40 speed) }) := by
  have hroom : ¬ ((c.ssv.restrictions.any fun r => r.id == id) = true ∨ c.ssv.restrictions.length < 16) := by
    simp only [List.any_eq_true, beq_iff_eq, not_or, not_exists, not_and]
    exact ⟨h, by omega⟩
  simp only [restrictionAdd, restrictionRequest_eq hrange ha, if_neg hroom]

end InRange

theorem restrictionCancel_range (h : id < 1 ∨ 255 < id) : restrictionCancel id c = (.range, c) := if_pos h

theorem restrictionCancel_absent (h : ¬ (id < 1 ∨ 255 < id)) (hr : ∀ r ∈ c.ssv.restrictions, r.id ≠ id)
    (he : ∀ e ∈ c.ssv.overflow, e.id ≠ id) : restrictionCancel id c = (.notFound, c) := by
  refine (if_neg h).trans (if_neg ?_)
  simp only [List.any_eq_true, beq_iff_eq, not_or, not_exists, not_and]
  exact ⟨hr, he⟩

theorem restrictionCancel_found (h : ¬ (id < 1 ∨ 255 < id))
    (hin : (∃ r ∈ c.ssv.restrictions, r.id = id) ∨ ∃ e ∈ c.ssv.overflow, e.id = id) :
    restrictionCancel id c = (.accepted, handLists c.ssv true { c with ssv := { c.ssv with
      restrictions := withoutRestriction id c.ssv.restrictions
      overflow := withoutOverflow id c.ssv.overflow
      saturated := c.ssv.saturated && !(withoutOverflow id c.ssv.overflow).isEmpty } }) := by
  refine (if_neg h).trans (if_pos ?_)
  simpa only [List.any_eq_true, beq_iff_eq] using hin

end Results

/-- The marks that a refused request leaves, case by case (R88). -/
theorem Ssv.refuseRestriction_spec (q : Ssv) (id speed : Nat) :
    ((∃ e ∈ q.overflow, e.id = id) → q.refuseRestriction id speed = { q with
      overflow := q.overflow.map fun e => if e.id = id then ⟨e.id, min e.speed speed⟩ else e }) ∧
    ((∀ e ∈ q.overflow, e.id ≠ id) → q.overflow.length < 4 →
      q.refuseRestriction id speed = { q with overflow := q.overflow ++ [⟨id, speed⟩] }) ∧
    ((∀ e ∈ q.overflow, e.id ≠ id) → 4 ≤ q.overflow.length →
      q.refuseRestriction id speed = { q with saturated := true }) ∧
    (q.refuseRestriction id speed).overflow ≠ [] ∧
    (q.overflow = [] → (q.refuseRestriction id speed).overflow = [⟨id, speed⟩]) := by
  have hany : (q.overflow.any fun e => e.id == id) = true ↔ ∃ e ∈ q.overflow, e.id = id := by
    simp only [List.any_eq_true, beq_iff_eq]
  have hnone (h : ∀ e ∈ q.overflow, e.id ≠ id) : ¬ (q.overflow.any fun e => e.id == id) = true := by
    rw [hany]
    rintro ⟨e, he, heq⟩
    exact h e he heq
  have hheld : (∃ e ∈ q.overflow, e.id = id) → q.refuseRestriction id speed = { q with
      overflow := q.overflow.map fun e => if e.id = id then ⟨e.id, min e.speed speed⟩ else e } := fun h => if_pos (hany.2 h)
  have hnew (h : ∀ e ∈ q.overflow, e.id ≠ id) (hroom : q.overflow.length < 4) :
      q.refuseRestriction id speed = { q with overflow := q.overflow ++ [⟨id, speed⟩] } :=
    (if_neg (hnone h)).trans (if_pos hroom)
  have hfull (h : ∀ e ∈ q.overflow, e.id ≠ id) (hroom : 4 ≤ q.overflow.length) :
      q.refuseRestriction id speed = { q with saturated := true } :=
    (if_neg (hnone h)).trans (if_neg (by omega))
  refine ⟨hheld, hnew, hfull, ?_, fun hempty => ?_⟩
  · by_cases hin : ∃ e ∈ q.overflow, e.id = id
    · rw [hheld hin]
      obtain ⟨e, he, -⟩ := hin
      exact fun hnil => absurd (List.map_eq_nil_iff.1 hnil) (List.ne_nil_of_mem he)
    · have hother : ∀ e ∈ q.overflow, e.id ≠ id := fun e he heq => hin ⟨e, he, heq⟩
      by_cases hroom : q.overflow.length < 4
      · rw [hnew hother hroom]
        exact List.append_ne_nil_of_right_ne_nil _ nofun
      · rw [hfull hother (by omega)]
        intro hnil
        rw [show q.overflow = [] from hnil] at hroom
        exact hroom (by decide)
  · rw [hnew (by rw [hempty]; nofun) (by rw [hempty]; decide), hempty]
    rfl

/-! ## What is left of the car (O55) -/

section Framed
variable {c d : Car} (via : Via) (kind : Nat) (result : Result)

theorem Car.ListsOnly.framed (hd : c.ListsOnly d) (hlink : d.vrl.link = c.vrl.link) :
    (replied via kind result [.none] d).lif = c.lif.answered c.vrl.link via kind result [.none] ∧
    d.odo = c.odo ∧ d.tlf = c.tlf ∧ d.pst = c.pst ∧ d.brk = c.brk ∧ d.dor = c.dor ∧ d.ssv.record = c.ssv.record ∧
    d.ssv.running = c.ssv.running ∧ d.ssv.waiting.update = c.ssv.waiting.update := by
  have hlif : (replied via kind result [.none] d).lif = c.lif.answered c.vrl.link via kind result [.none] := by
    rw [← hlink]
    exact congrArg (fun l : Lif => l.answered d.vrl.link via kind result [.none]) (congrArg Car.lif hd :)
  exact ⟨hlif, (congrArg Car.odo hd :), (congrArg Car.tlf hd :), (congrArg Car.pst hd :), (congrArg Car.brk hd :),
    (congrArg Car.dor hd :), (congrArg (fun x : Car => x.ssv.record) hd :), (congrArg (fun x : Car => x.ssv.running) hd :),
    (congrArg (fun x : Car => x.ssv.waiting.update) hd :)⟩

end Framed

theorem withoutOverflow_of_nil (id : Nat) {l : List OverflowEntry} (h : l = []) : withoutOverflow id l = [] := by
  rw [h]
  rfl

theorem Ssv.mem_acceptRestriction (q : Ssv) (p : RestrictionRequest) (origin : Origin) (r : Restriction) :
    r ∈ (q.acceptRestriction p origin).restrictions ↔
      r = ⟨p.id, p.low, p.high, p.speed, p.appliesTo, origin⟩ ∨ (r ∈ q.restrictions ∧ r.id ≠ p.id) := by
  refine (insertBy_perm ..).mem_iff.trans ?_
  simp only [List.mem_cons, withoutRestriction, List.mem_filter, Bool.not_eq_true', beq_eq_false_iff_ne]

/-- What a request refused from a full list leaves in the car (R88, R91). -/
theorem handLists_refused (c : Car) (id speed : Nat) {d : Car}
    (hd : d = handLists c.ssv (decide (c.ssv.refuseRestriction id speed ≠ c.ssv))
      { c with ssv := c.ssv.refuseRestriction id speed }) :
    d.vrl.link = c.vrl.link ∧
    d.evr = (if c.ssv.overflow = [] then c.evr.take c.now .restrictionOverflow id else c.evr) ∧
    d.ssv = if c.ssv.refuseRestriction id speed ≠ c.ssv then (c.ssv.refuseRestriction id speed).cause
      else c.ssv.refuseRestriction id speed := by
  obtain ⟨-, -, -, hnonempty, hfirst⟩ := c.ssv.refuseRestriction_spec id speed
  rw [handLists_grown _ hnonempty] at hd
  simp only [decide_eq_true_eq] at hd
  rw [hd]
  split
  · next hempty =>
    rw [hfirst hempty]
    exact ⟨(occur_sameLink ..).link, rfl, rfl⟩
  · exact ⟨rfl, rfl, rfl⟩

/-- A refusal that marks the overflow list is a cause of evaluation; one that changes nothing is none (R91). -/
theorem Ssv.refused_spec {q r : Ssv} {id speed : Nat}
    (hr : r = if q.refuseRestriction id speed ≠ q then (q.refuseRestriction id speed).cause else q.refuseRestriction id speed) :
    r.restrictions = q.restrictions ∧ r.overflow = (q.refuseRestriction id speed).overflow ∧
    r.saturated = (q.refuseRestriction id speed).saturated ∧
    (r.overflow ≠ q.overflow ∨ r.saturated ≠ q.saturated → r.waiting.cause = true) ∧
    (r.overflow = q.overflow → r.saturated = q.saturated → r.waiting = q.waiting) := by
  have hframe := q.refuseRestriction_frame (id := id) (speed := speed)
  have hrest : (q.refuseRestriction id speed).restrictions = q.restrictions := (congrArg Ssv.restrictions hframe :)
  by_cases hsame : q.refuseRestriction id speed = q
  · rw [if_neg (not_not_intro hsame)] at hr
    rw [hr, hsame]
    exact ⟨rfl, rfl, rfl, fun h => (h.elim (absurd rfl) (absurd rfl)), fun _ _ => rfl⟩
  · rw [if_pos hsame] at hr
    refine hr ▸ ⟨hrest, rfl, rfl, fun _ => rfl, fun hover hsat => absurd ?_ hsame⟩
    have hover : (q.refuseRestriction id speed).overflow = q.overflow := hover
    have hsat : (q.refuseRestriction id speed).saturated = q.saturated := hsat
    rw [hframe, hover, hsat]

/-- Settles O55: the block's result in each case (R85 to R89), with what `handLists` hands on of it (R91). -/
theorem restrictionsAreListed : Obligations.RestrictionsAreListed := by
  intro via id low high speed appliesTo s hr q kmh left saturatedAfter ended framed
  refine ⟨fun hreach => ?add,
    fun hreach => ⟨fun hbad => ?cancelRange, fun h1 h255 hres hover => ?absent, fun h1 h255 hin => ?found⟩⟩
  case' add =>
    intro i inRange
    refine ⟨fun hbad => ?range, fun a hin ha => ⟨fun hroom => ?taken, fun hother hlong => ?full⟩⟩
  case range => rw [exec_restrictionAdd hr hreach, restrictionAdd_range hbad]
  case taken =>
    have hrun := exec_restrictionAdd hr hreach
    have honly := restrictionAdd_listsOnly id low high speed appliesTo .cab s.car
    rw [restrictionAdd_taken hin ha hroom] at hrun honly
    have hhand := handLists_shrunk (c := s.car) (q := q.acceptRestriction ⟨id, low, high, min 40 speed, a⟩ .cab)
      (withoutOverflow_of_nil id)
    rw [hhand] at hrun honly
    exact ⟨_, hrun, ⟨rfl, honly.framed via 24 _ rfl⟩, rfl, rfl, fun r => Ssv.mem_acceptRestriction .., rfl, rfl, rfl⟩
  case full =>
    have hrun := exec_restrictionAdd hr hreach
    have honly := restrictionAdd_listsOnly id low high speed appliesTo .cab s.car
    rw [restrictionAdd_full hin ha hother hlong] at hrun honly
    obtain ⟨hlink, hevr, hssv⟩ := handLists_refused s.car id kmh rfl
    obtain ⟨hheld, hnew, hfour, -, -⟩ := q.refuseRestriction_spec id kmh
    obtain ⟨hrest, hover, hsat, hcause, hkept⟩ := Ssv.refused_spec hssv
    refine ⟨_, hrun, ⟨rfl, honly.framed via 24 _ hlink⟩, hrest, fun hin => ?_, fun hnone hshort => ?_, fun hnone hlong => ?_,
      hcause, hkept, hevr⟩
    · exact ⟨hsat.trans (congrArg Ssv.saturated (hheld hin) :), hover.trans (congrArg Ssv.overflow (hheld hin) :)⟩
    · exact ⟨hover.trans (congrArg Ssv.overflow (hnew hnone hshort) :),
        hsat.trans (congrArg Ssv.saturated (hnew hnone hshort) :)⟩
    · exact ⟨hover.trans (congrArg Ssv.overflow (hfour hnone hlong) :),
        hsat.trans (congrArg Ssv.saturated (hfour hnone hlong) :)⟩
  case cancelRange => rw [exec_restrictionCancel hr hreach, restrictionCancel_range hbad]
  case absent => rw [exec_restrictionCancel hr hreach, restrictionCancel_absent (by omega) hres hover]
  case found =>
    have hrun := exec_restrictionCancel hr hreach
    have honly := restrictionCancel_listsOnly id s.car
    rw [restrictionCancel_found (by omega) hin] at hrun honly
    have hhand := handLists_shrunk (c := s.car) (q := { q with
      restrictions := withoutRestriction id q.restrictions
      overflow := withoutOverflow id q.overflow
      saturated := q.saturated && !(withoutOverflow id q.overflow).isEmpty }) (withoutOverflow_of_nil id)
    rw [hhand] at hrun honly
    exact ⟨_, hrun, ⟨rfl, honly.framed via 25 _ rfl⟩, rfl, rfl, rfl, rfl, rfl, rfl⟩

end Sys2Proof.Machine
end

section
/-! POSITION SET, marker reads (R54 to R56), and the shadow test that position changes make (R156). -/

namespace Sys2Proof.Machine

/-! ## Markers stored (R17) -/

section Markers
variable {t : List Segment} {id : Nat}

theorem findMarker_eq_none (h : ∀ g ∈ t, ∀ m ∈ g.markers, m.id ≠ id) : findMarker t id = none := by
  refine List.findSome?_eq_none_iff.2 fun g hg => ?_
  rw [List.find?_eq_none.2 fun m hm => by simpa only [beq_iff_eq] using h g hg m hm]
  rfl

theorem findMarker_spec {mp k : Nat} (h : findMarker t id = some (mp, k)) :
    ∃ g ∈ t, ∃ m ∈ g.markers, m.id = id ∧ mp = g.low + m.offset := by
  obtain ⟨g, hg, hfound⟩ := List.exists_of_findSome?_eq_some h
  obtain ⟨m, hm, heq⟩ := Option.map_eq_some_iff.1 hfound
  exact ⟨g, hg, m, List.mem_of_find?_eq_some hm, 
    beq_iff_eq.1 (List.find?_some (p := fun m : MarkerField => m.id == id) hm), (congrArg Prod.fst heq).symm⟩

theorem findMarker_isSome {g : Segment} {m : MarkerField} (hg : g ∈ t) (hm : m ∈ g.markers) (hid : m.id = id) :
    ∃ mp k, findMarker t id = some (mp, k) := by
  cases h : findMarker t id with
  | some x => exact ⟨x.1, x.2, rfl⟩
  | none =>
    have hnone := List.find?_eq_none.1 (Option.map_eq_none_iff.1 (List.findSome?_eq_none_iff.1 h g hg)) m hm
    exact absurd (beq_iff_eq.2 hid) hnone

end Markers

/-! ## A fix (R54, R56) -/

/-- The part with a fix written and the whole centimetres of every accumulator discarded. -/
def Car.fixedAt (c : Car) (pos unc : Nat) (fix : Fix) : Car :=
  discardWhole { c with odo := { c.odo with position := ⟨.known, pos, unc, unc, 0, 0, some fix⟩ } }

section Fix
variable {c : Car} {l : Lif} (hi : Intact c) (pos unc : Nat) (fix : Fix)
include hi

theorem Intact.takeFix : takeFix pos unc fix c = { c with
    odo := { c.odo with
      position := ⟨.known, pos, unc, unc, 0, 0, some fix⟩
      channels := c.odo.channels.map OdoChannel.takeWhole }
    pst := { c.pst with
      coverage := coverageOf c.pst.readable ⟨.known, pos, unc, unc, 0, 0, some fix⟩ c.lif.params.carLength c.odo.travelRef }
    ssv := c.ssv.cause
    vrl := (Machine.takeFix pos unc fix c).vrl } := by
  have hfixed : Intact (c.fixedAt pos unc fix) := hi
  exact positionChanged_frame hfixed

theorem Intact.takeFix_withLif (h : c.lif.SameCar l) :
    Machine.takeFix pos unc fix (c.withLif l) = (Machine.takeFix pos unc fix c).withLif l := by
  have hfixed : Intact (c.fixedAt pos unc fix) := hi
  exact positionChanged_withLif (c := c.fixedAt pos unc fix) h hfixed

end Fix

section Commands
variable {s : State} (hr : Ready s) (hi : Intact s.car)
include hr hi

/-- POSITION SET answers its result, and a fix leaves the outputs alone. -/
theorem Ready.positionSet {via : Via} {pos : Nat} (h : Reaches via (.positionSet pos) s.car) :
    exec (.positionSet via pos) s =
      .next ⟨replied via 3 (positionSet pos s.car).1 [.none] (positionSet pos s.car).2, s.pending⟩ := by
  have hlif (n : Nat) : s.car.lif.SameCar { s.car.lif with reservedReplies := n } := ⟨rfl, rfl⟩
  have hfix := hi.takeFix pos s.car.lif.params.setUnc (.set s.car.now)
  have hmove (n : Nat) := hi.takeFix_withLif pos s.car.lif.params.setUnc (.set s.car.now) (hlif n)
  have hreserve (n : Nat) : (Machine.takeFix pos s.car.lif.params.setUnc (.set s.car.now) s.car).withLif
      { s.car.lif with reservedReplies := n } =
        (Machine.takeFix pos s.car.lif.params.setUnc (.set s.car.now) s.car).reserving n := by
    rw [hfix]
    rfl
  by_cases hpos : lineEnd < pos
  · rw [Machine.positionSet, if_pos hpos]
    refine exec_eq_replied rfl hr h (by simp [telegramKind]) hr fun n => ?_
    exact congrArg (reply via 3) (if_pos hpos)
  · by_cases hstand : (!s.car.odo.standstill) = true
    · rw [Machine.positionSet, if_neg hpos, if_pos hstand]
      refine exec_eq_replied rfl hr h (by simp [telegramKind]) hr fun n => ?_
      exact congrArg (reply via 3) ((if_neg hpos).trans (if_pos hstand))
    · rw [Machine.positionSet, if_neg hpos, if_neg hstand]
      refine exec_eq_replied_quiet rfl hr h (by simp [telegramKind]) (by rw [hfix]; exact hr.unreserved) (by rw [hfix])
        (by rw [hfix]) (by rw [hfix]) (by rw [hfix]; rfl) fun n => ?_
      have htaken : Machine.positionSet pos (s.car.reserving n) =
          (.accepted, Machine.takeFix pos s.car.lif.params.setUnc (.set s.car.now) (s.car.reserving n)) :=
        (if_neg hpos).trans (if_neg hstand)
      have hmoved : Machine.takeFix pos s.car.lif.params.setUnc (.set s.car.now) (s.car.reserving n) =
          (Machine.takeFix pos s.car.lif.params.setUnc (.set s.car.now) s.car).reserving n := (hmove n).trans (hreserve n)
      show reply via 3 (Machine.positionSet pos (s.car.reserving n)) = _
      rw [htaken, hmoved]
      rfl

theorem Ready.positionSet_range {via : Via} {pos : Nat} (h : Reaches via (.positionSet pos) s.car) (hpos : 1999999 < pos) :
    exec (.positionSet via pos) s = .next ⟨replied via 3 .range [.none] s.car, s.pending⟩ := by
  rw [hr.positionSet hi h, Machine.positionSet, if_pos (show lineEnd < pos from hpos)]

/-- A POSITION SET that is taken. -/
theorem Ready.positionSet_taken {via : Via} {pos : Nat} (h : Reaches via (.positionSet pos) s.car) (hpos : pos ≤ 1999999)
    (hstand : s.car.odo.standstill = true) : exec (.positionSet via pos) s = .next ⟨replied via 3 .accepted [.none]
      (takeFix pos s.car.lif.params.setUnc (.set s.car.now) s.car), s.pending⟩ := by
  have hin : ¬ lineEnd < pos := Nat.not_lt.2 hpos
  rw [hr.positionSet hi h, Machine.positionSet, if_neg hin, if_neg (by rw [hstand]; decide)]

/-- A message whose check holds, by what the stored markers say of its id. -/
theorem Ready.markerRead {id : Nat} (h1 : 1 ≤ id) (h4095 : id ≤ 4095) :
    exec (.markerRead id true) s = .next (s.run fun c => judgeMarker id c) := by
  refine congrArg Host.Outcome.next ?_
  rw [hr.run, hr.run]
  have hread : Machine.markerRead id true s.car = judgeMarker id (readTable s.car) := if_pos ⟨rfl, h1, h4095⟩
  rw [hread, hi.readTable]

end Commands

/-! ## A marker judged (R56) -/

section Judged
variable {c : Car} {id mp k : Nat}

theorem judgeMarker_unknown (h : findMarker c.pst.readable id = none) : judgeMarker id c = occur .markerUnknown id c := by
  simp only [judgeMarker, h]

theorem judgeMarker_conflict (h : findMarker c.pst.readable id = some (mp, k))
    (hout : c.odo.position.state = .known ∧
      c.odo.position.unc + c.lif.params.markerTol < ((mp : Int) - c.odo.position.pos).natAbs) :
    judgeMarker id c = markerConflict id c := by
  simp only [judgeMarker, h, if_pos hout]

theorem judgeMarker_fix (h : findMarker c.pst.readable id = some (mp, k))
    (hin : ¬ (c.odo.position.state = .known ∧
      c.odo.position.unc + c.lif.params.markerTol < ((mp : Int) - c.odo.position.pos).natAbs)) :
    judgeMarker id c = takeFix mp c.lif.params.markerTol (.marker c.now id) c := by
  simp only [judgeMarker, h, if_neg hin]

/-- The part with the second conflict in a row reported and its position given up. -/
def Car.disproved (c : Car) (id : Nat) : Car :=
  occur .positionLost 3 { occur .markerConflict id c with odo := { c.odo with
    position := { c.odo.position with conflicts := 0, state := .lost } } }

theorem markerConflict_first (h : c.odo.position.conflicts = 0) : markerConflict id c = { occur .markerConflict id c with
    odo := { c.odo with position := { c.odo.position with conflicts := 1 } } } := by
  have hfirst : (occur .markerConflict id c).odo.position.conflicts + 1 < 2 := by
    rw [occur_odo, h]
    decide
  refine (if_pos hfirst).trans ?_
  rw [occur_odo, h]

theorem markerConflict_second (h : c.odo.position.conflicts ≠ 0) : markerConflict id c = positionChanged (c.disproved id) := by
  have hsecond : ¬ (occur .markerConflict id c).odo.position.conflicts + 1 < 2 := by
    rw [occur_odo]
    omega
  exact if_neg hsecond

theorem coverageOf_lost (t : List Segment) {p : PositionRecord} (h : p.state = .lost) (carLength : Nat) (ahead : Option Sense) :
    coverageOf t p carLength ahead = none := by
  unfold coverageOf
  rw [h]

theorem Intact.disproved (h : Intact c) : positionChanged (c.disproved id) = { c.disproved id with
    pst := { c.pst with coverage := none }
    ssv := c.ssv.cause
    vrl := (positionChanged (c.disproved id)).vrl } := by
  have hdisproved : Intact (c.disproved id) := h
  have hcoverage := coverageOf_lost (c.disproved id).pst.readable (p := (c.disproved id).odo.position) rfl
    (c.disproved id).lif.params.carLength (c.disproved id).odo.travelRef
  have hframe := positionChanged_frame hdisproved
  rw [hcoverage] at hframe
  exact hframe

end Judged

/-! ## Fixes (O51) -/

section Fixes
variable {s : State} (hr : Ready s) (hi : Intact s.car)

include hr in
/-- A message whose check fails, or of an id that no marker has (R55). -/
theorem Ready.markerRead_error {id : Nat} {ok : Bool} (h : ok = false ∨ id < 1 ∨ 4095 < id) : exec (.markerRead id ok) s =
    .next ⟨{ s.car with odo := { s.car.odo with markerErrors := min 65535 (s.car.odo.markerErrors + 1) } }, s.pending⟩ := by
  have hbad : ¬ (ok = true ∧ 1 ≤ id ∧ id ≤ 4095) := by
    rintro ⟨hok, h1, h4095⟩
    rcases h with h | h
    · rw [h] at hok
      cases hok
    · omega
  exact hr.next_quiet (f := Machine.markerRead id ok) rfl (if_neg hbad) rfl rfl rfl rfl

include hr hi

theorem Ready.markerRead_quiet {id : Nat} (h1 : 1 ≤ id) (h4095 : id ≤ 4095) {d : Car} (hd : judgeMarker id s.car = d)
    (hdor : d.dor = s.car.dor) (hbrk : d.brk = s.car.brk) (hfused : d.odo.fused = s.car.odo.fused)
    (hhold : d.ssv.record.hold = s.car.ssv.record.hold) : exec (.markerRead id true) s = .next ⟨d, s.pending⟩ :=
  hr.next_quiet (hr.markerRead hi h1 h4095) hd hdor hbrk hfused hhold

/-- The second conflict in a row (R56). -/
theorem Ready.markerRead_lost {id mp k : Nat} (h1 : 1 ≤ id) (h4095 : id ≤ 4095)
    (hfound : findMarker s.car.pst.readable id = some (mp, k)) (hout : s.car.odo.position.state = .known ∧
      s.car.odo.position.unc + s.car.lif.params.markerTol < ((mp : Int) - s.car.odo.position.pos).natAbs)
    (hconflicts : s.car.odo.position.conflicts ≠ 0) :
    exec (.markerRead id true) s = .next ⟨positionChanged (s.car.disproved id), s.pending⟩ := by
  have hjudged := (judgeMarker_conflict hfound hout).trans (markerConflict_second hconflicts)
  have hframe := hi.disproved (id := id)
  exact hr.markerRead_quiet hi h1 h4095 hjudged (congrArg Car.dor hframe :) (congrArg Car.brk hframe :)
    (congrArg (·.odo.fused) hframe :) (congrArg (·.ssv.record.hold) hframe :)

/-- A marker that is a fix (R56). -/
theorem Ready.markerRead_fix {id mp k : Nat} (h1 : 1 ≤ id) (h4095 : id ≤ 4095)
    (hfound : findMarker s.car.pst.readable id = some (mp, k)) (hin : ¬ (s.car.odo.position.state = .known ∧
      s.car.odo.position.unc + s.car.lif.params.markerTol < ((mp : Int) - s.car.odo.position.pos).natAbs)) :
    exec (.markerRead id true) s =
      .next ⟨takeFix mp s.car.lif.params.markerTol (.marker s.car.now id) s.car, s.pending⟩ := by
  have hframe := hi.takeFix mp s.car.lif.params.markerTol (.marker s.car.now id)
  exact hr.markerRead_quiet hi h1 h4095 (judgeMarker_fix hfound hin) (congrArg Car.dor hframe :) (congrArg Car.brk hframe :)
    (congrArg (·.odo.fused) hframe :) (congrArg (·.ssv.record.hold) hframe :)

end Fixes

/-- Settles O51: `judgeMarker` and `positionSet` case by case, each followed by `positionChanged_frame`. -/
theorem fixesSetThePosition : Obligations.FixesSetThePosition := by
  intro via position id ok s hr hi o p params moved
  have hmem := hi.mem_readable
  refine ⟨fun hreach => ⟨hr.positionSet_range hi hreach, fun hpos hstand => ?stand, fun hpos hstand => ?set⟩,
    hr.markerRead_error, fun hok h1 h4095 hnone => ?unknown, fun g m hok h1 h4095 hg hread hm hid hunique => ?found⟩
  case stand =>
    have hin : ¬ lineEnd < position := Nat.not_lt.2 hpos
    have hmoving : (!s.car.odo.standstill) = true := by rw [show s.car.odo.standstill = false from hstand]; rfl
    rw [hr.positionSet hi hreach, Machine.positionSet, if_neg hin, if_pos hmoving]
  case set =>
    have hrun := hr.positionSet_taken hi hreach hpos hstand
    have hframe := hi.takeFix position s.car.lif.params.setUnc (.set s.car.now)
    rw [hframe] at hrun
    have htraffic := s.car.lif.answered_traffic
      (takeFix position s.car.lif.params.setUnc (.set s.car.now) s.car).vrl.link via 3 .accepted [.none]
    exact ⟨_, hrun, ⟨rfl, rfl, rfl, rfl, rfl, rfl, rfl, (congrArg Lif.params htraffic :), (congrArg Lif.demand htraffic :),
      (congrArg Lif.carNumber htraffic :)⟩, rfl, Lif.answered_frames ..⟩
  case unknown =>
    subst hok
    exact hr.markerRead_quiet hi h1 h4095 (judgeMarker_unknown (findMarker_eq_none fun g hg =>
      hnone g ((hmem g).1 hg).1 ((hmem g).1 hg).2)) rfl rfl rfl rfl
  case' found =>
    subst hok
    intro mp off
    obtain ⟨mq, k, hfound⟩ := findMarker_isSome ((hmem g).2 ⟨hg, hread⟩) hm hid
    obtain ⟨g', hg', m', hm', hid', hmq⟩ := findMarker_spec hfound
    have hmp : mq = mp := hmq.trans (hunique g' ((hmem g').1 hg').1 ((hmem g').1 hg').2 m' hm' hid')
    subst hmp
    refine ⟨fun hknown hout hzero => ?first, fun hknown hout hsecond => ?second, fun hin => ?fix⟩
  case first =>
    exact hr.markerRead_quiet hi h1 h4095
      ((judgeMarker_conflict hfound ⟨hknown, hout⟩).trans (markerConflict_first hzero)) rfl rfl rfl rfl
  case second =>
    have hrun := hr.markerRead_lost hi h1 h4095 hfound ⟨hknown, hout⟩ hsecond
    rw [hi.disproved] at hrun
    exact ⟨_, hrun, rfl, rfl, rfl, rfl, rfl, rfl, rfl, rfl, rfl⟩
  case fix =>
    have hwindow : ¬ (p.state = .known ∧ p.unc + params.markerTol < off) := fun h => hin.elim (· h.1) (Nat.not_le.2 h.2)
    have hrun := hr.markerRead_fix hi h1 h4095 hfound hwindow
    rw [hi.takeFix] at hrun
    exact ⟨_, hrun, rfl, rfl, rfl, rfl, rfl, rfl, rfl, rfl, rfl, rfl, rfl, rfl⟩

end Sys2Proof.Machine
end

section
/-! The shadow test of each position change (R156, O52). -/

namespace Sys2Proof.Machine

/-! ## The finding -/

/-- Two link records apart by the report queue and the modem alone, and not at all in a follower. -/
structure Vrl.Quiet (v w : Vrl) : Prop where
  link : v.SameLink w
  follower : v.role = .follower → w = v

theorem Vrl.Quiet.refl (v : Vrl) : v.Quiet v := ⟨.refl v, fun _ => rfl⟩

theorem Vrl.Quiet.trans {u v w : Vrl} (h : u.Quiet v) (k : v.Quiet w) : u.Quiet w := by
  have hrole : v.role = u.role := by rw [h.link]
  exact ⟨h.link.trans k.link, fun hu => (k.follower (hrole.trans hu)).trans (h.follower hu)⟩

theorem HandsOn.quiet {sources : List Nat} {causes : List Cause} {c d : Car} (h : HandsOn sources causes c d) : c.vrl.Quiet d.vrl :=
  ⟨h.link, h.follower⟩

theorem settle_quiet (c : Car) : c.vrl.Quiet (settle c).vrl := (dorJudge_handsOn c).quiet

/-- What the shadow test does to the link record of the radio car. -/
def Vrl.shadowFound (v : Vrl) (stands : Bool) (p : Params) : Vrl :=
  if v.link = .linked ∧ stands = true then
    { v with shadowStands := stands, supervision := none, shadow := some ⟨0, p.tShadowMax⟩, link := .shadow }
  else if v.link = .shadow ∧ stands = false then
    { v with shadowStands := stands, shadow := none, link := .linked, supervision := some ⟨0, p.tRs⟩ }
  else { v with shadowStands := stands }

theorem shadowFound_vrl (stands : Bool) (c : Car) :
    (shadowFound stands c).vrl = c.vrl.shadowFound stands c.lif.params := by
  unfold shadowFound Vrl.shadowFound
  by_cases hlinked : c.vrl.link = .linked ∧ stands = true
  · rw [if_pos hlinked, if_pos hlinked]
    simp only [enterShadow, setLink, hlinked.1,
      show (LinkState.linked == .lost) = (LinkState.shadow == .lost) from rfl, if_true]
  · rw [if_neg hlinked, if_neg hlinked]
    by_cases hshadow : c.vrl.link = .shadow ∧ stands = false
    · rw [if_pos hshadow, if_pos hshadow]
      simp only [startSupervision, setLink, hshadow.1,
        show (LinkState.shadow == .lost) = (LinkState.linked == .lost) from rfl, if_true]
    · rw [if_neg hshadow, if_neg hshadow]

theorem Segment.overlaps_iff (x : Segment) (lo hi : Int) :
    x.overlaps lo hi = true ↔ (x.low : Int) ≤ hi ∧ lo ≤ (x.low : Int) + x.length - 1 := decide_eq_true_iff

theorem shadowOver_iff (t : List Segment) (p : PositionRecord) (carLength : Nat) : shadowOver t p carLength = true ↔
    p.state ≠ .unknown ∧ ∃ x ∈ t, x.shadow = true ∧ (x.low : Int) ≤ (p.pos : Int) + p.unc + (carLength / 2 : Nat) ∧
      (p.pos : Int) - p.unc - (carLength / 2 : Nat) ≤ (x.low : Int) + x.length - 1 := by
  simp only [shadowOver, segmentsOver, Bool.and_eq_true, decide_eq_true_eq, List.any_eq_true, List.mem_filter, Segment.overlaps_iff,
    extentLow, extentHigh, and_assoc]
  exact and_congr_right fun _ => exists_congr fun x => and_congr_right fun _ => by rw [← and_assoc, and_comm]

/-- The link record after the shadow test, by what stood before and what the test finds (R156). -/
def Vrl.ShadowTested (v r : Vrl) (p : Params) (stands : Prop) : Prop :=
  (v.role = .follower → r = v) ∧
  (v.role = .radio →
    (r.shadowStands = true ↔ stands) ∧
    (v.link = .linked → stands → r.link = .shadow ∧ r.supervision = none ∧ r.shadow = some ⟨0, p.tShadowMax⟩) ∧
    (v.link = .shadow → ¬ stands → r.link = .linked ∧ r.supervision = some ⟨0, p.tRs⟩ ∧ r.shadow = none) ∧
    (¬ (v.link = .linked ∧ stands) → ¬ (v.link = .shadow ∧ ¬ stands) →
      r.link = v.link ∧ r.supervision = v.supervision ∧ r.shadow = v.shadow) ∧
    r.role = .radio ∧ r.station = v.station ∧ r.stopNumber = v.stopNumber ∧ r.recent = v.recent ∧
    r.statusTimer = v.statusTimer ∧ r.reportTimer = v.reportTimer ∧ r.invalidFrames = v.invalidFrames)

theorem Vrl.shadowFound_tested {v : Vrl} (hrole : v.role = .radio) (p : Params) (stands : Bool) :
    v.ShadowTested (v.shadowFound stands p) p (stands = true) := by
  refine ⟨fun h => absurd (hrole.symm.trans h) nofun, fun _ => ?_⟩
  unfold Vrl.shadowFound
  by_cases hlinked : v.link = .linked ∧ stands = true
  · rw [if_pos hlinked]
    exact ⟨.rfl, fun _ _ => ⟨rfl, rfl, rfl⟩,
      fun h => absurd (hlinked.1.symm.trans h) nofun,
      fun h => absurd hlinked h, hrole, rfl, rfl, rfl,
      rfl, rfl, rfl⟩
  · rw [if_neg hlinked]
    by_cases hshadow : v.link = .shadow ∧ stands = false
    · rw [if_pos hshadow]
      exact ⟨.rfl, fun h => absurd (hshadow.1.symm.trans h) nofun, fun _ _ => ⟨rfl, rfl, rfl⟩,
        fun _ h => absurd ⟨hshadow.1, ne_true_of_eq_false hshadow.2⟩ h, hrole, rfl, rfl, rfl, rfl, rfl, rfl⟩
    · rw [if_neg hshadow]
      exact ⟨.rfl, fun h k => absurd ⟨h, k⟩ hlinked, fun h k => absurd ⟨h, Bool.eq_false_of_not_eq_true k⟩ hshadow,
        fun _ _ => ⟨rfl, rfl, rfl⟩, hrole, rfl, rfl, rfl, rfl, rfl, rfl⟩

/-- What goes on in the reports before and after the test touches nothing that it speaks of. -/
theorem Vrl.ShadowTested.of_quiet {u v w r : Vrl} {p : Params} {stands : Prop} (hu : u.Quiet v) (h : v.ShadowTested w p stands)
    (hr : w.Quiet r) : u.ShadowTested r p stands := by
  obtain ⟨hfollower, hradio⟩ := h
  have hrole : v.role = u.role := by rw [hu.link]
  refine ⟨fun h => ?_, fun h => ?_⟩
  · have hwu : w = u := (hfollower (hrole.trans h)).trans (hu.follower h)
    exact (hr.follower (by rw [hwu, h])).trans hwu
  · have hradio := hradio (hrole.trans h)
    rw [hu.link] at hradio
    rw [hr.link]
    exact hradio

/-- The shadow test of a position change, among whatever else the command hands on. -/
theorem Intact.shadowTested {c : Car} (h : Intact c) {v r : Vrl} (hv : v.Quiet c.vrl) (hr : (shadowTest c).vrl.Quiet r) :
    v.ShadowTested r c.lif.params (shadowOver c.pst.readable c.odo.position c.lif.params.carLength = true) := by
  refine Vrl.ShadowTested.of_quiet hv ?_ hr
  rw [shadowTest_intact h]
  cases hrole : c.vrl.role with
  | radio =>
    rw [if_pos rfl, shadowFound_vrl]
    exact Vrl.shadowFound_tested hrole ..
  | follower =>
    rw [if_neg nofun]
    exact ⟨fun _ => rfl, fun h => absurd (hrole.symm.trans h) nofun⟩

theorem Intact.positionChanged_tested {c : Car} (h : Intact c) {v : Vrl} (hv : v.Quiet c.vrl) :
    v.ShadowTested (positionChanged c).vrl c.lif.params
      (shadowOver c.pst.readable c.odo.position c.lif.params.carLength = true) := by
  have hcovered : Intact { c with pst := { c.pst with
    coverage := coverageOf c.pst.readable c.odo.position c.lif.params.carLength c.odo.travelRef }, ssv := c.ssv.cause } := h
  unfold positionChanged
  rw [h.refreshCoverage]
  exact hcovered.shadowTested hv (.refl _)

/-! ## The commands that test it (O52) -/

/-- What O52 says of one command: the link record that it leaves was tested against the position it leaves. -/
def ShadowTestedBy (s : State) (i : Instr) : Prop := ∃ t, exec i s = .next t ∧ t.pending = s.pending ∧
  s.car.vrl.ShadowTested t.car.vrl s.car.lif.params
    (shadowOver s.car.pst.readable t.car.odo.position s.car.lif.params.carLength = true)

section Tested
variable {s : State} (hr : Ready s) (hi : Intact s.car)
include hr hi

theorem shadowTestedBy_update : ShadowTestedBy s .odometryUpdate := by
  have hupdated : Intact s.car.updated := hi
  have hposition : (settle (odometryUpdate s.car)).odo.position = s.car.updated.odo.position := by
    rw [settle_frame, hi.odometryUpdate_frame]
  have hlif : s.car.updated.lif = s.car.lif := (congrArg Car.lif s.car.updated_frame :)
  have htable : s.car.updated.pst.table = s.car.pst.table := rfl
  refine ⟨_, exec_odometryUpdate hr, rfl, ?_⟩
  have htested := hupdated.shadowTested (v := s.car.vrl) (r := (settle (odometryUpdate s.car)).vrl)
    (s.car.conditioned_handsOn).quiet (by rw [← hi.odometryUpdate]; exact settle_quiet _)
  rw [hlif, ← hposition, show s.car.updated.pst.readable = s.car.pst.readable from rfl] at htested
  exact htested

theorem shadowTestedBy_set {via : Via} {pos : Nat} (h : Reaches via (.positionSet pos) s.car) (hpos : pos ≤ 1999999)
    (hstand : s.car.odo.standstill = true) : ShadowTestedBy s (.positionSet via pos) := by
  refine ⟨_, hr.positionSet_taken hi h hpos hstand, rfl, ?_⟩
  have hfixed : Intact (s.car.fixedAt pos s.car.lif.params.setUnc (.set s.car.now)) := hi
  have hposition : (takeFix pos s.car.lif.params.setUnc (.set s.car.now) s.car).odo.position =
      (s.car.fixedAt pos s.car.lif.params.setUnc (.set s.car.now)).odo.position := by rw [hi.takeFix]; rfl
  show s.car.vrl.ShadowTested _ _ (shadowOver _ (takeFix pos s.car.lif.params.setUnc (.set s.car.now) s.car).odo.position _ = true)
  rw [hposition]
  exact hfixed.positionChanged_tested (.refl _)

theorem shadowTestedBy_marker {id mp k : Nat} (h1 : 1 ≤ id) (h4095 : id ≤ 4095)
    (hfound : findMarker s.car.pst.readable id = some (mp, k)) (hchange : s.car.odo.position.state ≠ .known ∨
      ((mp : Int) - s.car.odo.position.pos).natAbs ≤ s.car.odo.position.unc + s.car.lif.params.markerTol ∨
      s.car.odo.position.conflicts ≠ 0) : ShadowTestedBy s (.markerRead id true) := by
  by_cases hout : s.car.odo.position.state = .known ∧
      s.car.odo.position.unc + s.car.lif.params.markerTol < ((mp : Int) - s.car.odo.position.pos).natAbs
  · have hconflicts : s.car.odo.position.conflicts ≠ 0 :=
      (hchange.resolve_left (not_not_intro hout.1)).resolve_left (Nat.not_le.2 hout.2)
    refine ⟨_, hr.markerRead_lost hi h1 h4095 hfound hout hconflicts, rfl, ?_⟩
    have hdisproved : Intact (s.car.disproved id) := hi
    have hposition : (positionChanged (s.car.disproved id)).odo.position = (s.car.disproved id).odo.position := by
      rw [hi.disproved]
    show s.car.vrl.ShadowTested _ _ (shadowOver _ (positionChanged (s.car.disproved id)).odo.position _ = true)
    rw [hposition]
    refine hdisproved.positionChanged_tested (.trans (occur_handsOn s.car .markerConflict id).quiet ?_)
    exact (occur_handsOn { occur .markerConflict id s.car with odo := (s.car.disproved id).odo } .positionLost 3).quiet
  · refine ⟨_, hr.markerRead_fix hi h1 h4095 hfound hout, rfl, ?_⟩
    have hfixed : Intact (s.car.fixedAt mp s.car.lif.params.markerTol (.marker s.car.now id)) := hi
    have hposition : (takeFix mp s.car.lif.params.markerTol (.marker s.car.now id) s.car).odo.position =
        (s.car.fixedAt mp s.car.lif.params.markerTol (.marker s.car.now id)).odo.position := by rw [hi.takeFix]; rfl
    show s.car.vrl.ShadowTested _ _
      (shadowOver _ (takeFix mp s.car.lif.params.markerTol (.marker s.car.now id) s.car).odo.position _ = true)
    rw [hposition]
    exact hfixed.positionChanged_tested (.refl _)

end Tested

/-- Settles O52: `shadowTest` is the last word of each of the three commands on the link state. -/
theorem shadowIsTested : Obligations.ShadowIsTested := by
  intro i via position id s hr hi p params hcommand
  have htested : ShadowTestedBy s i := by
    rcases hcommand with rfl | ⟨rfl, hreach, hpos, hstand⟩ | ⟨rfl, h1, h4095, mp, k, hfound, hchange⟩
    · exact shadowTestedBy_update hr hi
    · exact shadowTestedBy_set hr hi hreach hpos hstand
    · exact shadowTestedBy_marker hr hi h1 h4095 hfound hchange
  obtain ⟨t, hrun, hpending, htested⟩ := htested
  refine ⟨t, hrun, hpending, ?_⟩
  intro v r q half stands
  have hstands : shadowOver s.car.pst.readable q params.carLength = true ↔ stands := by
    simp only [shadowOver_iff, hi.mem_readable, and_assoc]
    exact .rfl
  rw [hstands] at htested
  exact htested

end Sys2Proof.Machine
end

section
/-! The odometry update's lookups and its steps (R44 to R59, O50). -/

namespace Sys2Proof.Machine

/-! ## The covered flag of an interval (R16) -/

theorem foldl_coverStep_ahead {t : List Segment} {lo : Int} (h : ∀ x ∈ t, lo < (x.low : Int)) : t.foldl coverStep lo = lo := by
  induction t with
  | nil => rfl
  | cons x t ih =>
    have hstep : coverStep lo x = lo := if_neg (Int.not_le.2 (h x List.mem_cons_self))
    rw [List.foldl_cons, hstep]
    exact ih fun y hy => h y (List.mem_cons_of_mem _ hy)

/-- Over a table in increasing order of low the fold reaches the first position at or above `lo` that no record holds. -/
theorem foldl_coverStep_spec {t : List Segment} (ht : t.Pairwise fun a b => a.low ≤ b.low) (lo : Int) :
    lo ≤ t.foldl coverStep lo ∧
    (∀ q, lo ≤ q → q < t.foldl coverStep lo → ∃ x ∈ t, (x.low : Int) ≤ q ∧ q ≤ (x.low : Int) + x.length - 1) ∧
    ∀ x ∈ t, ¬ ((x.low : Int) ≤ t.foldl coverStep lo ∧ t.foldl coverStep lo ≤ (x.low : Int) + x.length - 1) := by
  induction t generalizing lo with
  | nil => exact ⟨Int.le_refl _, fun q h k => absurd h (Int.not_le.2 k), nofun⟩
  | cons x t ih =>
    obtain ⟨hx, ht⟩ := List.pairwise_cons.1 ht
    by_cases hlow : (x.low : Int) ≤ lo
    · have hstep : coverStep lo x = max lo (x.high + 1) := if_pos hlow
      obtain ⟨hle, hheld, hfree⟩ := ih ht (coverStep lo x)
      have hedge : lo ≤ coverStep lo x ∧ (x.low : Int) + x.length ≤ coverStep lo x ∧
          (coverStep lo x = lo ∨ coverStep lo x = (x.low : Int) + x.length) := by
        rw [hstep, Segment.high]
        omega
      rw [List.foldl_cons]
      refine ⟨by omega, fun q hq hlt => ?_, fun y hy => ?_⟩
      · by_cases hin : coverStep lo x ≤ q
        · obtain ⟨y, hy, hpos⟩ := hheld q hin hlt
          exact ⟨y, List.mem_cons_of_mem _ hy, hpos⟩
        · exact ⟨x, List.mem_cons_self, by omega, by omega⟩
      · rcases List.mem_cons.1 hy with rfl | hy
        · omega
        · exact hfree y hy
    · have hahead : ∀ y ∈ x :: t, lo < (y.low : Int) := fun y hy => by
        rcases List.mem_cons.1 hy with rfl | hy
        · omega
        · have := hx y hy
          omega
      rw [foldl_coverStep_ahead hahead]
      exact ⟨Int.le_refl _, fun q h k => absurd h (Int.not_le.2 k), fun y hy hin => absurd hin.1 (Int.not_le.2 (hahead y hy))⟩

theorem covered_iff {t : List Segment} (ht : t.Pairwise fun a b => a.low ≤ b.low) (lo hi : Int) : covered t lo hi = true ↔
    ∀ q, lo ≤ q → q ≤ hi → ∃ x ∈ t, (x.low : Int) ≤ q ∧ q ≤ (x.low : Int) + x.length - 1 := by
  obtain ⟨hle, hheld, hfree⟩ := foldl_coverStep_spec ht lo
  refine decide_eq_true_iff.trans ⟨fun h q hq hqi => hheld q hq (by omega), fun h => Int.not_le.1 fun hlt => ?_⟩
  obtain ⟨x, hx, hin⟩ := h _ hle hlt
  exact hfree x hx hin

/-! ## The kinds of track under the extent (R18) -/

section Kinds
variable (t : List Segment) (p : PositionRecord) (carLength : Nat)

/-- A kind of track under the extent of a position that is not UNKNOWN. -/
def Under (kind : TrackKind) : Prop := p.state ≠ .unknown ∧
  ∃ x ∈ t, x.kind = kind ∧ (x.low : Int) ≤ extentHigh p carLength ∧ extentLow p carLength ≤ (x.low : Int) + x.length - 1

/-- An extent of which every position is stored. -/
def Stored : Prop := p.state ≠ .unknown ∧ ∀ q : Int, extentLow p carLength ≤ q → q ≤ extentHigh p carLength →
  ∃ x ∈ t, (x.low : Int) ≤ q ∧ q ≤ (x.low : Int) + x.length - 1

variable {t p carLength}

theorem any_kind_iff (kind : TrackKind) (h : p.state ≠ .unknown) :
    ((segmentsOver t (extentLow p carLength) (extentHigh p carLength)).any (·.kind == kind)) = true ↔
      Under t p carLength kind := by
  simp only [segmentsOver, List.any_eq_true, List.mem_filter, Segment.overlaps_iff, beq_iff_eq, and_assoc, Under]
  refine Iff.trans (exists_congr fun x => and_congr_right fun _ => ?_) (and_iff_right h).symm
  rw [← and_assoc, and_comm]

theorem kindSet_iff (ht : t.Pairwise fun a b => a.low ≤ b.low) :
    ((kindSet t p carLength).rack = true ↔ Under t p carLength .rack) ∧
    ((kindSet t p carLength).adhesion = true ↔ Under t p carLength .adhesion) ∧
    ((kindSet t p carLength).rackEntry = true ↔ Under t p carLength .rackEntry) ∧
    ((kindSet t p carLength).covered = true ↔ Stored t p carLength) := by
  unfold kindSet
  by_cases hu : p.state = .unknown
  · have hnone (kind : TrackKind) : false = true ↔ Under t p carLength kind := ⟨nofun, fun h => absurd hu h.1⟩
    rw [if_pos hu]
    exact ⟨hnone _, hnone _, hnone _, nofun, fun h => absurd hu h.1⟩
  · rw [if_neg hu]
    exact ⟨any_kind_iff _ hu, any_kind_iff _ hu, any_kind_iff _ hu, (covered_iff ht ..).trans (and_iff_right hu).symm⟩

end Kinds

/-! ## The channels in use (R46, R47) -/

/-- Which channels an active set holds: the cog channels on rack, the wheel channels on adhesion, and all of them else. -/
theorem activeSet_iff {state : PositionState} {k : KindSet} (hu : state = .unknown → k.covered = false) (ch : LoopChannel) :
    (activeSet state k).get ch = true ↔
      (¬ k.covered = true ∨ k.rackEntry = true ∨ (k.rack = true ↔ k.adhesion = true)) ∨
      (k.rack = true ∧ (ch = .cogA ∨ ch = .cogB)) ∨ (k.adhesion = true ∧ (ch = .wheelA ∨ ch = .wheelB)) := by
  obtain ⟨rack, adhesion, rackEntry, covered⟩ := k
  dsimp only at hu ⊢
  unfold activeSet
  by_cases hall : state = .unknown ∨ (!covered) = true ∨ rackEntry = true ∨ (rack = true ∧ adhesion = true)
  · rw [if_pos hall]
    refine iff_of_true (by cases ch <;> rfl) (.inl ?_)
    rcases hall with h | h | h | h
    · exact .inl (by rw [hu h]; nofun)
    · exact .inl (by rw [Bool.not_eq_true'] at h; rw [h]; nofun)
    · exact .inr (.inl h)
    · exact .inr (.inr (iff_of_true h.1 h.2))
  · rw [if_neg hall]
    simp only [not_or, not_and, Bool.not_eq_true, Bool.not_eq_false'] at hall
    obtain ⟨-, hcovered, hentry, hboth⟩ := hall
    cases rack with
    | true =>
      rw [hboth rfl, hcovered, hentry]
      cases ch <;> decide
    | false =>
      rw [hcovered, hentry]
      cases adhesion <;> cases ch <;> decide

theorem mem_validActive (channels : PerLoop OdoChannel) (active : PerLoop Bool) (ch : LoopChannel) :
    ch ∈ validActive channels active ↔ (channels.get ch).valid = true ∧ active.get ch = true := by
  rw [validActive, List.mem_filter, Bool.and_eq_true]
  exact and_iff_right (by cases ch <;> decide)

theorem validActive_nodup (channels : PerLoop OdoChannel) (active : PerLoop Bool) : (validActive channels active).Nodup :=
  List.Nodup.filter _ (by decide)

end Sys2Proof.Machine
end

section
/-! The ODO record that an update leaves, step by step (R44 to R59, O50). -/

namespace Sys2Proof.Machine

/-! ## The steps as functions of the record -/

/-- The record with both mesh flags judged from the channels (R58). -/
def Odo.meshJudged (o : Odo) : Odo := { o with
  meshShallow := o.channels.cogA.shallow || o.channels.cogB.shallow
  meshLoss := o.channels.cogA.loss || o.channels.cogB.loss }

/-- The record as standstill begins (R49, R57, R58). -/
def Odo.atRest (o : Odo) : Odo := Odo.meshJudged { o with
  standstill := true
  rollbackDist := 0
  rollback := false
  channels := { o.channels with
    cogA := { o.channels.cogA with loss := false }
    cogB := { o.channels.cogB with loss := false } } }

/-- The record with the rollback distance taken on (R57). -/
def Odo.rolled (o : Odo) (adds : Nat) : Odo := { o with
  rollbackDist := o.rollbackDist + adds
  rollback := o.rollback || decide (50 ≤ o.rollbackDist + adds) }

/-- The record away from rack (R58). -/
def Odo.offRack (o : Odo) : Odo := Odo.meshJudged { o with
  channels := { o.channels with cogA := o.channels.cogA.clearMesh, cogB := o.channels.cogB.clearMesh } }

/-- The record with the channel-count conditions (R59). -/
def Odo.counted (o : Odo) (used : List LoopChannel) : Odo :=
  { o with degraded := decide (used.length = 1), lost := used.isEmpty }

/-- The record that the steps after the position leave: standstill, rollback, mesh and channel counts. -/
def Odo.concluded (o : Odo) (begins rack : Bool) (adds : Nat) (used : List LoopChannel) : Odo :=
  let rolled := (if begins then o.atRest else o).rolled adds
  (if rack then rolled else rolled.offRack).counted used

section Steps
variable (c : Car)

theorem judgeMesh_judged : (judgeMesh c).odo = c.odo.meshJudged := judgeMesh_odo c

theorem takeAdvance_odo (advance : Nat) : (takeAdvance advance c).odo =
    { c.odo with position := c.odo.position.take advance c.odo.measured c.lif.params } := by
  unfold takeAdvance
  dsimp only
  rw [handLost_frame]

/-- Whether standstill begins at this update (R49). -/
def Car.comesToRest (c : Car) : Bool := decide (!c.odo.standstill ∧ 100 ≤ quietTime c ∧ c.odo.fused = 0)

theorem standstillBegin_odo : (standstillBegin c).odo = c.odo.atRest := by
  unfold standstillBegin
  dsimp only
  rw [judgeMesh_judged]
  simp only [causeChange_odo, levelChange_odo]
  rfl

theorem judgeStandstill_odo : (judgeStandstill c).odo = if c.comesToRest then c.odo.atRest else c.odo := by
  unfold judgeStandstill Car.comesToRest
  simp only [decide_eq_true_eq]
  split
  · exact standstillBegin_odo c
  · rfl

theorem judgeStandstill_since : (judgeStandstill c).brk.standstillSince =
    if c.comesToRest then some c.now else c.brk.standstillSince := by
  unfold judgeStandstill Car.comesToRest standstillBegin judgeMesh
  simp only [decide_eq_true_eq]
  split
  · simp only [causeChange_standstillSince, levelChange_brk]
    split <;> simp only [ssvCause_brk, causeChange_standstillSince, levelChange_brk]
  · rfl

theorem takeRollback_odo (advance : Nat) : (takeRollback advance c).odo =
    c.odo.rolled (rollbackAdds c.lif.demand.direction c.odo.measured advance) := by
  unfold takeRollback
  simp only [causeChange_odo, levelChange_odo]
  rfl

theorem checkMesh_odo (k : KindSet) : (checkMesh k c).odo =
    if k.rack ∧ c.odo.position.state ≠ .unknown then c.odo else c.odo.offRack := by
  unfold checkMesh
  split
  · rfl
  · rw [judgeMesh_judged]
    rfl

theorem judgeCounts_odo (used : List LoopChannel) : (judgeCounts used c).odo = c.odo.counted used := by
  unfold judgeCounts
  simp only [causeChange_odo, levelChange_odo]
  split <;> rfl

end Steps

section Position
variable (p : PositionRecord) (advance : Nat) (measured : Option Sense) (params : Params)

/-- The position record under an advance, written out (R52, R53). -/
theorem PositionRecord.take_eq (h : p.state ≠ .unknown) : p.take advance measured params =
    let travel := min 4294967295 (p.travel + advance)
    let fixUnc := if measured.isNone then min 1999999 (p.fixUnc + advance) else p.fixUnc
    { p with
      travel := travel
      fixUnc := fixUnc
      unc := uncertainty fixUnc travel params.drift
      pos := min lineEnd (movedPos p advance measured).toNat
      state := if p.state = .known ∧
          (leavesLine p advance measured = true ∨ params.uMax < uncertainty fixUnc travel params.drift)
        then .lost else p.state } := by
  have hstate (leaves wide : Prop) [Decidable leaves] [Decidable wide] :
      (if (if leaves then PositionState.lost else p.state) = .known ∧ wide then PositionState.lost
        else if leaves then .lost else p.state) = if p.state = .known ∧ (leaves ∨ wide) then .lost else p.state := by
    cases hs : p.state with
    | unknown => exact absurd hs h
    | known => by_cases leaves <;> by_cases wide <;> simp_all
    | lost => by_cases leaves <;> simp_all
  unfold PositionRecord.take PositionRecord.widen
  rw [if_neg h]
  dsimp only
  rw [hstate]

/-- The position stays UNKNOWN under an advance, and no advance makes it so. -/
theorem PositionRecord.take_unknown : (p.take advance measured params).state = .unknown ↔ p.state = .unknown := by
  by_cases h : p.state = .unknown
  · rw [PositionRecord.take, if_pos h]
  · rw [p.take_eq _ _ _ h, iff_false_right h]
    intro hstate
    rcases ite_eq_iff.1 hstate with ⟨-, hlost⟩ | ⟨-, hkept⟩
    · cases hlost
    · exact h hkept

end Position

/-! ## The whole update -/

section Conditioned
variable (c : Car)

/-- The part with its windows closed, its channels fused and its position moved: the update before standstill is judged. -/
def Car.advanced (c : Car) : Car := takeAdvance c.advanceTaken (fuse c.usedChannels c.windowed)

theorem Car.advanced_handsOn : HandsOn [] [] (fuse c.usedChannels c.windowed) c.advanced := takeAdvance_handsOn ..

theorem Car.advanced_odo : c.advanced.odo = { (fuse c.usedChannels c.windowed).odo with
    position := c.odo.position.take c.advanceTaken (measuredDirection c.windowed c.usedChannels) c.lif.params } :=
  takeAdvance_odo ..

/-- What an update adds to the rollback distance. -/
def Car.rollbackAdded (c : Car) : Nat :=
  rollbackAdds c.lif.demand.direction (measuredDirection c.windowed c.usedChannels) c.advanceTaken

theorem Car.conditioned_odo : c.conditioned.odo =
    c.advanced.odo.concluded c.advanced.comesToRest (askKinds c).rack c.rollbackAdded c.usedChannels := by
  have hkinds : askKinds c.windowed = askKinds c := rfl
  have hlif : (judgeStandstill c.advanced).lif = c.lif :=
    (congrArg Car.lif (c.advanced_handsOn.mono (List.nil_subset _) (List.nil_subset _) |>.trans
      (judgeStandstill_handsOn c.advanced)).frame :)
  have hmeasured : (judgeStandstill c.advanced).odo.measured = measuredDirection c.windowed c.usedChannels := by
    rw [judgeStandstill_odo, c.advanced_odo]
    split <;> rfl
  have hrolled : (takeRollback c.advanceTaken (judgeStandstill c.advanced)).odo =
      (if c.advanced.comesToRest then c.advanced.odo.atRest else c.advanced.odo).rolled c.rollbackAdded := by
    rw [takeRollback_odo, hlif, hmeasured, judgeStandstill_odo]
    rfl
  have hposition : (takeRollback c.advanceTaken (judgeStandstill c.advanced)).odo.position = c.advanced.odo.position := by
    rw [hrolled]
    split <;> rfl
  have hrack : ((askKinds c).rack = true ∧ c.advanced.odo.position.state ≠ .unknown) ↔ (askKinds c).rack = true := by
    refine and_iff_left_of_imp fun h hunknown => ?_
    rw [c.advanced_odo] at hunknown
    have hstate := (PositionRecord.take_unknown ..).1 hunknown
    simp only [askKinds, kindSet, if_pos hstate, Bool.false_eq_true] at h
  show (judgeCounts c.usedChannels (checkMesh (askKinds c.windowed)
    (takeRollback c.advanceTaken (judgeStandstill c.advanced)))).odo = _
  rw [judgeCounts_odo, checkMesh_odo, hkinds, hposition, if_congr hrack rfl rfl, hrolled]
  rfl

end Conditioned

end Sys2Proof.Machine
end

section
/-! What an odometry update leaves, read off its steps (O50). -/

namespace Sys2Proof.Machine

/-! ## Folds of the update -/

theorem le_foldl_min (l : List Nat) (i n : Nat) : n ≤ l.foldl min i ↔ n ≤ i ∧ ∀ x ∈ l, n ≤ x := by
  induction l generalizing i with
  | nil => exact ⟨fun h => ⟨h, nofun⟩, And.left⟩
  | cons x l ih => rw [List.foldl_cons, ih, Nat.le_min, List.forall_mem_cons, and_assoc]

theorem foldl_max_spec (l : List Nat) (i : Nat) :
    i ≤ l.foldl max i ∧ (∀ x ∈ l, x ≤ l.foldl max i) ∧ (l.foldl max i = i ∨ l.foldl max i ∈ l) := by
  induction l generalizing i with
  | nil => exact ⟨Nat.le_refl _, nofun, .inl rfl⟩
  | cons x l ih =>
    obtain ⟨hinit, hall, hattained⟩ := ih (max i x)
    rw [List.foldl_cons]
    refine ⟨by omega, fun y hy => ?_, ?_⟩
    · rcases List.mem_cons.1 hy with rfl | hy
      · omega
      · exact hall y hy
    · rcases hattained with h | h
      · rcases Nat.le_total i x with hle | hle
        · exact .inr (List.mem_cons.2 (.inl (h.trans (Nat.max_eq_right hle))))
        · exact .inl (h.trans (Nat.max_eq_left hle))
      · exact .inr (List.mem_cons_of_mem _ h)

theorem fusedSpeed_spec (channels : PerLoop OdoChannel) (used : List LoopChannel) :
    (∀ ch ∈ used, min 1500 (channels.get ch).speed ≤ fusedSpeed channels used) ∧
    (fusedSpeed channels used = 0 ∨ ∃ ch ∈ used, fusedSpeed channels used = min 1500 (channels.get ch).speed) := by
  obtain ⟨-, hall, hattained⟩ := foldl_max_spec (used.map fun ch => (channels.get ch).speed) 0
  unfold fusedSpeed
  refine ⟨fun ch hch => ?_, hattained.imp (fun h => by rw [h]; rfl) fun h => ?_⟩
  · have := hall _ (List.mem_map_of_mem hch)
    omega
  · obtain ⟨ch, hch, heq⟩ := List.mem_map.1 h
    exact ⟨ch, hch, by rw [← heq]⟩

/-- How long ago a channel's last tooth pulse was. -/
def OdoChannel.quiet (r : OdoChannel) (now : Stamp) : Nat := r.lastPulse.elim now (since now)

/-- The channels whose last pulses the standstill test looks at: the valid ones, or all of them when none is (R49). -/
def Odo.Heard (o : Odo) (ch : LoopChannel) : Prop :=
  (o.channels.get ch).valid = true ∨ ∀ other, (o.channels.get other).valid = false

theorem le_quietTime (c : Car) {n : Nat} (hn : n ≤ 4294967295) :
    n ≤ quietTime c ↔ ∀ ch, c.odo.Heard ch → n ≤ (c.odo.channels.get ch).quiet c.now := by
  have hlist (ch : LoopChannel) : ch ∈ LoopChannel.list := by cases ch <;> decide
  have hheard (ch : LoopChannel) : (ch ∈ if (LoopChannel.list.filter fun ch => (c.odo.channels.get ch).valid) = []
      then LoopChannel.list else LoopChannel.list.filter fun ch => (c.odo.channels.get ch).valid) ↔ c.odo.Heard ch := by
    unfold Odo.Heard
    split
    · next hnone =>
      have hinvalid (other : LoopChannel) : (c.odo.channels.get other).valid = false :=
        Bool.eq_false_of_not_eq_true (List.filter_eq_nil_iff.1 hnone other (hlist other))
      exact iff_of_true (hlist ch) (.inr hinvalid)
    · next hsome =>
      rw [List.mem_filter, and_iff_right (hlist ch)]
      refine ⟨.inl, fun h => h.resolve_right fun hinvalid => hsome (List.filter_eq_nil_iff.2 fun other _ => ?_)⟩
      rw [hinvalid other]
      nofun
  unfold quietTime
  rw [le_foldl_min, and_iff_right hn, List.forall_mem_map]
  refine forall_congr' fun ch => imp_congr (hheard ch) ?_
  unfold OdoChannel.quiet
  split
  · next x hx => rw [hx, Option.elim_some]
  · next hx => rw [hx, Option.elim_none]

/-! ## The measured direction (R48) -/

/-- A channel's latest word naming a direction under the mounting sense of the channel. -/
def Car.names (c : Car) (ch : LoopChannel) (up : Bool) : Prop :=
  ∃ w, (c.tlf.get ch).latest = some w ∧ (w.direction != c.lif.params.reversed.get ch) = up

section Measured
variable (c : Car) (used : List LoopChannel)

theorem names_up (ch : LoopChannel) :
    ((c.tlf.get ch).latest.map (wordSense (c.lif.params.reversed.get ch)) == some .up) = true ↔ c.names ch true := by
  unfold Car.names wordSense
  rw [beq_iff_eq]
  cases (c.tlf.get ch).latest with
  | none => simp
  | some w => cases hw : w.direction != c.lif.params.reversed.get ch <;> simp

theorem names_down (ch : LoopChannel) :
    ((c.tlf.get ch).latest.map (wordSense (c.lif.params.reversed.get ch)) == some .down) = true ↔ c.names ch false := by
  unfold Car.names wordSense
  rw [beq_iff_eq]
  cases (c.tlf.get ch).latest with
  | none => simp
  | some w => cases hw : w.direction != c.lif.params.reversed.get ch <;> simp

theorem names_not_both {ch : LoopChannel} (hup : c.names ch true) : ¬ c.names ch false := by
  rintro ⟨w, hw, hdown⟩
  obtain ⟨v, hv, hup⟩ := hup
  rw [hw] at hv
  cases hv
  rw [hup] at hdown
  cases hdown

theorem measuredDirection_spec :
    (used ≠ [] → (∀ ch ∈ used, c.names ch true) → measuredDirection c used = some .up) ∧
    (used ≠ [] → (∀ ch ∈ used, c.names ch false) → measuredDirection c used = some .down) ∧
    (used = [] ∨ (¬ ∀ ch ∈ used, c.names ch true) ∧ (¬ ∀ ch ∈ used, c.names ch false) →
      measuredDirection c used = c.odo.measured) := by
  classical
  have hup : ((used.map fun ch => (c.tlf.get ch).latest.map (wordSense (c.lif.params.reversed.get ch))).all (· == some .up))
      = true ↔ ∀ ch ∈ used, c.names ch true := by
    rw [List.all_map, List.all_eq_true]
    exact forall₂_congr fun ch _ => names_up c ch
  have hdown : ((used.map fun ch => (c.tlf.get ch).latest.map (wordSense (c.lif.params.reversed.get ch))).all (· == some .down))
      = true ↔ ∀ ch ∈ used, c.names ch false := by
    rw [List.all_map, List.all_eq_true]
    exact forall₂_congr fun ch _ => names_down c ch
  have hne : (used.map fun ch => (c.tlf.get ch).latest.map (wordSense (c.lif.params.reversed.get ch))) ≠ [] ↔ used ≠ [] :=
    not_congr List.map_eq_nil_iff
  have hdirection : measuredDirection c used = if used ≠ [] ∧ ∀ ch ∈ used, c.names ch true then some .up
      else if used ≠ [] ∧ ∀ ch ∈ used, c.names ch false then some .down else c.odo.measured :=
    if_congr (and_congr hne hup) rfl (if_congr (and_congr hne hdown) rfl rfl)
  rw [hdirection]
  refine ⟨fun hne h => if_pos ⟨hne, h⟩, fun hne h => ?_, fun h => ?_⟩
  · obtain ⟨ch, hch⟩ := List.exists_mem_of_ne_nil _ hne
    rw [if_neg fun hall => names_not_both c (hall.2 ch hch) (h ch hch), if_pos ⟨hne, h⟩]
  · rw [if_neg fun hall => h.elim hall.1 fun hno => hno.1 hall.2,
      if_neg fun hall => h.elim hall.1 fun hno => hno.2 hall.2]

end Measured

/-! ## What the concluding steps leave of a record -/

/-- Two channel records apart by their mesh history and flags alone. -/
def OdoChannel.SameMotion (r q : OdoChannel) : Prop := q = { r with mesh := q.mesh, shallow := q.shallow, loss := q.loss }

section Concluded
variable (o : Odo) (begins rack : Bool) (adds : Nat) (used : List LoopChannel)

theorem Odo.concluded_frame : o.concluded begins rack adds used = { o with
    channels := (o.concluded begins rack adds used).channels
    meshShallow := (o.concluded begins rack adds used).meshShallow
    meshLoss := (o.concluded begins rack adds used).meshLoss
    standstill := begins || o.standstill
    rollbackDist := (if begins then 0 else o.rollbackDist) + adds
    rollback := (!begins && o.rollback) || decide (50 ≤ (if begins then 0 else o.rollbackDist) + adds)
    degraded := decide (used.length = 1)
    lost := used.isEmpty } := by
  cases begins with
  | true => cases rack <;> rfl
  | false => cases rack <;> rfl

theorem Odo.concluded_motion (ch : LoopChannel) :
    (o.channels.get ch).SameMotion ((o.concluded begins rack adds used).channels.get ch) := by
  unfold Odo.concluded OdoChannel.SameMotion
  cases begins with
  | true => cases rack <;> cases ch <;> rfl
  | false => cases rack <;> cases ch <;> rfl

theorem Odo.concluded_offRack {ch : LoopChannel} (h : ch = .cogA ∨ ch = .cogB) :
    ((o.concluded begins false adds used).channels.get ch).mesh = [] ∧
    ((o.concluded begins false adds used).channels.get ch).shallow = false ∧
    ((o.concluded begins false adds used).channels.get ch).loss = false := by
  rcases h with rfl | rfl <;> exact ⟨rfl, rfl, rfl⟩

theorem Odo.concluded_onRack (ch : LoopChannel) :
    ((o.concluded begins true adds used).channels.get ch).mesh = (o.channels.get ch).mesh ∧
    ((o.concluded begins true adds used).channels.get ch).shallow = (o.channels.get ch).shallow := by
  cases begins <;> cases ch <;> exact ⟨rfl, rfl⟩

end Concluded

end Sys2Proof.Machine
end

section
/-! The odometry update's outcome (O50). -/

namespace Sys2Proof.Machine

/-! ## From the steps to the settled part -/

theorem settle_pending (c : Car) {n : Nat} (hn : n ≠ 18) (h : (c.evr.source n).pending = true) :
    ((settle c).evr.source n).pending = true :=
  (dorJudge_handsOn c).pending n (fun hmem => hn (List.mem_singleton.1 hmem)) h

theorem settle_update (c : Car) : (settle c).ssv.waiting.update = c.ssv.waiting.update := by
  rw [← dorJudge_ssv c]
  show (if availableCount _ = _ then (dorJudge c).ssv else (dorJudge c).ssv.cause).waiting.update = _
  split <;> rfl

theorem Waiting.both {w : Waiting} (hcause : w.cause = true) (hupdate : w.update = true) : w = ⟨true, true⟩ := by
  cases w
  cases hcause
  cases hupdate
  rfl

section Outcome
variable {c : Car} (hi : Intact c)
include hi

theorem Intact.outcome_odo : (settle (Machine.odometryUpdate c)).odo = c.conditioned.odo := by
  rw [settle_frame, hi.odometryUpdate_frame]
  rfl

theorem Intact.outcome_cause {cause : Cause} (h : cause ≠ .door) :
    (settle (Machine.odometryUpdate c)).brk.causes.get cause = c.conditioned.brk.causes.get cause := by
  rw [settle_cause _ h, hi.odometryUpdate_frame]
  rfl

theorem Intact.outcome_pending {n : Nat} (hn : n ≠ 18) (h : (c.conditioned.evr.source n).pending = true) :
    ((settle (Machine.odometryUpdate c)).evr.source n).pending = true := by
  have hevr : (Machine.odometryUpdate c).evr = c.conditioned.evr := (congrArg Car.evr hi.odometryUpdate_frame :)
  exact settle_pending (Machine.odometryUpdate c) hn ((congrArg (fun e : Evr => (e.source n).pending) hevr).trans h)

theorem Intact.outcome_waiting : (settle (Machine.odometryUpdate c)).ssv.waiting = ⟨true, true⟩ := by
  have hwaiting : (Machine.odometryUpdate c).ssv.waiting = ⟨true, true⟩ := by
    rw [hi.odometryUpdate_frame]
    rfl
  have hcause := settle_waiting (c := Machine.odometryUpdate c) (by rw [hwaiting])
  have hupdate := settle_update (Machine.odometryUpdate c)
  rw [hwaiting] at hupdate
  exact Waiting.both hcause hupdate

end Outcome

/-! ## The conditions that an update starts (R51, R57, R59) -/

section Starts
variable (c : Car)

theorem Car.conditioned_steps : c.conditioned = judgeCounts c.usedChannels (checkMesh (askKinds c)
    (takeRollback c.advanceTaken (judgeStandstill c.advanced))) := rfl

theorem Car.advanced_length : c.advanced.evr.sources.length = c.evr.sources.length := c.advanced_handsOn.length

/-- A flag set before the standstill test stays set, but for the three sources judged from then on. -/
theorem Car.conditioned_pending {n : Nat} (hn : n ∉ [13, 11, 12]) (h : (c.advanced.evr.source n).pending = true) :
    (c.conditioned.evr.source n).pending = true := by
  have hhands : HandsOn [13, 11, 12] [.rollback, .overspeed, .meshLoss, .odometryLost] c.advanced c.conditioned := by
    rw [c.conditioned_steps]
    refine .trans ?_ ((judgeCounts_handsOn ..).mono (by decide) (by decide))
    refine .trans ?_ ((checkMesh_handsOn ..).mono (by decide) (by decide))
    exact ((judgeStandstill_handsOn _).mono (by decide) (by decide)).trans
      ((takeRollback_handsOn ..).mono (by decide) (by decide))
  exact hhands.pending n hn h

theorem occur_pending (src : Source) (detail : Nat) :
    ((occur src detail c).evr.source src.number).pending = true ∨ c.evr.sources.length ≤ src.number := Evr.take_pending ..

/-- POSITION_LOST as an advance loses the position. -/
theorem Car.advanced_lost (hknown : c.odo.position.state = .known) (hlost : c.advanced.odo.position.state = .lost) :
    (c.advanced.evr.source 8).pending = true ∨ c.evr.sources.length ≤ 8 := by
  have hadvanced : c.advanced = occur .positionLost
      (if leavesLine c.odo.position c.advanceTaken (measuredDirection c.windowed c.usedChannels) then 1 else 2)
      { fuse c.usedChannels c.windowed with odo := c.advanced.odo } := by
    have hodo := c.advanced_odo
    rw [hodo]
    rw [hodo] at hlost
    exact if_pos ⟨hknown, hlost⟩
  rw [hadvanced]
  exact occur_pending _ .positionLost _

/-- A condition that starts is in the set with its condition present, and its flag is set. -/
theorem started (src : Source) (cause : Cause) (detail : Nat) :
    ((causeChange cause false true (levelChange src false true detail c)).brk.causes.get cause).map CauseRecord.present =
      some true ∧
    (((causeChange cause false true (levelChange src false true detail c)).evr.source src.number).pending = true ∨
      c.evr.sources.length ≤ src.number) := by
  obtain ⟨r, hr, hpresent⟩ := causeStart_record cause (occur src detail c)
  refine ⟨(congrArg (Option.map CauseRecord.present) hr).trans (congrArg some hpresent), ?_⟩
  exact (occur_pending c src detail).imp_left
    ((causeChange_handsOn (occur src detail c) cause false true).pending src.number (List.not_mem_nil))

theorem takeRollback_starts (advance : Nat) (hbefore : c.odo.rollback = false)
    (hafter : (takeRollback advance c).odo.rollback = true) : ∃ detail, takeRollback advance c = causeChange .rollback false true
      (levelChange .rollback false true detail { c with odo := (takeRollback advance c).odo }) := by
  have hodo := takeRollback_odo c advance
  have hpresent : (c.odo.rollback || decide (50 ≤ c.odo.rollbackDist +
      rollbackAdds c.lif.demand.direction c.odo.measured advance)) = true := by
    rw [hodo] at hafter
    exact hafter
  refine ⟨rollbackDetail (c.odo.rollbackDist + rollbackAdds c.lif.demand.direction c.odo.measured advance), ?_⟩
  rw [hodo]
  unfold takeRollback Odo.rolled
  dsimp only
  rw [hpresent, hbefore]

theorem judgeCounts_starts (used : List LoopChannel) (hbefore : c.odo.lost = false) (hused : used = []) :
    ∃ d, judgeCounts used c = causeChange .odometryLost false true d := by
  unfold judgeCounts
  dsimp only
  rw [hbefore, hused]
  exact ⟨_, rfl⟩

/-- ROLLBACK as an update starts it. -/
theorem Car.conditioned_rolls (hbefore : c.odo.rollback = false) (hafter : c.conditioned.odo.rollback = true) :
    (c.conditioned.brk.causes.get .rollback).map CauseRecord.present = some true ∧
    ((c.conditioned.evr.source 13).pending = true ∨ c.evr.sources.length ≤ 13) := by
  have hstill : (judgeStandstill c.advanced).odo.rollback = false := by
    rw [judgeStandstill_odo, c.advanced_odo]
    split
    · rfl
    · exact hbefore
  have hrest : HandsOn [11, 12] [.meshLoss, .odometryLost] (takeRollback c.advanceTaken (judgeStandstill c.advanced))
      c.conditioned := by
    rw [c.conditioned_steps]
    exact .trans ((checkMesh_handsOn ..).mono (by decide) (by decide)) ((judgeCounts_handsOn ..).mono (by decide) (by decide))
  have hlength : (judgeStandstill c.advanced).evr.sources.length = c.evr.sources.length :=
    (judgeStandstill_handsOn _).length.trans c.advanced_length
  have hodo : c.conditioned.odo.rollback = (takeRollback c.advanceTaken (judgeStandstill c.advanced)).odo.rollback := by
    rw [c.conditioned_steps, judgeCounts_odo, checkMesh_odo]
    split <;> rfl
  obtain ⟨detail, hstart⟩ := takeRollback_starts (judgeStandstill c.advanced) c.advanceTaken hstill (hodo ▸ hafter)
  obtain ⟨hcause, hpending⟩ := started { judgeStandstill c.advanced with
    odo := (takeRollback c.advanceTaken (judgeStandstill c.advanced)).odo } .rollback .rollback detail
  rw [← hstart] at hcause hpending
  exact ⟨(congrArg (Option.map CauseRecord.present) (hrest.cause .rollback (by decide))).trans hcause,
    hpending.imp (hrest.pending 13 (by decide)) (hlength ▸ ·)⟩

/-- ODOMETRY_LOST as an update starts it. -/
theorem Car.conditioned_loses (hbefore : c.odo.lost = false) (hused : c.usedChannels = []) :
    (c.conditioned.brk.causes.get .odometryLost).map CauseRecord.present = some true := by
  have hlost : (checkMesh (askKinds c) (takeRollback c.advanceTaken (judgeStandstill c.advanced))).odo.lost = false := by
    have hrolled : (takeRollback c.advanceTaken (judgeStandstill c.advanced)).odo.lost = false := by
      rw [takeRollback_odo, judgeStandstill_odo, c.advanced_odo]
      split <;> exact hbefore
    rw [checkMesh_odo]
    split <;> exact hrolled
  obtain ⟨d, hstart⟩ := judgeCounts_starts _ c.usedChannels hlost hused
  obtain ⟨r, hr, hpresent⟩ := causeStart_record .odometryLost d
  rw [c.conditioned_steps, hstart]
  exact (congrArg (Option.map CauseRecord.present) hr).trans (congrArg some hpresent)

/-- When standstill began, as an update leaves it. -/
theorem Car.conditioned_since : c.conditioned.brk.standstillSince =
    if c.advanced.comesToRest then some c.now else c.brk.standstillSince := by
  have hmesh (d : Car) : (judgeMesh d).brk.standstillSince = d.brk.standstillSince := by
    unfold judgeMesh
    simp only [causeChange_standstillSince, levelChange_brk]
    split <;> rfl
  have hcheck (d : Car) : (checkMesh (askKinds c) d).brk.standstillSince = d.brk.standstillSince := by
    unfold checkMesh
    split
    · rfl
    · exact hmesh _
  have hcounts (d : Car) : (judgeCounts c.usedChannels d).brk.standstillSince = d.brk.standstillSince := by
    unfold judgeCounts
    simp only [causeChange_standstillSince, levelChange_brk]
    split <;> rfl
  have hroll (d : Car) : (takeRollback c.advanceTaken d).brk.standstillSince = d.brk.standstillSince := by
    unfold takeRollback
    simp only [causeChange_standstillSince, levelChange_brk]
  have hframe := c.advanced_handsOn.frame
  have hsince : c.advanced.brk.standstillSince = c.brk.standstillSince := by
    unfold Car.advanced takeAdvance
    dsimp only
    rw [handLost_frame]
    rfl
  have hnow : c.advanced.now = c.now := (congrArg Car.now hframe :)
  rw [c.conditioned_steps, hcounts, hcheck, hroll, judgeStandstill_since, hsince, hnow]

end Starts

end Sys2Proof.Machine
end

section
/-! The odometry update's record and its obligation (O50). -/

namespace Sys2Proof.Machine

section Record
variable (c : Car)

/-! ## The channels -/

theorem Car.windowed_get (ch : LoopChannel) :
    c.windowed.odo.channels.get ch = (c.odo.channels.get ch).close (c.lif.params.pitch.get ch) := by
  cases ch <;> rfl

theorem OdoChannel.close_eq (r : OdoChannel) (pitch : Nat) : r.close pitch = { r with
    speed := if r.valid then r.window.sum * pitch / 2500 else 0
    window := if r.valid then r.window.drop 1 ++ [0] else r.window } := by
  unfold OdoChannel.close
  split <;> rfl

theorem Car.usedChannels_iff (ht : c.pst.readable.Pairwise fun a b => a.low ≤ b.low) (ch : LoopChannel) :
    ch ∈ c.usedChannels ↔ (c.odo.channels.get ch).valid = true ∧
      ((¬ Stored c.pst.readable c.odo.position c.lif.params.carLength ∨
        Under c.pst.readable c.odo.position c.lif.params.carLength .rackEntry ∨
        (Under c.pst.readable c.odo.position c.lif.params.carLength .rack ↔
          Under c.pst.readable c.odo.position c.lif.params.carLength .adhesion)) ∨
      (Under c.pst.readable c.odo.position c.lif.params.carLength .rack ∧ (ch = .cogA ∨ ch = .cogB)) ∨
      (Under c.pst.readable c.odo.position c.lif.params.carLength .adhesion ∧ (ch = .wheelA ∨ ch = .wheelB))) := by
  obtain ⟨hrack, hadhesion, hentry, hcovered⟩ := kindSet_iff (t := c.pst.readable) (p := c.odo.position)
    (carLength := c.lif.params.carLength) ht
  have hvalid : (c.windowed.odo.channels.get ch).valid = (c.odo.channels.get ch).valid := by
    rw [c.windowed_get, OdoChannel.close_eq]
  have hunknown : c.odo.position.state = .unknown → (askKinds c).covered = false := fun h => by
    rw [askKinds, kindSet, if_pos h]
  have hactive := activeSet_iff hunknown ch
  rw [askKinds, hrack, hadhesion, hentry, hcovered] at hactive
  rw [← hactive, ← hvalid]
  exact mem_validActive ..

theorem Car.advanceTaken_eq : c.advanceTaken =
    (c.usedChannels.map fun ch => (c.odo.channels.get ch).acc / 10000).sum / c.usedChannels.length := by
  have hacc (ch : LoopChannel) : (c.windowed.odo.channels.get ch).acc = (c.odo.channels.get ch).acc := by
    rw [c.windowed_get, OdoChannel.close_eq]
  simp only [Car.advanceTaken, advanceOf, hacc]

theorem Car.advanced_get (ch : LoopChannel) : c.advanced.odo.channels.get ch =
    ((c.odo.channels.get ch).close (c.lif.params.pitch.get ch)).takeWhole := by
  rw [c.advanced_odo, ← c.windowed_get]
  exact PerLoop.get_map ..

/-- A channel's record after the update, but for its mesh history and flags (R44, R47). -/
theorem Car.conditioned_get (ch : LoopChannel) : c.conditioned.odo.channels.get ch = { c.conditioned.odo.channels.get ch with
    valid := (c.odo.channels.get ch).valid
    acc := (c.odo.channels.get ch).acc % 10000
    window := if (c.odo.channels.get ch).valid then (c.odo.channels.get ch).window.drop 1 ++ [0] else (c.odo.channels.get ch).window
    firstPulse := (c.odo.channels.get ch).firstPulse
    speed := if (c.odo.channels.get ch).valid then (c.odo.channels.get ch).window.sum * c.lif.params.pitch.get ch / 2500 else 0
    lastPulse := (c.odo.channels.get ch).lastPulse } := by
  have hmotion := c.advanced.odo.concluded_motion c.advanced.comesToRest (askKinds c).rack c.rollbackAdded c.usedChannels ch
  rw [← c.conditioned_odo, c.advanced_get, OdoChannel.close_eq] at hmotion
  exact hmotion

/-! ## The record -/

theorem Car.conditioned_record : c.conditioned.odo = { c.odo with
    channels := c.conditioned.odo.channels
    fused := fusedSpeed c.windowed.odo.channels c.usedChannels
    measured := measuredDirection c.windowed c.usedChannels
    standstill := c.advanced.comesToRest || c.odo.standstill
    position := c.odo.position.take c.advanceTaken (measuredDirection c.windowed c.usedChannels) c.lif.params
    rollbackDist := (if c.advanced.comesToRest then 0 else c.odo.rollbackDist) + c.rollbackAdded
    rollback := (!c.advanced.comesToRest && c.odo.rollback) ||
      decide (50 ≤ (if c.advanced.comesToRest then 0 else c.odo.rollbackDist) + c.rollbackAdded)
    meshShallow := c.conditioned.odo.meshShallow
    meshLoss := c.conditioned.odo.meshLoss
    degraded := decide (c.usedChannels.length = 1)
    lost := c.usedChannels.isEmpty
    updateTimer := some 0 } := by
  have hframe := c.advanced.odo.concluded_frame c.advanced.comesToRest (askKinds c).rack c.rollbackAdded c.usedChannels
  rw [← c.conditioned_odo] at hframe
  have hadvanced := c.advanced_odo
  generalize c.advanced.comesToRest = rests at hframe ⊢
  rw [hadvanced] at hframe
  exact hframe

theorem Car.conditioned_speed :
    (∀ ch ∈ c.usedChannels, min 1500 (c.windowed.odo.channels.get ch).speed ≤ c.conditioned.odo.fused) ∧
    (c.conditioned.odo.fused = 0 ∨ ∃ ch ∈ c.usedChannels,
      c.conditioned.odo.fused = min 1500 (c.windowed.odo.channels.get ch).speed) := by
  rw [c.conditioned_record]
  exact fusedSpeed_spec ..

/-- Whether standstill begins, by the record before and the fused speed (R49). -/
theorem Car.comesToRest_iff : c.advanced.comesToRest = true ↔ c.odo.standstill = false ∧ c.conditioned.odo.fused = 0 ∧
    ∀ ch, c.odo.Heard ch → 100 ≤ (c.odo.channels.get ch).quiet c.now := by
  have hfused : c.advanced.odo.fused = c.conditioned.odo.fused := by
    rw [c.conditioned_record, c.advanced_odo]
    rfl
  have hstand : c.advanced.odo.standstill = c.odo.standstill := by
    rw [c.advanced_odo]
    rfl
  have hnow : c.advanced.now = c.now := (congrArg Car.now c.advanced_handsOn.frame :)
  have hvalid (ch : LoopChannel) : (c.advanced.odo.channels.get ch).valid = (c.odo.channels.get ch).valid := by
    rw [c.advanced_get, OdoChannel.close_eq]
    rfl
  have hlast (ch : LoopChannel) : (c.advanced.odo.channels.get ch).lastPulse = (c.odo.channels.get ch).lastPulse := by
    rw [c.advanced_get, OdoChannel.close_eq]
    rfl
  have hquiet (ch : LoopChannel) : (c.advanced.odo.channels.get ch).quiet c.advanced.now = (c.odo.channels.get ch).quiet c.now := by
    rw [OdoChannel.quiet, hlast, hnow, OdoChannel.quiet]
  have hheard (ch : LoopChannel) : c.advanced.odo.Heard ch ↔ c.odo.Heard ch := by
    unfold Odo.Heard
    simp only [hvalid]
  rw [Car.comesToRest, decide_eq_true_iff, le_quietTime _ (by decide), hfused, hstand, Bool.not_eq_true']
  simp only [hheard, hquiet]
  rw [and_congr_right fun _ => and_comm]

theorem Car.conditioned_offRack (h : (askKinds c).rack = false) (ch : LoopChannel) (hcog : ch = .cogA ∨ ch = .cogB) :
    (c.conditioned.odo.channels.get ch).mesh = [] ∧ (c.conditioned.odo.channels.get ch).shallow = false ∧
    (c.conditioned.odo.channels.get ch).loss = false := by
  rw [c.conditioned_odo, h]
  exact Odo.concluded_offRack _ _ _ _ hcog

theorem Car.conditioned_onRack (h : (askKinds c).rack = true) (ch : LoopChannel) :
    (c.conditioned.odo.channels.get ch).mesh = (c.odo.channels.get ch).mesh ∧
    (c.conditioned.odo.channels.get ch).shallow = (c.odo.channels.get ch).shallow := by
  have hkept := Odo.concluded_onRack c.advanced.odo c.advanced.comesToRest c.rollbackAdded c.usedChannels ch
  rw [← h, ← c.conditioned_odo, c.advanced_get, OdoChannel.close_eq] at hkept
  exact hkept

/-- POSITION_LOST as an update loses the position. -/
theorem Car.conditioned_lost (hknown : c.odo.position.state = .known) (hlost : c.conditioned.odo.position.state = .lost) :
    (c.conditioned.evr.source 8).pending = true ∨ c.evr.sources.length ≤ 8 := by
  have hposition : c.conditioned.odo.position = c.advanced.odo.position := by
    rw [c.conditioned_record, c.advanced_odo]
  exact (c.advanced_lost hknown (hposition ▸ hlost)).imp_left (c.conditioned_pending (by decide))

end Record

/-! ## The position (R52, R53) -/

section Position
variable (p : PositionRecord) (advance : Nat) (measured : Option Sense) (params : Params)

/-- The travel since the fix, the fix's own uncertainty and the uncertainty worked out from them after an advance. -/
def PositionRecord.travelled : Nat := min 4294967295 (p.travel + advance)

def PositionRecord.fixWidened : Nat := if measured = none then min 1999999 (p.fixUnc + advance) else p.fixUnc

def PositionRecord.uncTaken : Nat :=
  min 1999999 (p.fixWidened advance measured + (p.travelled advance * params.drift + 999) / 1000)

/-- Whether an advance loses a KNOWN position. -/
def PositionRecord.Loses : Prop := p.state = .known ∧
  (movedPos p advance measured < 0 ∨ 1999999 < movedPos p advance measured ∨ params.uMax < p.uncTaken advance measured params)

theorem PositionRecord.take_spec (h : p.state ≠ .unknown) :
    (p.take advance measured params).travel = p.travelled advance ∧
    (p.take advance measured params).fixUnc = p.fixWidened advance measured ∧
    (p.take advance measured params).unc = p.uncTaken advance measured params ∧
    ((p.take advance measured params).pos : Int) = max 0 (min 1999999 (movedPos p advance measured)) ∧
    (p.take advance measured params).conflicts = p.conflicts ∧ (p.take advance measured params).lastFix = p.lastFix ∧
    (p.Loses advance measured params → (p.take advance measured params).state = .lost) ∧
    (¬ p.Loses advance measured params → (p.take advance measured params).state = p.state) := by
  have hfix : (if measured.isNone = true then min 1999999 (p.fixUnc + advance) else p.fixUnc) = p.fixWidened advance measured :=
    if_congr Option.isNone_iff_eq_none rfl rfl
  have hpos : ((min lineEnd (movedPos p advance measured).toNat : Nat) : Int) =
      max 0 (min 1999999 (movedPos p advance measured)) := by
    unfold lineEnd
    omega
  have hlost : p.Loses advance measured params ↔ p.state = .known ∧
      (leavesLine p advance measured = true ∨ params.uMax < p.uncTaken advance measured params) := by
    rw [leavesLine, Bool.or_eq_true, decide_eq_true_iff, decide_eq_true_iff, or_assoc]
    exact .rfl
  rw [p.take_eq _ _ _ h]
  dsimp only
  rw [hfix, hlost]
  exact ⟨rfl, rfl, rfl, hpos, rfl, rfl, fun hl => if_pos hl, fun hl => if_neg hl⟩

end Position

/-! ## What the obligation says, part by part -/

section Parts
variable {s : State} (hi : Intact s.car)
include hi

/-- The outcome outside the ODO record. -/
theorem Intact.outcome_rest :
    (settle (Machine.odometryUpdate s.car)).brk.watch = some 0 ∧
    (settle (Machine.odometryUpdate s.car)).ssv.running = s.car.ssv.running ∧
    (settle (Machine.odometryUpdate s.car)).ssv.record.p = s.car.ssv.record.p ∧
    (settle (Machine.odometryUpdate s.car)).pst = { s.car.pst with
      coverage := coverageOf s.car.pst.readable s.car.conditioned.odo.position s.car.lif.params.carLength
        s.car.conditioned.odo.travelRef } ∧
    (settle (Machine.odometryUpdate s.car)).lif = s.car.lif ∧ (settle (Machine.odometryUpdate s.car)).tlf = s.car.tlf ∧
    (settle (Machine.odometryUpdate s.car)).dor.leaves = s.car.dor.leaves ∧
    (settle (Machine.odometryUpdate s.car)).brk.faultStop = s.car.brk.faultStop ∧
    (settle (Machine.odometryUpdate s.car)).brk.copy = s.car.brk.copy ∧
    (settle (Machine.odometryUpdate s.car)).brk.standstillSince = s.car.conditioned.brk.standstillSince := by
  have hframe := hi.odometryUpdate_frame.trans (congrArg (fun d : Car => { d with vrl := (Machine.odometryUpdate s.car).vrl })
    s.car.updated_frame)
  have hsettle := settle_frame (Machine.odometryUpdate s.car)
  generalize Machine.odometryUpdate s.car = d at hframe hsettle
  generalize settle d = e at hsettle
  rw [hframe] at hsettle
  exact ⟨(congrArg (·.brk.watch) hsettle :), (congrArg (·.ssv.running) hsettle :), (congrArg (·.ssv.record.p) hsettle :),
    (congrArg Car.pst hsettle :), (congrArg Car.lif hsettle :), (congrArg Car.tlf hsettle :), (congrArg (·.dor.leaves) hsettle :),
    (congrArg (·.brk.faultStop) hsettle :), (congrArg (·.brk.copy) hsettle :), (congrArg (·.brk.standstillSince) hsettle :)⟩

end Parts

theorem Intact.readable {c : Car} (h : Intact c) : c.pst.readable = c.pst.table.filter fun x => !x.checkFailed := by
  refine List.filter_congr fun x hx => ?_
  rw [h x hx, Bool.not_false, Bool.and_true]

/-- Settles O50: each part of the record is read off `conditioned_record`, and the rest of the part off `outcome_rest`. -/
theorem odometryUpdateTakesItsSteps : Obligations.OdometryUpdateTakesItsSteps := by
  intro s hr hi hsorted o params table placed low high under stored all inUse speed
  have hreadable : s.car.pst.readable = table := hi.readable
  have hsorted : s.car.pst.readable.Pairwise fun a b => a.low ≤ b.low := List.Pairwise.filter _ hsorted
  have hused (ch : LoopChannel) : ch ∈ s.car.usedChannels ↔ inUse ch := by
    have h := s.car.usedChannels_iff hsorted ch
    rw [hreadable] at h
    exact h
  have hspeed (ch : LoopChannel) : (s.car.windowed.odo.channels.get ch).speed = speed ch := by
    rw [s.car.windowed_get, OdoChannel.close_eq]
  have hkinds := (kindSet_iff (t := s.car.pst.readable) (p := o.position) (carLength := params.carLength) hsorted).1
  rw [hreadable] at hkinds
  have hrack : (askKinds s.car).rack = true ↔ under .rack := by
    rw [askKinds, hreadable]
    exact hkinds
  obtain ⟨hwatch, hrunning, hp, hpst, hlif, htlf, hleaves, hstop, hcopy, hsince⟩ := hi.outcome_rest
  have hrun := exec_odometryUpdate hr
  have hodo := hi.outcome_odo
  have hwaiting := hi.outcome_waiting
  have hcause (cause : Cause) (h : cause ≠ .door) := hi.outcome_cause h
  have hpending (n : Nat) (h : n ≠ 18) := hi.outcome_pending h
  have hkept := s.car.conditioned_handsOn.cause
  have hget := s.car.conditioned_get
  obtain ⟨hbound, hattained⟩ := s.car.conditioned_speed
  have hrests := s.car.comesToRest_iff
  have hsince := hsince.trans s.car.conditioned_since
  have hrolls := s.car.conditioned_rolls
  have hloses := s.car.conditioned_loses
  have hlostFlag := s.car.conditioned_lost
  have hoff := s.car.conditioned_offRack
  have hon := s.car.conditioned_onRack
  have hrecord := s.car.conditioned_record
  have hmeasured := measuredDirection_spec s.car.windowed s.car.usedChannels
  have hadds : s.car.rollbackAdded = rollbackAdds s.car.lif.demand.direction (measuredDirection s.car.windowed s.car.usedChannels)
    s.car.advanceTaken := rfl
  generalize settle (Machine.odometryUpdate s.car) = d at *
  generalize s.car.conditioned = e at *
  generalize s.car.advanced.comesToRest = rests at *
  generalize measuredDirection s.car.windowed s.car.usedChannels = measured at *
  have htravel : e.odo.travelRef = o.travelRef := (congrArg Odo.travelRef hrecord :)
  refine ⟨⟨d, s.pending⟩, s.car.usedChannels, s.car.advanceTaken, hrun, rfl, hused,
    validActive_nodup .., s.car.advanceTaken_eq,
    ?record, hwatch, hwaiting, hrunning, hp, ?pst, hlif, htlf, hleaves, hstop, hcopy, ?causes⟩
  case pst =>
    dsimp only
    rw [hpst, hodo, htravel]
  case causes =>
    intro cause hrollback hlost hmesh hover hdoor
    refine (hcause cause hdoor).trans (hkept cause ?_)
    simp only [List.mem_cons, List.not_mem_nil, or_false, not_or]
    exact ⟨hrollback, hover, hmesh, hlost⟩
  case' record =>
    intro u
    have hu : e.odo = u := hodo.symm
    clear_value u
    rw [hu] at hget hbound hattained hrests hrolls hlostFlag hoff hon hrecord htravel
    have hdirection : u.measured = measured := (congrArg Odo.measured hrecord :)
    have hposition : u.position = o.position.take s.car.advanceTaken measured params := (congrArg Odo.position hrecord :)
    have hdegraded : u.degraded = decide (s.car.usedChannels.length = 1) := (congrArg Odo.degraded hrecord :)
    have hlost : u.lost = s.car.usedChannels.isEmpty := (congrArg Odo.lost hrecord :)
    refine ⟨hget, fun ch hch => hspeed ch ▸ hbound ch ((hused ch).2 hch),
      hattained.imp_right fun ⟨ch, hch, heq⟩ => ⟨ch, (hused ch).1 hch, by rw [heq, hspeed]⟩, ?measured, ?unknown,
      ?position, ?rest, ?rollback, ?offRack, ?onRack, ?degraded, ?lost, ?loses, htravel, (congrArg Odo.markerErrors hrecord :),
      (congrArg Odo.updateTimer hrecord :)⟩
  case measured =>
    rw [hdirection]
    exact hmeasured
  case unknown =>
    intro hunknown
    rw [hposition, PositionRecord.take, if_pos hunknown]
  case position =>
    intro hknown p travel fixUnc unc moved lost
    have hmoved : moved = movedPos p s.car.advanceTaken measured := by
      simp only [moved, hdirection]
      cases measured with
      | none => rfl
      | some sense => cases sense <;> rfl
    obtain ⟨htravelled, hfix, hunc, hpos, hconflicts, hlast, hlost, hkept⟩ :=
      p.take_spec s.car.advanceTaken measured params hknown
    have hfixUnc : fixUnc = p.fixWidened s.car.advanceTaken measured := by
      simp only [fixUnc, hdirection, PositionRecord.fixWidened]
    have huncTaken : unc = p.uncTaken s.car.advanceTaken measured params := by
      simp only [unc, hfixUnc, travel, PositionRecord.uncTaken, PositionRecord.travelled]
    have hloses : p.Loses s.car.advanceTaken measured params ↔ lost := by
      simp only [lost, hmoved, huncTaken, PositionRecord.Loses]
    rw [hloses] at hlost hkept
    rw [hmoved, hposition]
    exact ⟨htravelled, hfix.trans hfixUnc.symm, hunc.trans huncTaken.symm, hpos, hconflicts, hlast, hlost, hkept,
      fun h => (hlostFlag h.1 (by rw [hposition]; exact hlost h)).imp_left (hpending 8 (by decide))⟩
  case rest =>
    intro heard quiet begins dist0
    have hquiet (ch : LoopChannel) : quiet ch = (o.channels.get ch).quiet s.car.now := by
      simp only [quiet, OdoChannel.quiet]
      split
      · next x hx => rw [hx, Option.elim_some]
      · next hx => rw [hx, Option.elim_none]
    have hbegins : rests = true ↔ begins := by
      simp only [begins, hquiet]
      exact hrests
    have hdist : dist0 = s.car.rollbackAdded := by
      simp only [dist0, hadds, hdirection, rollbackAdds]
      cases s.car.lif.demand.direction <;> rfl
    have hstand : u.standstill = (rests || o.standstill) := (congrArg Odo.standstill hrecord :)
    have hdistance : u.rollbackDist = (if rests then 0 else o.rollbackDist) + s.car.rollbackAdded :=
      (congrArg Odo.rollbackDist hrecord :)
    have hrollback : u.rollback = ((!rests && o.rollback) ||
      decide (50 ≤ (if rests then 0 else o.rollbackDist) + s.car.rollbackAdded)) := (congrArg Odo.rollback hrecord :)
    rw [← hbegins, hdist, hstand, hsince, hdistance, hrollback]
    refine ⟨fun h => ?_, fun h => ?_⟩
    · rw [h]
      simp
    · rw [Bool.eq_false_of_not_eq_true h]
      simp
  case rollback =>
    intro hbefore hafter
    obtain ⟨hpresent, hflag⟩ := hrolls hbefore hafter
    exact ⟨(congrArg (Option.map CauseRecord.present) (hcause .rollback nofun)).trans hpresent,
      hflag.imp_left (hpending 13 (by decide))⟩
  case offRack => exact fun h ch => hoff (Bool.eq_false_of_not_eq_true (mt hrack.1 h)) ch
  case onRack => exact fun h ch => hon (hrack.2 h) ch
  case degraded => rw [hdegraded, decide_eq_true_iff]
  case lost => rw [hlost, List.isEmpty_iff]
  case loses =>
    intro hbefore hnone
    exact (congrArg (Option.map CauseRecord.present) (hcause .odometryLost nofun)).trans (hloses hbefore hnone)

end Sys2Proof.Machine
end

section
/-! Check words that a read finds wrong (R20, R126, R128, O54). -/

namespace Sys2Proof.Machine

/-! ## Causes counted and broadcasts placed -/

section Causes
variable (cause : FaultCause) (c : Car)

theorem broadcastFaultStop_raises : c.evr.Raises (broadcastFaultStop c).evr := by
  unfold broadcastFaultStop placeFaultStop
  split
  · split
    · exact .refl _
    · split
      · exact .refl _
      · split
        · exact .refl _
        · exact Evr.raises_take ..
  · exact .refl _

theorem broadcastFaultStop_traffic : c.lif.Traffic (broadcastFaultStop c).lif := by
  unfold broadcastFaultStop placeFaultStop
  split
  · split
    · rfl
    · split
      · exact Lif.append_traffic ..
      · split
        · exact Lif.Traffic.trans (m := { c.lif with queue := _ }) rfl (Lif.append_traffic ..)
        · rfl
  · rfl

theorem laterCauses_frame (n : Nat) : laterCauses cause n c = { c with
    brk := { c.brk with faultRecord := (laterCauses cause n c).brk.faultRecord }
    evr := (laterCauses cause n c).evr
    vrl := (laterCauses cause n c).vrl } := by
  induction n generalizing c with
  | zero => rfl
  | succ n ih => exact ih (laterCause cause c)

theorem laterCauses_raises (n : Nat) : c.evr.Raises (laterCauses cause n c).evr := by
  induction n generalizing c with
  | zero => exact .refl _
  | succ n ih => exact (Evr.raises_take ..).trans (ih (laterCause cause c))

/-- A fault record with further causes of one kind counted. -/
def FaultRecord.laterBy (f : FaultRecord) (cause : FaultCause) (n : Nat) : FaultRecord :=
  { f with laterCount := min 255 (f.laterCount + n), laterMask := f.laterMask ||| 2 ^ (cause.code - 1) }

theorem FaultRecord.laterBy_later (f : FaultRecord) (n : Nat) : (f.later cause).laterBy cause n = f.laterBy cause (n + 1) := by
  have hcount : min 255 (min 255 (f.laterCount + 1) + n) = min 255 (f.laterCount + (n + 1)) := by omega
  have hmask : f.laterMask ||| 2 ^ (cause.code - 1) ||| 2 ^ (cause.code - 1) = f.laterMask ||| 2 ^ (cause.code - 1) := by
    rw [Nat.or_assoc, Nat.or_self]
  show ({ f with laterCount := _, laterMask := _ } : FaultRecord) = { f with laterCount := _, laterMask := _ }
  exact congrArg₂ (fun a b => ({ f with laterCount := a, laterMask := b } : FaultRecord)) hcount hmask

theorem laterCauses_record (n : Nat) : (laterCauses cause (n + 1) c).brk.faultRecord =
    c.brk.faultRecord.map (·.laterBy cause (n + 1)) := by
  induction n generalizing c with
  | zero => rfl
  | succ n ih =>
    refine (ih (laterCause cause c)).trans ?_
    show (c.brk.faultRecord.map (·.later cause)).map _ = _
    rw [Option.map_map]
    exact congrArg (Option.map · c.brk.faultRecord) (funext fun f => f.laterBy_later cause (n + 1))

theorem reportFaults_stopped (n : Nat) (h : c.brk.faultStop = true) : reportFaults cause n c = laterCauses cause n c := by
  induction n generalizing c with
  | zero => rfl
  | succ n ih =>
    rw [reportFaults, reportFault, if_pos h]
    exact ih _ h

end Causes

/-! ## A table that has been read -/

theorem Segment.verified_eq (x : Segment) : x.verified = if x.mismatch then { x with checkFailed := true } else x := rfl

theorem Segment.verified_intact (x : Segment) : x.verified.mismatch = false := by
  unfold Segment.verified
  split
  · rfl
  · next h => exact Bool.eq_false_of_not_eq_true h

theorem Pst.read_intact (p : Pst) : ∀ x ∈ p.read.table, x.mismatch = false := by
  intro x hx
  obtain ⟨y, -, rfl⟩ := List.mem_map.1 hx
  exact y.verified_intact

/-- What a read of a table with failing records leaves, reported in fault stop or entering it. -/
structure Reported (c d : Car) : Prop where
  pst : d.pst = c.pst.read
  faultStop : d.brk.faultStop = true
  entered : c.brk.faultStop = false → ∃ f, d.brk.faultRecord = some f ∧ f.cause = .profileCheck ∧ f.stamp = c.now ∧
    f.laterCount = min 255 (c.pst.failures - 1) ∧ f.laterMask = if c.pst.failures = 1 then 0 else 1
  later : ∀ f, c.brk.faultStop = true → c.brk.faultRecord = some f →
    d.brk.faultRecord = some (f.laterBy .profileCheck c.pst.failures)
  pending : (d.evr.source 0).pending = true ∨ c.evr.sources.length = 0
  running : d.ssv.running = c.ssv.running
  tlf : d.tlf = c.tlf
  params : d.lif.params = c.lif.params

section Read
variable {c : Car}

/-- The part with its table read, the failing records not reported yet. -/
def Car.verified (c : Car) : Car := { c with pst := c.pst.read }

theorem Car.verified_intact : Intact c.verified := c.pst.read_intact

theorem readTable_later (h : c.brk.faultStop = true) :
    readTable c = laterCauses .profileCheck c.pst.failures c.verified := reportFaults_stopped _ _ _ h

theorem readTable_entry (h : c.brk.faultStop = false) {n : Nat} (hn : c.pst.failures = n + 1) :
    readTable c = laterCauses .profileCheck n (enterFaultStop .profileCheck c.verified) := by
  have hstopped : (enterFaultStop .profileCheck c.verified).brk.faultStop = true := by
    rw [Intact.enterFaultStop_frame Car.verified_intact]
    exact abortTest_faultStop _
  rw [readTable, hn, reportFaults, reportFault, if_neg (ne_true_of_eq_false (by exact h))]
  exact reportFaults_stopped _ _ _ hstopped

theorem enterFaultStop_pending (hi : Intact c) (cause : FaultCause) :
    ((enterFaultStop cause c).evr.source 0).pending = true ∨ c.evr.sources.length = 0 := by
  have hlength : (abortTest (c.stopping cause)).evr.sources.length = c.evr.sources.length := (abortTest_handsOn _).length
  rw [hi.enterFaultStop]
  rcases Evr.take_pending (abortTest (c.stopping cause)).evr c.now .faultStop cause.code with h | h
  · refine .inl ((broadcastFaultStop_raises _).pending 0 ?_)
    rw [Car.stopped_evr]
    exact h
  · exact .inr (Nat.le_zero.1 (hlength ▸ h))

theorem readTable_reported (h : c.pst.failures ≠ 0) : Reported c (readTable c) := by
  obtain ⟨n, hn⟩ := Nat.exists_eq_succ_of_ne_zero h
  cases hstop : c.brk.faultStop with
  | true =>
    have hread := readTable_later hstop
    have hframe := laterCauses_frame .profileCheck c.verified c.pst.failures
    have hrecord := laterCauses_record .profileCheck c.verified n
    have hpending := Evr.take_pending c.evr c.now .faultStop 257
    have hraises := laterCauses_raises .profileCheck (laterCause .profileCheck c.verified) n
    rw [hread]
    rw [← Nat.succ_eq_add_one, ← hn] at hrecord
    refine ⟨?_, ?_, fun hno => absurd (hstop.symm.trans hno) nofun, fun f _ hf => ?_, ?_, ?_, ?_, ?_⟩
    · rw [hframe]
      rfl
    · rw [hframe]
      exact hstop
    · refine hrecord.trans ?_
      rw [show c.verified.brk.faultRecord = some f from hf]
      rfl
    · rw [hn]
      exact hpending.imp (hraises.pending 0) Nat.le_zero.1
    · rw [hframe]
      rfl
    · rw [hframe]
      rfl
    · rw [hframe]
      rfl
  | false =>
    have hread := readTable_entry hstop hn
    have hframe := laterCauses_frame .profileCheck (enterFaultStop .profileCheck c.verified) n
    have hentry := Intact.enterFaultStop_frame (c := c.verified) Car.verified_intact .profileCheck
    have hfirst : (enterFaultStop .profileCheck c.verified).brk.faultRecord =
        some (c.verified.faultRecordOf .profileCheck) := by
      rw [hentry]
      exact abortTest_faultRecord _
    have htraffic : c.lif.Traffic (enterFaultStop .profileCheck c.verified).lif := by
      rw [Intact.enterFaultStop Car.verified_intact]
      have hbroadcast := broadcastFaultStop_traffic (c.verified.stopped .profileCheck)
      rw [Car.stopped_lif] at hbroadcast
      exact hbroadcast
    have hpending := enterFaultStop_pending (c := c.verified) Car.verified_intact .profileCheck
    rw [hread]
    refine ⟨?_, ?_, fun _ => ?_, fun f hyes => absurd (hstop.symm.trans hyes) nofun, ?_, ?_, ?_, ?_⟩
    · rw [hframe, hentry]
      rfl
    · rw [hframe, hentry]
      exact abortTest_faultStop _
    · cases n with
      | zero => exact ⟨_, hfirst, rfl, rfl, by rw [hn]; rfl, by rw [hn]; rfl⟩
      | succ n =>
        have hrecord := laterCauses_record .profileCheck (enterFaultStop .profileCheck c.verified) n
        rw [hfirst] at hrecord
        refine ⟨_, hrecord, rfl, rfl, ?_, ?_⟩
        · rw [hn]
          exact congrArg (min 255) (Nat.zero_add _)
        · rw [hn, if_neg (by omega)]
          exact Nat.zero_or 1
    · exact hpending.imp_left ((laterCauses_raises ..).pending 0)
    · rw [hframe, hentry]
      rfl
    · rw [hframe, hentry]
      rfl
    · rw [hframe]
      exact (congrArg Lif.params htraffic :)

end Read

/-! ## What goes on after the read -/

/-- What a command that goes on after a read keeps of what the read left. -/
structure Onward (c d : Car) : Prop where
  table : d.pst.table = c.pst.table
  windows : d.pst.windows = c.pst.windows
  faultStop : d.brk.faultStop = c.brk.faultStop
  faultRecord : d.brk.faultRecord = c.brk.faultRecord
  pending : (c.evr.source 0).pending = true → (d.evr.source 0).pending = true
  running : d.ssv.running = c.ssv.running
  tlf : d.tlf = c.tlf
  params : d.lif.params = c.lif.params

section Onward
variable {c d e : Car}

theorem Onward.refl (c : Car) : Onward c c := ⟨rfl, rfl, rfl, rfl, id, rfl, rfl, rfl⟩

theorem Onward.trans (h : Onward c d) (k : Onward d e) : Onward c e :=
  ⟨k.table.trans h.table, k.windows.trans h.windows, k.faultStop.trans h.faultStop, k.faultRecord.trans h.faultRecord,
    fun hp => k.pending (h.pending hp), k.running.trans h.running, k.tlf.trans h.tlf, k.params.trans h.params⟩

theorem HandsOn.onward {sources : List Nat} {causes : List Cause} (h : HandsOn sources causes c d) (hn : 0 ∉ sources) :
    Onward c d := by
  have hframe := h.frame
  exact ⟨(congrArg (·.pst.table) hframe :), (congrArg (·.pst.windows) hframe :), (congrArg (·.brk.faultStop) hframe :),
    (congrArg (·.brk.faultRecord) hframe :), h.pending 0 hn, (congrArg (·.ssv.running) hframe :), (congrArg Car.tlf hframe :),
    (congrArg (·.lif.params) hframe :)⟩

theorem settle_onward (c : Car) : Onward c (settle c) := by
  have hframe := settle_frame c
  exact ⟨(congrArg (·.pst.table) hframe :), (congrArg (·.pst.windows) hframe :), (congrArg (·.brk.faultStop) hframe :),
    (congrArg (·.brk.faultRecord) hframe :), settle_pending c (by decide), (congrArg (·.ssv.running) hframe :),
    (congrArg Car.tlf hframe :), (congrArg (·.lif.params) hframe :)⟩

theorem positionChanged_onward (h : Intact c) : Onward c (positionChanged c) := by
  have hframe := positionChanged_frame h
  exact ⟨(congrArg (·.pst.table) hframe :), (congrArg (·.pst.windows) hframe :), (congrArg (·.brk.faultStop) hframe :),
    (congrArg (·.brk.faultRecord) hframe :), fun hp => (congrArg (fun x : Car => (x.evr.source 0).pending) hframe).trans hp,
    (congrArg (·.ssv.running) hframe :), (congrArg Car.tlf hframe :), (congrArg (·.lif.params) hframe :)⟩

/-- The steps of an update from its read on. -/
theorem updateSteps_onward (h : Intact c) (k : KindSet) (used : List LoopChannel) (advance : Nat) :
    Onward c (shadowTest { refreshCoverage (updateConditions k used advance (fuse used c)) with
      ssv := (refreshCoverage (updateConditions k used advance (fuse used c))).ssv.updateCause }) := by
  have hsteps : HandsOn [13, 11, 12] [.rollback, .overspeed, .meshLoss, .odometryLost] c
      (updateConditions k used advance (fuse used c)) := (handsOn_odo _ _ c _).trans (updateConditions_handsOn ..)
  have hintact : Intact (updateConditions k used advance (fuse used c)) := by
    rw [hsteps.frame]
    exact h
  generalize updateConditions k used advance (fuse used c) = d at hsteps hintact
  rw [hintact.refreshCoverage]
  have hcovered : Intact { d with
      pst := { d.pst with
        coverage := coverageOf d.pst.readable d.odo.position d.lif.params.carLength d.odo.travelRef }
      ssv := d.ssv.updateCause } := hintact
  refine (hsteps.onward (by decide)).trans ?_
  have hframe := shadowTest_frame hcovered
  exact ⟨(congrArg (·.pst.table) hframe :), (congrArg (·.pst.windows) hframe :), (congrArg (·.brk.faultStop) hframe :),
    (congrArg (·.brk.faultRecord) hframe :), fun hp => (congrArg (fun x : Car => (x.evr.source 0).pending) hframe).trans hp,
    (congrArg (·.ssv.running) hframe :), (congrArg Car.tlf hframe :), (congrArg (·.lif.params) hframe :)⟩

theorem judgeMarker_onward (h : Intact c) (id : Nat) : Onward c (judgeMarker id c) := by
  have hoccur (src : Source) (d : Car) : Onward d (occur src id d) := (occur_handsOn d src id).onward nofun
  cases hfound : findMarker c.pst.readable id with
  | none =>
    rw [judgeMarker_unknown hfound]
    exact hoccur ..
  | some found =>
    obtain ⟨mp, k⟩ := found
    by_cases hout : c.odo.position.state = .known ∧
        c.odo.position.unc + c.lif.params.markerTol < ((mp : Int) - c.odo.position.pos).natAbs
    · rw [judgeMarker_conflict hfound hout]
      by_cases hconflicts : c.odo.position.conflicts = 0
      · rw [markerConflict_first hconflicts]
        exact (hoccur .markerConflict c).trans ((handsOn_odo [] [] _ _).onward nofun)
      · have hlost : Onward c (c.disproved id) := by
          refine (hoccur .markerConflict c).trans (.trans ((handsOn_odo [] [] _ (c.disproved id).odo).onward nofun) ?_)
          exact (occur_handsOn { occur .markerConflict id c with odo := (c.disproved id).odo } .positionLost 3).onward nofun
        have hintact : Intact (c.disproved id) := h
        rw [markerConflict_second hconflicts]
        exact hlost.trans (positionChanged_onward hintact)
    · have hintact : Intact (c.fixedAt mp c.lif.params.markerTol (.marker c.now id)) := h
      rw [judgeMarker_fix hfound hout]
      exact Onward.trans (d := c.fixedAt mp c.lif.params.markerTol (.marker c.now id)) ((handsOn_odo [] [] _ _).onward nofun)
        (positionChanged_onward hintact)

end Onward

/-! ## What the settled part holds (O54) -/

/-- Both channels stand under the holder FAULT_STOP, commanded to apply, once fault stop is in force. -/
theorem settle_stopped {c : Car} (h : c.brk.faultStop = true) (ch : CogChannel) :
    ((settle c).brk.channels.get ch).command = .apply ∧ ((settle c).brk.channels.get ch).holder = .faultStop := by
  have hjudged : (dorJudge c).brk.faultStop = true := by
    rw [dorJudge_frame]
    exact h
  have harbitrate : arbitrate (dorJudge c) ch = (.faultStop, .apply) := if_pos hjudged
  have hchannel : (settle c).brk.channels.get ch = judgeChannel (dorJudge c) ch := by cases ch <;> rfl
  rw [hchannel, judgeChannel, CogRecord.drive_command, CogRecord.drive_holder, harbitrate]
  exact CogRecord.takeCommand_command ..

/-- What every command that finds a failing record holds at its end. -/
structure CheckStopped (c d : Car) : Prop where
  table : d.pst.table = c.pst.table.map Segment.verified
  windows : d.pst.windows = c.pst.windows
  intact : Intact d
  faultStop : d.brk.faultStop = true
  channels : ∀ ch, (d.brk.channels.get ch).command = .apply ∧ (d.brk.channels.get ch).holder = .faultStop
  entered : c.brk.faultStop = false → ∃ f, d.brk.faultRecord = some f ∧ f.cause = .profileCheck ∧ f.stamp = c.now ∧
    f.laterCount = min 255 (c.pst.failures - 1) ∧ f.laterMask = if c.pst.failures = 1 then 0 else 1
  later : ∀ f, c.brk.faultStop = true → c.brk.faultRecord = some f →
    d.brk.faultRecord = some (f.laterBy .profileCheck c.pst.failures)
  pending : (d.evr.source 0).pending = true ∨ c.evr.sources.length = 0
  running : d.ssv.running = c.ssv.running
  params : d.lif.params = c.lif.params
  tlf : d.tlf = c.tlf

theorem Reported.settled {c d e : Car} (h : Reported c d) (k : Onward d e) : CheckStopped c (settle e) := by
  have hon := k.trans (settle_onward e)
  have htable : (settle e).pst.table = c.pst.table.map Segment.verified := by
    rw [hon.table, h.pst]
    rfl
  have hintact : Intact (settle e) := by
    unfold Intact
    rw [htable]
    exact c.pst.read_intact
  refine ⟨htable, by rw [hon.windows, h.pst]; rfl, hintact, hon.faultStop.trans h.faultStop,
    settle_stopped (k.faultStop.trans h.faultStop), fun hno => ?_, fun f hyes hf => hon.faultRecord.trans (h.later f hyes hf),
    h.pending.imp_left hon.pending, hon.running.trans h.running, hon.params.trans h.params, hon.tlf.trans h.tlf⟩
  rw [hon.faultRecord]
  exact h.entered hno

theorem readTable_odo (c : Car) (h : c.pst.failures ≠ 0) (hstop : c.brk.faultStop = false) :
    (readTable c).odo = c.odo ∧ (readTable c).pst.coverage = c.pst.coverage := by
  obtain ⟨n, hn⟩ := Nat.exists_eq_succ_of_ne_zero h
  rw [readTable_entry hstop hn, laterCauses_frame, Intact.enterFaultStop_frame Car.verified_intact]
  exact ⟨rfl, rfl⟩

theorem bodySegment_markers {b : SegmentBody} {x : Segment} (h : bodySegment b = some x) : x.markers = b.markers := by
  unfold bodySegment at h
  split at h
  · cases h
  · split at h
    · cases h
      rfl
    · cases h

section Commands
variable {s : State} (hr : Ready s) (hfail : s.car.pst.failures ≠ 0)
include hr hfail

theorem Ready.markerRead_failing {id : Nat} (h1 : 1 ≤ id) (h4095 : id ≤ 4095) :
    ∃ d, exec (.markerRead id true) s = .next ⟨d, s.pending⟩ ∧ CheckStopped s.car d := by
  have hreported := readTable_reported hfail
  have hintact : Intact (readTable s.car) := by
    unfold Intact
    rw [hreported.pst]
    exact s.car.pst.read_intact
  have hread : Machine.markerRead id true s.car = judgeMarker id (readTable s.car) := if_pos ⟨rfl, h1, h4095⟩
  refine ⟨settle (judgeMarker id (readTable s.car)), ?_, hreported.settled (judgeMarker_onward hintact id)⟩
  rw [← hread]
  exact congrArg Host.Outcome.next (hr.run _)

theorem Ready.odometryUpdate_failing (hknown : s.car.odo.position.state ≠ .unknown) :
    ∃ d, exec .odometryUpdate s = .next ⟨d, s.pending⟩ ∧ CheckStopped s.car d := by
  have hwindowed := readTable_reported (c := s.car.windowed) hfail
  have hreported : Reported s.car (readTable s.car.windowed) := ⟨hwindowed.pst, hwindowed.faultStop, hwindowed.entered,
    hwindowed.later, hwindowed.pending, hwindowed.running, hwindowed.tlf, hwindowed.params⟩
  have hread : readForExtent s.car.windowed = readTable s.car.windowed := if_neg hknown
  have hintact : Intact (readTable s.car.windowed) := by
    unfold Intact
    rw [hwindowed.pst]
    exact s.car.windowed.pst.read_intact
  refine ⟨_, exec_odometryUpdate hr, hreported.settled ?_⟩
  have hsteps := updateSteps_onward hintact (askKinds (readTable s.car.windowed))
  rw [← hread] at hsteps ⊢
  exact hsteps ..

/-- A telegram of the store that is abandoned on what it finds. -/
theorem Ready.abandoned {i : Instr} {via : Via} {t : Telegram} {kind : Nat} (hi : i.telegram = some (via, t))
    (h : Reaches via t s.car) (hp : telegramKind t ≠ 40)
    (hdeliver : ∀ n, deliver via t (s.car.reserving n) = answer via kind .faultStop [.none] (readTable (s.car.reserving n))) :
    ∃ d, exec i s = .next ⟨d, s.pending⟩ ∧ CheckStopped s.car d ∧
      (∃ l, d.lif.frames = l ++ answerFrames via kind .faultStop [.none]) ∧
      d.pst.coverage = s.car.pst.coverage ∧ d.odo = s.car.odo := by
  obtain ⟨n, hexec, -⟩ := exec_of_reaches hi hr h hp
  obtain ⟨-, hstop, -, -⟩ := h
  have hread := readTable_reported (c := s.car.reserving n) hfail
  obtain ⟨hodo, hcoverage⟩ := readTable_odo (s.car.reserving n) hfail hstop
  have hreported : Reported s.car (readTable (s.car.reserving n)) := ⟨hread.pst, hread.faultStop, hread.entered, hread.later,
    hread.pending, hread.running, hread.tlf, hread.params⟩
  rw [hdeliver n] at hexec
  generalize readTable (s.car.reserving n) = d at hexec hread hodo hcoverage hreported
  have hanswer : Onward d (answer via kind .faultStop [.none] d) := by
    unfold answer
    split
    · exact ⟨rfl, rfl, rfl, rfl, id, rfl, rfl, (congrArg Lif.params (Lif.append_traffic ..) :)⟩
    · exact .refl _
  have hframe := settle_frame (answer via kind .faultStop [.none] d)
  have hframes : (answer via kind .faultStop [.none] d).lif.frames = d.lif.frames ++ answerFrames via kind .faultStop [.none] := by
    unfold answer answerFrames
    split
    · exact Lif.append_frames ..
    · exact (List.append_nil _).symm
  have hrest : (answer via kind .faultStop [.none] d).pst = d.pst ∧ (answer via kind .faultStop [.none] d).odo = d.odo := by
    unfold answer
    split <;> exact ⟨rfl, rfl⟩
  refine ⟨_, hexec, hreported.settled hanswer, ⟨d.lif.frames, ?_⟩, ?_, ?_⟩
  · rw [hframe]
    exact hframes
  · rw [hframe]
    exact (congrArg Pst.coverage hrest.1).trans hcoverage
  · rw [hframe]
    exact hrest.2.trans hodo

theorem Ready.segmentLoad_failing {via : Via} {b : SegmentBody} (h : Reaches via (.segmentLoad b) s.car)
    (hbody : bodySegment b ≠ none) (hmarkers : (b.markers.map MarkerField.id).Nodup) :
    ∃ d, exec (.segmentLoad via b) s = .next ⟨d, s.pending⟩ ∧ CheckStopped s.car d ∧
      (∃ l, d.lif.frames = l ++ answerFrames via 20 .faultStop [.none]) ∧
      d.pst.coverage = s.car.pst.coverage ∧ d.odo = s.car.odo := by
  refine hr.abandoned hfail rfl h (by simp [telegramKind]) fun n => ?_
  obtain ⟨x, hx⟩ := Option.ne_none_iff_exists'.1 hbody
  have hids : x.markers = b.markers := bodySegment_markers hx
  have hfails : ¬ (s.car.reserving n).pst.failures = 0 := hfail
  have harrival : segmentArrival b (s.car.reserving n) = (.faultStop, readTable (s.car.reserving n)) := by
    simp only [segmentArrival, hx, hids, distinct, hmarkers, decide_true, if_true, if_neg hfails]
  exact congrArg (reply via 20) harrival

theorem Ready.segmentRemove_failing {via : Via} {id : Nat} (h : Reaches via (.segmentRemove id) s.car) (hid : id ≤ 1023) :
    ∃ d, exec (.segmentRemove via id) s = .next ⟨d, s.pending⟩ ∧ CheckStopped s.car d ∧
      (∃ l, d.lif.frames = l ++ answerFrames via 21 .faultStop [.none]) ∧
      d.pst.coverage = s.car.pst.coverage ∧ d.odo = s.car.odo := by
  refine hr.abandoned hfail rfl h (by simp [telegramKind]) fun n => ?_
  have hfails : (s.car.reserving n).pst.failures ≠ 0 := hfail
  exact congrArg (reply via 21) ((if_neg (by omega)).trans (if_pos hfails))

theorem Ready.pinWindowSet_failing {via : Via} {window value mask : Nat} {valid : Bool}
    (h : Reaches via (.pinWindowSet window valid value mask) s.car)
    (hrange : 1 ≤ window ∧ window ≤ 4 ∧ value ≤ 1023 ∧ mask ≤ 1023) :
    ∃ d, exec (.pinWindowSet via window valid value mask) s = .next ⟨d, s.pending⟩ ∧ CheckStopped s.car d ∧
      (∃ l, d.lif.frames = l ++ answerFrames via 22 .faultStop [.none]) ∧
      d.pst.coverage = s.car.pst.coverage ∧ d.odo = s.car.odo := by
  refine hr.abandoned hfail rfl h (by simp [telegramKind]) fun n => ?_
  have hfails : (s.car.reserving n).pst.failures ≠ 0 := hfail
  exact congrArg (reply via 22) ((if_neg (by omega)).trans (if_pos hfails))

end Commands

/-- Settles O54: each of the five readers is `readTable_reported` followed by what the command goes on to do. -/
theorem checkFailuresStopTheCar : Obligations.CheckFailuresStopTheCar := by
  intro i via b id window value mask valid s hr failing load remove repin marker update hfailing hcommand
  have hfail : s.car.pst.failures ≠ 0 := mt List.length_eq_zero_iff.1 hfailing
  have hdone : ∃ d, exec i s = .next ⟨d, s.pending⟩ ∧ CheckStopped s.car d ∧
      (load → ∃ l, d.lif.frames = l ++ answerFrames via 20 .faultStop [.none]) ∧
      (remove → ∃ l, d.lif.frames = l ++ answerFrames via 21 .faultStop [.none]) ∧
      (repin → ∃ l, d.lif.frames = l ++ answerFrames via 22 .faultStop [.none]) ∧
      (load ∨ remove ∨ repin → d.pst.coverage = s.car.pst.coverage ∧ d.odo = s.car.odo) := by
    rcases hcommand with ⟨rfl, hreach, hbody, hmarkers⟩ | ⟨rfl, hreach, hid⟩ | ⟨rfl, hreach, hrange⟩ |
      ⟨rfl, h1, h4095⟩ | ⟨rfl, hknown⟩
    · obtain ⟨d, hrun, hstopped, hframes, hkept⟩ := hr.segmentLoad_failing hfail hreach hbody hmarkers
      exact ⟨d, hrun, hstopped, fun _ => hframes, fun h => absurd h.1 nofun, fun h => absurd h.1 nofun, fun _ => hkept⟩
    · obtain ⟨d, hrun, hstopped, hframes, hkept⟩ := hr.segmentRemove_failing hfail hreach hid
      exact ⟨d, hrun, hstopped, fun h => absurd h.1 nofun, fun _ => hframes, fun h => absurd h.1 nofun, fun _ => hkept⟩
    · obtain ⟨d, hrun, hstopped, hframes, hkept⟩ := hr.pinWindowSet_failing hfail hreach hrange
      exact ⟨d, hrun, hstopped, fun h => absurd h.1 nofun, fun h => absurd h.1 nofun, fun _ => hframes, fun _ => hkept⟩
    · obtain ⟨d, hrun, hstopped⟩ := hr.markerRead_failing hfail h1 h4095
      exact ⟨d, hrun, hstopped, fun h => absurd h.1 nofun, fun h => absurd h.1 nofun, fun h => absurd h.1 nofun,
        fun h => h.elim (fun h => absurd h.1 nofun) fun h => h.elim (fun h => absurd h.1 nofun) fun h => absurd h.1 nofun⟩
    · obtain ⟨d, hrun, hstopped⟩ := hr.odometryUpdate_failing hfail hknown
      exact ⟨d, hrun, hstopped, fun h => absurd h.1 nofun, fun h => absurd h.1 nofun, fun h => absurd h.1 nofun,
        fun h => h.elim (fun h => absurd h.1 nofun) fun h => h.elim (fun h => absurd h.1 nofun) fun h => absurd h.1 nofun⟩
  obtain ⟨d, hrun, h, hload, hremove, hrepin, hkept⟩ := hdone
  exact ⟨⟨d, s.pending⟩, hrun, rfl, h.table, h.windows, h.intact, h.faultStop, h.channels, h.entered, h.later,
    h.pending, h.running, h.params, h.tlf, hload, hremove, hrepin, hkept⟩

end Sys2Proof.Machine
end

section
/-! Door commands that leave the leaves as they stand, and the start of an exchange (R133, R134, O41). -/

namespace Sys2Proof.Machine

/-! ## Doors judged again with their leaves and releases as they stand -/

/-- Two door records with the same leaves and releases, as they were last handed. -/
structure Dor.Stands (d e : Dor) : Prop where
  leaves : e.leaves = d.leaves
  granted : e.anyGranted = d.anyGranted
  proven : e.proven = d.proven
  condition : e.condition = d.condition

section Stands
variable {s : State} (hr : Ready s)
include hr

/-- The judgement passes closed blocks and chimed sides on and hands nothing, when the leaves and releases stand. -/
theorem Ready.settle_doors {d : Dor} (h : s.car.dor.Stands d) :
    settle { s.car with dor := d } = { s.car with dor := d.judge s.car.odo.fused } := by
  have hsafe : d.allSafe = s.car.dor.allSafe := by rw [Dor.allSafe, h.leaves, Dor.allSafe]
  have hhold : (d.judge s.car.odo.fused).hold = s.car.brk.doorHold := by
    rw [hr.doors.handedHold, ← hr.doors.judged]
    show (d.anyGranted || !d.allSafe) = (s.car.dor.anyGranted || !s.car.dor.allSafe)
    rw [h.granted, hsafe]
  have hjudge : dorJudge { s.car with dor := d } = { s.car with dor := d.judge s.car.odo.fused } := by
    rw [hr.doors.dorJudge_of (d := { s.car with dor := d }) hsafe h.proven h.condition rfl rfl rfl rfl]
    dsimp only
    rw [hhold]
  have hbrakes : BrakesSettled { s.car with dor := d.judge s.car.odo.fused } := hr.brakes.transfer rfl rfl
  rw [settle, hjudge]
  exact (brkJudge_eq_self_iff _).2 hbrakes

theorem Ready.next_doors {i : Instr} {f : Dor → Dor} (hi : exec i s = .next (s.run fun c => { c with dor := f c.dor }))
    (h : s.car.dor.Stands (f s.car.dor)) :
    exec i s = .next ⟨{ s.car with dor := (f s.car.dor).judge s.car.odo.fused }, s.pending⟩ := by
  rw [hi, hr.run, hr.settle_doors h]

theorem Ready.passed (side : Side) : s.car.dor.passed side = s.car.dor.sides.get side := by
  have hjudged : (s.car.dor.judge s.car.odo.fused).sides.get side = s.car.dor.passed side := by cases side <;> rfl
  rw [← hjudged, hr.doors.judged]

/-- Doors whose sides and waiting or running chimes stand as they stood pass no side on. -/
theorem Ready.judge_doors {d : Dor} (h : s.car.dor.Stands d) (hsides : d.sides = s.car.dor.sides)
    (hblocks : d.openBlocks = d.blocks)
    (hchimes : ∀ l, d.waitingOrRunning l (· == .chime) = s.car.dor.waitingOrRunning l (· == .chime))
    (hhold : d.hold = s.car.dor.hold) : d.judge s.car.odo.fused = d := by
  have hpassed (side : Side) : d.passed side = d.sides.get side := by
    have hchimed : d.chimed side = s.car.dor.chimed side := by simp only [Dor.chimed, h.leaves, hchimes]
    rw [Dor.passed, hsides, hchimed]
    exact hr.passed side
  have hsafe : d.allSafe = s.car.dor.allSafe := by rw [Dor.allSafe, h.leaves, Dor.allSafe]
  have hproven : d.proven = d.allSafe := by
    rw [h.proven, hsafe, ← hr.doors.judged]
    rfl
  have hcondition : d.condition = (!d.allSafe && decide (25 < s.car.odo.fused)) := by
    rw [h.condition, hsafe, ← hr.doors.judged]
    rfl
  have hheld : d.hold = (d.anyGranted || !d.allSafe) := by
    rw [hhold, h.granted, hsafe, ← hr.doors.judged]
    rw [Dor.judge_anyGranted]
    rfl
  unfold Dor.judge
  rw [hblocks, hpassed, hpassed, ← hcondition, ← hheld, ← hproven]
  rfl

end Stands

/-! ## The exchange that starts -/

section Start
variable (d : Dor) (leaf : Leaf) (cmd : DoorCommand)

/-- The doors with a waiting command sent as attempt 1 (R133). -/
def Dor.sending : Dor :=
  { d with slots := d.slots.filter fun s => !(s.1 == leaf), exchange := some ⟨leaf, .command cmd, 1, some 0, false⟩ }

theorem Dor.slot_filter (l : Leaf) : ({ d with slots := d.slots.filter fun s => !(s.1 == leaf) } : Dor).slot l =
    if l = leaf then none else d.slot l := by
  unfold Dor.slot
  dsimp only
  rw [List.find?_filter]
  split
  · next h =>
    rw [h, List.find?_eq_none.2]
    · rfl
    · intro x _
      cases x.1 == leaf <;> nofun
  · next h =>
    congr 2
    funext x
    by_cases hx : x.1 = l
    · simp [hx, h]
    · simp [hx]

theorem Dor.running_none (h : d.exchange = none) (l : Leaf) (f : DoorCommand → Bool) : d.running l f = false := by
  simp only [Dor.running, h]

theorem Dor.running_command {x : Exchange} (h : d.exchange = some x) (hm : x.message = .command cmd) (l : Leaf)
    (f : DoorCommand → Bool) : d.running l f = (x.leaf == l && f cmd) := by
  simp only [Dor.running, h, hm]

/-- A command that leaves its slot to be sent goes on waiting or running. -/
theorem Dor.sending_waits (hnone : d.exchange = none) (hslot : d.slot leaf = some cmd) (l : Leaf) (f : DoorCommand → Bool) :
    (d.sending leaf cmd).waitingOrRunning l f = d.waitingOrRunning l f := by
  have hrunning : (d.sending leaf cmd).running l f = (leaf == l && f cmd) := rfl
  have hwaits : (d.sending leaf cmd).slot l = if l = leaf then none else d.slot l := d.slot_filter leaf l
  unfold Dor.waitingOrRunning
  rw [hrunning, hwaits, d.running_none hnone]
  by_cases h : l = leaf
  · rw [if_pos h, h, hslot]
    simp
  · rw [if_neg h, beq_eq_false_iff_ne.2 (Ne.symm h)]
    simp

theorem Dor.startExchange_busy (h : d.exchange ≠ none) : d.startExchange = d := by
  obtain ⟨x, hx⟩ := Option.ne_none_iff_exists'.1 h
  simp only [Dor.startExchange, hx]

theorem Dor.startExchange_idle (h : d.choose = none) : d.startExchange = d := by
  unfold Dor.startExchange
  rw [h]
  cases d.exchange <;> rfl

theorem Dor.startExchange_poll (hnone : d.exchange = none) (h : d.choose = some (leaf, .status)) :
    d.startExchange = { d with due := none, exchange := some ⟨leaf, .status, 1, some 0, false⟩ } := by
  simp only [Dor.startExchange, hnone, h]

theorem Dor.startExchange_command (hnone : d.exchange = none) (h : d.choose = some (leaf, .command cmd)) :
    d.startExchange = d.sending leaf cmd := by
  simp only [Dor.startExchange, hnone, h]
  rfl

end Start

section Starts
variable {s : State} (hr : Ready s)
include hr

theorem exec_start_same (h : s.car.dor.startExchange = s.car.dor) : exec .doorExchangeStart s = .next s := by
  refine hr.next_same (f := fun c => { c with dor := c.dor.startExchange }) rfl ?_
  rw [h]

/-- An exchange that starts with no close block open leaves the doors judged as they were. -/
theorem exec_start {d : Dor} (h : s.car.dor.startExchange = d) (hstands : s.car.dor.Stands d) (hsides : d.sides = s.car.dor.sides)
    (hblocks : d.blocks = []) (hhold : d.hold = s.car.dor.hold)
    (hchimes : ∀ l, d.waitingOrRunning l (· == .chime) = s.car.dor.waitingOrRunning l (· == .chime)) :
    exec .doorExchangeStart s = .next { s with car := { s.car with dor := d } } := by
  have hjudge := hr.judge_doors hstands hsides (by rw [Dor.openBlocks, hblocks]; rfl) hchimes hhold
  have hrun := hr.next_doors (i := .doorExchangeStart) (f := Dor.startExchange) rfl (by rw [h]; exact hstands)
  rw [h, hjudge] at hrun
  exact hrun

end Starts

/-- Settles O41: `startExchange` by what `choose` finds, over doors whose judgement then has nothing to do but for the block. -/
theorem exchangesStartInOrder : Obligations.ExchangesStartInOrder := by
  intro s hr
  refine ⟨fun hbusy => exec_start_same hr (Dor.startExchange_busy _ hbusy), fun hnone hblocks hslots hdue => ?idle,
    fun leaf hnone hblocks hslots hdue => ?poll, fun leaf cmd rest hnone hblocks hslots hrest => ?command,
    fun b blocks leaf hnone hblocks hnext => ?block⟩
  case idle =>
    refine exec_start_same hr (Dor.startExchange_idle _ ?_)
    simp only [Dor.choose, hblocks, hslots, hdue, Option.map_none]
  case poll =>
    have hstart : s.car.dor.startExchange = { s.car.dor with
        due := none, exchange := some ⟨leaf, .status, 1, some 0, false⟩ } := by
      refine Dor.startExchange_poll _ leaf hnone ?_
      simp only [Dor.choose, hblocks, hslots, hdue, Option.map_some]
    refine exec_start hr hstart ⟨rfl, rfl, rfl, rfl⟩ rfl hblocks rfl fun l => ?_
    have hrunning : ({ s.car.dor with due := none, exchange := some ⟨leaf, .status, 1, some 0, false⟩ } : Dor).running l
        (· == .chime) = false := Bool.and_false _
    rw [Dor.waitingOrRunning, hrunning, Dor.waitingOrRunning, Dor.running_none _ hnone]
    rfl
  case command =>
    have hslot : s.car.dor.slot leaf = some cmd := by
      rw [Dor.slot, hslots, List.find?_cons_of_pos (by simp)]
      rfl
    have hfilter : (s.car.dor.slots.filter fun x => !(x.1 == leaf)) = rest := by
      rw [hslots, List.filter_cons_of_neg (by simp), List.filter_eq_self.2 fun x hx => by simpa using hrest x hx]
    have hsending : s.car.dor.sending leaf cmd =
        { s.car.dor with slots := rest, exchange := some ⟨leaf, .command cmd, 1, some 0, false⟩ } := by
      rw [Dor.sending, hfilter]
    have hstart : s.car.dor.startExchange = s.car.dor.sending leaf cmd := by
      refine Dor.startExchange_command _ leaf cmd hnone ?_
      simp only [Dor.choose, hblocks, hslots]
    rw [← hsending]
    exact exec_start hr hstart ⟨rfl, rfl, rfl, rfl⟩ rfl hblocks rfl fun l => Dor.sending_waits _ leaf cmd hnone hslot l _
  case block =>
    have hstart : s.car.dor.startExchange = s.car.dor.sending leaf .close := by
      refine Dor.startExchange_command _ leaf .close hnone ?_
      simp only [Dor.choose, hblocks, hnext, Option.map_some]
    have hrun := hr.next_doors (i := .doorExchangeStart) (f := Dor.startExchange) rfl
      (by rw [hstart]; exact ⟨rfl, rfl, rfl, rfl⟩)
    rw [hstart] at hrun
    exact ⟨_, hrun, rfl, rfl, (s.car.dor.slot_filter leaf leaf).trans (if_pos rfl), rfl, rfl, rfl, rfl, rfl, rfl, rfl⟩

end Sys2Proof.Machine
end

section
/-! Exchanges that fail (R133, R145, O42). -/

namespace Sys2Proof.Machine

section Safe
variable {s : State} (hr : Ready s)
include hr

/-- A door judgement over leaves as safe and releases as granted as they were hands nothing on. -/
theorem Ready.settle_safe {c : Car} (hbrk : c.brk = s.car.brk) (hfused : c.odo.fused = s.car.odo.fused)
    (hhold : c.ssv.record.hold = s.car.ssv.record.hold) (hsafe : c.dor.allSafe = s.car.dor.allSafe)
    (hgranted : c.dor.anyGranted = s.car.dor.anyGranted) (hproven : c.dor.proven = s.car.dor.proven)
    (hcondition : c.dor.condition = s.car.dor.condition) : settle c = { c with dor := c.dor.judge c.odo.fused } := by
  have hheld : (c.dor.judge c.odo.fused).hold = c.brk.doorHold := by
    rw [hbrk, hr.doors.handedHold, ← hr.doors.judged]
    show (c.dor.anyGranted || !c.dor.allSafe) = (s.car.dor.anyGranted || !s.car.dor.allSafe)
    rw [hgranted, hsafe]
  have hjudge : dorJudge c = { c with dor := c.dor.judge c.odo.fused } := by
    rw [hr.doors.dorJudge_of hsafe hproven hcondition hfused (by rw [hbrk]) (by rw [hbrk]) (by rw [hbrk]), hheld]
  have hbrakes : BrakesSettled { c with dor := c.dor.judge c.odo.fused } := hr.brakes.transfer hbrk hhold
  rw [settle, hjudge]
  exact (brkJudge_eq_self_iff _).2 hbrakes

end Safe

/-! ## Leaf records -/

section Leaves
variable (d : Dor) (leaf : Leaf) (f : LeafRecord → LeafRecord)

theorem PerLeaf.get_set_ne {α : Type} (q : PerLeaf α) {l k : Leaf} (x : α) (h : k ≠ l) : (q.set l x).get k = q.get k := by
  cases l <;> cases k <;> simp [PerLeaf.get, PerLeaf.set] at h ⊢

theorem Dor.modify_get_self : (d.modify leaf f).leaves.get leaf = f (d.leaves.get leaf) := PerLeaf.get_set_self ..

theorem Dor.modify_get_ne {k : Leaf} (h : k ≠ leaf) : (d.modify leaf f).leaves.get k = d.leaves.get k :=
  PerLeaf.get_set_ne _ _ h

theorem Dor.allSafe_iff : d.allSafe = true ↔ ∀ l, (d.leaves.get l).unsafeLeaf = false := by
  have hlist (l : Leaf) : l ∈ Leaf.list := by cases l <;> decide
  simp only [Dor.allSafe, List.all_eq_true, Bool.not_eq_true']
  exact ⟨fun h l => h l (hlist l), fun h l _ => h l⟩

theorem Dor.allSafe_congr {d e : Dor} (h : ∀ l, (e.leaves.get l).unsafeLeaf = (d.leaves.get l).unsafeLeaf) :
    e.allSafe = d.allSafe := by
  simp only [Dor.allSafe, h]

/-- A leaf record changed in its flags and timers alone is as safe as it was. -/
theorem Dor.allSafe_modify (h : ∀ r, (f r).state = r.state) : (d.modify leaf f).allSafe = d.allSafe := by
  refine Dor.allSafe_congr fun l => ?_
  by_cases hl : l = leaf
  · rw [hl, d.modify_get_self, LeafRecord.unsafeLeaf, h, LeafRecord.unsafeLeaf]
  · rw [d.modify_get_ne leaf f hl]

theorem Dor.allSafe_of_unsafe {d : Dor} {leaf : Leaf} (h : (d.leaves.get leaf).unsafeLeaf = true) : d.allSafe = false :=
  Bool.eq_false_of_not_eq_true fun hsafe => absurd (h.symm.trans (d.allSafe_iff.1 hsafe leaf)) nofun

theorem Dor.endExchange_idle (h : d.deferred = []) : d.endExchange leaf = { d with exchange := none } := by
  simp only [Dor.endExchange, h, List.filter_nil, List.foldl_nil]

/-- The doors with another exchange of the same leaf and message run the same command. -/
theorem Dor.running_congr {d : Dor} {x y : Exchange} (h : d.exchange = some x) (hleaf : y.leaf = x.leaf)
    (hmessage : y.message = x.message) (l : Leaf) (f : DoorCommand → Bool) :
    ({ d with exchange := some y } : Dor).running l f = d.running l f := by
  simp only [Dor.running, h, hleaf, hmessage]

end Leaves

/-! ## Attempts that fail -/

section Attempts
variable {s : State} (hr : Ready s)
include hr

theorem exec_replyTimeout : exec .doorReplyTimeout s = .next ⟨settle (replyTimeout s.car), s.pending⟩ :=
  congrArg Host.Outcome.next (hr.run _)

theorem exec_busReply (a : Nat) (reply : DouReply) (ok late : Bool) :
    exec (.doorBusReply a reply ok late) s = .next ⟨settle (busReply a reply ok late s.car), s.pending⟩ :=
  congrArg Host.Outcome.next (hr.run _)

theorem exec_reply_none {i : Instr} (h : s.car.dor.exchange = none)
    (hi : i = .doorReplyTimeout ∨ ∃ a r ok late, i = .doorBusReply a r ok late) : exec i s = .next s := by
  rcases hi with rfl | ⟨a, r, ok, late, rfl⟩
  · exact hr.next_same (f := replyTimeout) rfl (by simp only [replyTimeout, h])
  · exact hr.next_same (f := busReply a r ok late) rfl (by simp only [busReply, h])

theorem exec_reply_late (a : Nat) (r : DouReply) (ok : Bool) : exec (.doorBusReply a r ok true) s = .next s := by
  refine hr.next_same (f := busReply a r ok true) rfl ?_
  unfold busReply
  split <;> rfl

theorem exec_timeout_short {x : Exchange} (h : s.car.dor.exchange = some x) (hshort : Timer.reached 2 x.timer = false) :
    exec .doorReplyTimeout s = .next s := by
  refine hr.next_same (f := replyTimeout) rfl ?_
  have hnot : ¬ Timer.reached Limit.doorReply x.timer = true := ne_true_of_eq_false hshort
  simp only [replyTimeout, h, if_neg hnot]

/-- What makes an attempt fail: no reply in time, or one that is not what the message expects (R133). -/
theorem exec_attemptFailed {i : Instr} {x : Exchange} (h : s.car.dor.exchange = some x)
    (hi : (i = .doorReplyTimeout ∧ Timer.reached 2 x.timer = true) ∨ ∃ a r ok, i = .doorBusReply a r ok false ∧
      (a ≠ x.leaf.number ∨ ok = false ∨ x.message.expects r = false)) :
    exec i s = .next (s.run fun _ => attemptFailed x s.car) := by
  rw [hr.run]
  rcases hi with ⟨rfl, hreached⟩ | ⟨a, r, ok, rfl, hbad⟩
  · have hyes : Timer.reached Limit.doorReply x.timer = true := hreached
    rw [exec_replyTimeout hr]
    simp only [replyTimeout, h, if_pos hyes]
  · have hnot : ¬ (a = x.leaf.number ∧ ok = true ∧ x.message.expects r = true) := by
      rintro ⟨ha, hok, hexpects⟩
      rcases hbad with hbad | hbad | hbad
      · exact hbad ha
      · rw [hok] at hbad
        cases hbad
      · rw [hexpects] at hbad
        cases hbad
    rw [exec_busReply hr]
    simp only [busReply, h, if_neg hnot, Bool.false_eq_true, if_false]

theorem exec_attempt_again {i : Instr} {x : Exchange} (h : s.car.dor.exchange = some x)
    (hi : exec i s = .next (s.run fun _ => attemptFailed x s.car)) (hfew : x.attempt < 3) :
    exec i s = .next { s with car := { s.car with dor := { s.car.dor with
      exchange := some { x with attempt := x.attempt + 1, timer := some 0 } } } } := by
  have hrunning := Dor.running_congr h (y := { x with attempt := x.attempt + 1, timer := some 0 }) rfl rfl
  have hstands : s.car.dor.Stands { s.car.dor with exchange := some { x with attempt := x.attempt + 1, timer := some 0 } } :=
    ⟨rfl, rfl, rfl, rfl⟩
  have hinBlock (l : Leaf) : ({ s.car.dor with
      exchange := some { x with attempt := x.attempt + 1, timer := some 0 } } : Dor).inBlock l = s.car.dor.inBlock l := by
    rw [Dor.inBlock, hrunning]
    rfl
  have hblocks : ({ s.car.dor with exchange := some { x with attempt := x.attempt + 1, timer := some 0 } } : Dor).openBlocks =
      s.car.dor.blocks := by
    simp only [Dor.openBlocks, funext hinBlock]
    exact (congrArg Dor.blocks hr.doors.judged :)
  have hjudge := hr.judge_doors hstands rfl hblocks (fun l => by rw [Dor.waitingOrRunning, hrunning]; rfl) rfl
  have hsettle := hr.settle_doors hstands
  rw [hjudge] at hsettle
  rw [hi, hr.run, attemptFailed, if_pos hfew]
  exact congrArg (fun c => Host.Outcome.next (⟨c, s.pending⟩ : State)) hsettle

end Attempts

/-! ## The third failure -/

/-- The doors as an exchange with an UNREAD leaf fails. -/
def Dor.marked (d : Dor) (leaf : Leaf) : Dor :=
  Dor.modify { d with exchange := none } leaf fun r => { r with unreadFailure := true }

theorem Dor.marked_leaf (d : Dor) (leaf : Leaf) :
    (d.marked leaf).leaves.get leaf = { d.leaves.get leaf with unreadFailure := true } := PerLeaf.get_set_self ..

theorem Dor.marked_other (d : Dor) {leaf k : Leaf} (h : k ≠ leaf) : (d.marked leaf).leaves.get k = d.leaves.get k :=
  PerLeaf.get_set_ne _ _ h

section Third
variable {c : Car} {x : Exchange} (hvoid : x.void = false) (hdeferred : c.dor.deferred = [])
include hvoid hdeferred

/-- A commanded leaf enters FAULT. -/
theorem exchangeFailed_fault (hu : (c.dor.leaves.get x.leaf).state ≠ .unread) (hf : (c.dor.leaves.get x.leaf).state ≠ .fault)
    (hi : (c.dor.leaves.get x.leaf).state ≠ .isolated) :
    exchangeFailed x c = leafFault x.leaf .bus { c with dor := { c.dor with exchange := none } } := by
  have hend := Dor.endExchange_idle
    (leafFault x.leaf .bus { c with dor := { c.dor with exchange := none } }).dor x.leaf hdeferred
  unfold exchangeFailed
  dsimp only
  rw [hvoid]
  cases hs : (c.dor.leaves.get x.leaf).state with
  | unread => exact absurd hs hu
  | fault => exact absurd hs hf
  | isolated => exact absurd hs hi
  | _ => exact congrArg (fun d => { leafFault x.leaf .bus { c with dor := { c.dor with exchange := none } } with dor := d }) hend

theorem exchangeFailed_unread (hu : (c.dor.leaves.get x.leaf).state = .unread)
    (hmark : (c.dor.leaves.get x.leaf).unreadFailure = false) : exchangeFailed x c =
      occur .doorFault (x.leaf.number * 256 + 1) { c with dor := c.dor.marked x.leaf } := by
  have hend := Dor.endExchange_idle (c.dor.marked x.leaf) x.leaf hdeferred
  unfold exchangeFailed
  dsimp only
  rw [hvoid, hu, hmark]
  exact congrArg (fun d => { occur .doorFault (x.leaf.number * 256 + 1) c with dor := d }) hend

/-- A leaf that no command moves any more, or whose failure is marked already. -/
theorem exchangeFailed_same (h : (c.dor.leaves.get x.leaf).state = .fault ∨ (c.dor.leaves.get x.leaf).state = .isolated ∨
      ((c.dor.leaves.get x.leaf).state = .unread ∧ (c.dor.leaves.get x.leaf).unreadFailure = true)) :
    exchangeFailed x c = { c with dor := { c.dor with exchange := none } } := by
  have hend := Dor.endExchange_idle { c.dor with exchange := none } x.leaf hdeferred
  unfold exchangeFailed
  dsimp only
  rw [hvoid]
  rcases h with hs | hs | ⟨hs, hmark⟩
  · rw [hs]
    exact congrArg (fun d => { c with dor := d }) hend
  · rw [hs]
    exact congrArg (fun d => { c with dor := d }) hend
  · rw [hs, hmark]
    exact congrArg (fun d => { c with dor := d }) hend

end Third

/-! ## A leaf that enters FAULT (R145) -/

/-- The leaf record as the leaf enters FAULT. -/
def LeafRecord.faulted (r : LeafRecord) (reason : LeafReason) : LeafRecord :=
  { r with state := .fault, reason := some reason, motion := none, pause := none, closeDue := false }

section Faulted
variable (c : Car) (leaf : Leaf) (reason : LeafReason)

theorem leafFault_leaf : (leafFault leaf reason c).dor.leaves.get leaf = (c.dor.leaves.get leaf).faulted reason :=
  c.dor.modify_get_self leaf (·.faulted reason)

theorem leafFault_other {k : Leaf} (h : k ≠ leaf) : (leafFault leaf reason c).dor.leaves.get k = c.dor.leaves.get k :=
  c.dor.modify_get_ne leaf (·.faulted reason) h

/-- What the part holds once it is settled: the leaf in FAULT, its slot empty, the doors not proven, and DOOR_FAULT. -/
theorem settle_leafFault :
    (settle (leafFault leaf reason c)).dor.leaves.get leaf = (c.dor.leaves.get leaf).faulted reason ∧
    (∀ k, k ≠ leaf → (settle (leafFault leaf reason c)).dor.leaves.get k = c.dor.leaves.get k) ∧
    (settle (leafFault leaf reason c)).dor.slot leaf = none ∧
    (settle (leafFault leaf reason c)).dor.exchange = c.dor.exchange ∧
    (settle (leafFault leaf reason c)).dor.proven = false ∧ (settle (leafFault leaf reason c)).brk.doorHold = true ∧
    (((settle (leafFault leaf reason c)).evr.source 16).pending = true ∨ c.evr.sources.length ≤ 16) := by
  have hsafe : (leafFault leaf reason c).dor.allSafe = false :=
    Dor.allSafe_of_unsafe (leaf := leaf) (by rw [leafFault_leaf]; rfl)
  have hslot : (leafFault leaf reason c).dor.slot leaf = none :=
    (Dor.slot_filter (c.dor.modify leaf fun r => r.faulted reason) leaf leaf).trans (if_pos rfl)
  have hpending : ((leafFault leaf reason c).evr.source 16).pending = true ∨ c.evr.sources.length ≤ 16 :=
    Evr.take_pending c.evr c.now .doorFault _
  have hleaf := leafFault_leaf c leaf reason
  have hother := @leafFault_other c leaf reason
  have hexchange : (leafFault leaf reason c).dor.exchange = c.dor.exchange := rfl
  generalize leafFault leaf reason c = d at *
  have hframe := settle_frame d
  have hdor : (settle d).dor = d.dor.judge d.odo.fused := (congrArg Car.dor hframe :)
  have hhold : (settle d).brk.doorHold = (d.dor.judge d.odo.fused).hold := (congrArg (·.brk.doorHold) hframe :)
  rw [hhold, hdor]
  refine ⟨hleaf, fun k hk => hother hk, hslot, hexchange, hsafe, ?_, hpending.imp_left (settle_pending d (by decide))⟩
  show (d.dor.anyGranted || !d.dor.allSafe) = true
  rw [hsafe]
  exact Bool.or_true _

end Faulted

section Kept
variable {s : State} (hr : Ready s) {x : Exchange} (hvoid : x.void = false) (hdeferred : s.car.dor.deferred = [])
include hr hvoid hdeferred

theorem Ready.settle_ended (h : (s.car.dor.leaves.get x.leaf).state = .fault ∨ (s.car.dor.leaves.get x.leaf).state = .isolated ∨
      ((s.car.dor.leaves.get x.leaf).state = .unread ∧ (s.car.dor.leaves.get x.leaf).unreadFailure = true)) :
    settle (exchangeFailed x s.car) =
      { s.car with dor := Dor.judge s.car.odo.fused { s.car.dor with exchange := none } } := by
  rw [exchangeFailed_same hvoid hdeferred h]
  exact hr.settle_doors ⟨rfl, rfl, rfl, rfl⟩

theorem Ready.settle_marked (hu : (s.car.dor.leaves.get x.leaf).state = .unread)
    (hmark : (s.car.dor.leaves.get x.leaf).unreadFailure = false) : settle (exchangeFailed x s.car) =
      { occur .doorFault (x.leaf.number * 256 + 1) s.car with dor := (s.car.dor.marked x.leaf).judge s.car.odo.fused } := by
  rw [exchangeFailed_unread hvoid hdeferred hu hmark]
  exact hr.settle_safe rfl rfl rfl (Dor.allSafe_modify _ _ _ fun _ => rfl) rfl rfl rfl

end Kept

/-- Settles O42: an attempt that fails is sent again, or is `exchangeFailed` by the state of its leaf. -/
theorem exchangesFailAtTheThirdAttempt : Obligations.ExchangesFailAtTheThirdAttempt := by
  intro i s hr
  refine ⟨exec_reply_none hr, fun a r ok hi => by rw [hi, exec_reply_late hr], fun x => exec_timeout_short hr,
    fun x hx hi => ?_⟩
  have hfailed := exec_attemptFailed hr hx hi
  refine ⟨exec_attempt_again hr hx hfailed, fun hmany hvoid hdeferred => ?_⟩
  intro r
  have hrun : exec i s = .next ⟨settle (exchangeFailed x s.car), s.pending⟩ := by
    rw [hfailed, hr.run, attemptFailed, if_neg (Nat.not_lt.2 hmany)]
  by_cases hsame : r.state = .fault ∨ r.state = .isolated ∨ (r.state = .unread ∧ r.unreadFailure = true)
  case pos =>
    rw [hr.settle_ended hvoid hdeferred hsame] at hrun
    refine ⟨_, hrun, rfl, rfl, fun leaf _ => rfl, fun hu hf hiso => ?fault,
      fun hu => ⟨?leaf, fun hmark => ?unmarked, fun _ => rfl⟩, fun _ => ⟨rfl, rfl⟩, rfl, rfl, rfl, rfl⟩
    case fault => exact absurd hsame (not_or.2 ⟨hf, not_or.2 ⟨hiso, fun h => hu h.1⟩⟩)
    all_goals
      have hmarked : r.unreadFailure = true :=
        ((hsame.resolve_left fun h => absurd (hu.symm.trans h) nofun).resolve_left
          fun h => absurd (hu.symm.trans h) nofun).2
    case leaf =>
      show r = { r with unreadFailure := true }
      rw [← hmarked]
    case unmarked => exact absurd (hmarked.symm.trans hmark) nofun
  case neg =>
    obtain ⟨hf, hrest⟩ := not_or.1 hsame
    obtain ⟨hiso, hmarked⟩ := not_or.1 hrest
    by_cases hu : r.state = .unread
    case pos =>
      have hmark : r.unreadFailure = false := Bool.eq_false_of_not_eq_true fun h => hmarked ⟨hu, h⟩
      rw [hr.settle_marked hvoid hdeferred hu hmark] at hrun
      refine ⟨_, hrun, rfl, rfl, fun leaf hleaf => s.car.dor.marked_other hleaf, fun h => absurd hu h,
        fun _ => ⟨s.car.dor.marked_leaf x.leaf, fun _ => ?evr, fun h => absurd (hmark.symm.trans h) nofun⟩,
        fun h => absurd h (not_or.2 ⟨hf, hiso⟩), rfl, rfl, rfl, rfl⟩
      case evr =>
        rw [Nat.mul_comm 256]
        rfl
    case neg =>
      have hframe := settle_frame (leafFault x.leaf .bus { s.car with dor := { s.car.dor with exchange := none } })
      obtain ⟨hleaf, hothers, hslot, hexchange, hproven, hhold, hpending⟩ :=
        settle_leafFault { s.car with dor := { s.car.dor with exchange := none } } x.leaf .bus
      rw [exchangeFailed_fault hvoid hdeferred hu hf hiso] at hrun
      exact ⟨_, hrun, rfl, hexchange, hothers, fun _ _ _ => ⟨hleaf, hslot, hproven, hhold, hpending⟩, fun h => absurd h hu,
        fun h => absurd h (not_or.2 ⟨hf, hiso⟩), (congrArg Car.lif hframe :), (congrArg Car.odo hframe :),
        (congrArg Car.tlf hframe :), (congrArg Car.pst hframe :)⟩

end Sys2Proof.Machine
end

section
/-! Isolation contacts and the leaf, side and poll timers (R135, R137, R141 to R143, O45). -/

namespace Sys2Proof.Machine

/-! ## Commands in slots (R134) -/

section Slots
variable (d : Dor) (leaf : Leaf) (cmd : DoorCommand)

theorem find_map_replaced (l : List (Leaf × DoorCommand)) (h : (l.any fun s => s.1 == leaf) = true) :
    ((l.map fun s => if s.1 = leaf then (leaf, cmd) else s).find? fun s => s.1 == leaf) = some (leaf, cmd) := by
  induction l with
  | nil => cases h
  | cons x l ih =>
    rw [List.map_cons]
    by_cases hx : x.1 = leaf
    · rw [if_pos hx, List.find?_cons_of_pos (by simp)]
    · rw [if_neg hx, List.find?_cons_of_neg (by simpa using hx)]
      refine ih ?_
      rw [List.any_cons, beq_eq_false_iff_ne.2 hx, Bool.false_or] at h
      exact h

theorem find_map_other (l : List (Leaf × DoorCommand)) {k : Leaf} (h : k ≠ leaf) :
    ((l.map fun s => if s.1 = leaf then (leaf, cmd) else s).find? fun s => s.1 == k) = l.find? fun s => s.1 == k := by
  induction l with
  | nil => rfl
  | cons x l ih =>
    rw [List.map_cons]
    by_cases hx : x.1 = leaf
    · rw [if_pos hx, List.find?_cons_of_neg (by simpa using h.symm),
        List.find?_cons_of_neg (by simpa using hx.trans_ne h.symm), ih]
    · rw [if_neg hx, List.find?_cons, List.find?_cons, ih]

theorem Dor.place_uncommanded (h : (d.leaves.get leaf).state.commanded = false) : d.place leaf cmd = d := by
  rw [Dor.place, h]
  rfl

theorem Dor.place_slot (h : (d.leaves.get leaf).state.commanded = true) : (d.place leaf cmd).slot leaf = some cmd := by
  unfold Dor.place Dor.slot
  rw [h]
  by_cases hany : (d.slots.any fun s => s.1 == leaf) = true
  · simp only [Bool.not_true, Bool.false_eq_true, if_false, if_pos hany]
    rw [find_map_replaced leaf cmd d.slots hany]
    rfl
  · have hnone : (d.slots.find? fun s => s.1 == leaf) = none := by
      rw [List.find?_eq_none]
      exact fun x hx heq => hany (List.any_eq_true.2 ⟨x, hx, heq⟩)
    simp only [Bool.not_true, Bool.false_eq_true, if_false, if_neg hany]
    rw [List.find?_append, hnone]
    simp

theorem Dor.place_slot_ne {k : Leaf} (h : k ≠ leaf) : (d.place leaf cmd).slot k = d.slot k := by
  unfold Dor.place Dor.slot
  split
  · rfl
  · split
    · dsimp only
      rw [find_map_other leaf cmd d.slots h]
    · dsimp only
      rw [List.find?_append, List.find?_singleton, if_neg (by simpa using h.symm), Option.or_none]

/-- A command placed touches the slots alone. -/
theorem Dor.place_frame : d.place leaf cmd = { d with slots := (d.place leaf cmd).slots } := by
  unfold Dor.place
  split
  · rfl
  · split <;> rfl

end Slots

/-! ## Close blocks (R141) -/

theorem Dor.openBlocks_stay {d : Dor} (h : ∀ b ∈ d.blocks, b.leaves ≠ [] ∧ ∀ l ∈ b.leaves, d.inBlock l = true) :
    d.openBlocks = d.blocks := by
  have hmap : (d.blocks.map fun b => { b with leaves := b.leaves.filter d.inBlock }) = d.blocks := by
    refine (List.map_congr_left fun b hb => ?_).trans (List.map_id _)
    rw [List.filter_eq_self.2 (h b hb).2]
    rfl
  rw [Dor.openBlocks, hmap]
  refine List.filter_eq_self.2 fun b hb => ?_
  rw [Bool.not_eq_true', List.isEmpty_eq_false_iff]
  exact (h b hb).1

theorem Dor.mem_openBlocks {d : Dor} {b : CloseBlock} (h : b ∈ d.openBlocks) :
    b.leaves ≠ [] ∧ ∀ l ∈ b.leaves, d.inBlock l = true := by
  obtain ⟨hmem, hne⟩ := List.mem_filter.1 h
  obtain ⟨a, -, rfl⟩ := List.mem_map.1 hmem
  rw [Bool.not_eq_true', List.isEmpty_eq_false_iff] at hne
  exact ⟨hne, fun l hl => (List.mem_filter.1 hl).2⟩

theorem Ready.blocks_stand {s : State} (hr : Ready s) :
    ∀ b ∈ s.car.dor.blocks, b.leaves ≠ [] ∧ ∀ l ∈ b.leaves, s.car.dor.inBlock l = true := by
  have hblocks : s.car.dor.openBlocks = s.car.dor.blocks := (congrArg Dor.blocks hr.doors.judged :)
  intro b hb
  rw [← hblocks] at hb
  exact Dor.mem_openBlocks hb

/-! ## Polls (R135) -/

section Poll
variable {s : State} (hr : Ready s)
include hr

/-- Doors changed in what the polls keep alone are judged as they were. -/
theorem Ready.settle_polls {due : Option Leaf} {turn : Leaf} {timer : Timer} :
    settle { s.car with dor := { s.car.dor with pollTimer := timer, due := due, turn := turn } } =
      { s.car with dor := { s.car.dor with pollTimer := timer, due := due, turn := turn } } := by
  have hstands : s.car.dor.Stands { s.car.dor with pollTimer := timer, due := due, turn := turn } := ⟨rfl, rfl, rfl, rfl⟩
  have hjudge := hr.judge_doors hstands rfl (congrArg Dor.blocks hr.doors.judged :) (fun _ => rfl) rfl
  exact (hr.settle_doors hstands).trans (congrArg (fun d => { s.car with dor := d }) hjudge)

theorem exec_poll_due {l : Leaf} (h : s.car.dor.due = some l) : exec .pollTimerExpiry s =
    .next { s with car := { s.car with dor := { s.car.dor with pollTimer := some 0 } } } := by
  have hpoll : s.car.dor.pollExpiry = { s.car.dor with pollTimer := some 0 } := by simp only [Dor.pollExpiry, h]
  have hrun : exec .pollTimerExpiry s = .next ⟨settle { s.car with dor := s.car.dor.pollExpiry }, s.pending⟩ :=
    congrArg Host.Outcome.next (hr.run _)
  rw [hrun, hpoll]
  exact congrArg (fun c => Host.Outcome.next (⟨c, s.pending⟩ : State)) hr.settle_polls

theorem exec_poll_turn (h : s.car.dor.due = none) : exec .pollTimerExpiry s =
    .next { s with car := { s.car with dor := { s.car.dor with
      pollTimer := some 0
      due := if (s.car.dor.leaves.get s.car.dor.turn).state = .isolated then none else some s.car.dor.turn
      turn := s.car.dor.turn.next } } } := by
  have hpoll : s.car.dor.pollExpiry = { s.car.dor with
      pollTimer := some 0
      due := if (s.car.dor.leaves.get s.car.dor.turn).state = .isolated then none else some s.car.dor.turn
      turn := s.car.dor.turn.next } := by simp only [Dor.pollExpiry, h]
  have hrun : exec .pollTimerExpiry s = .next ⟨settle { s.car with dor := s.car.dor.pollExpiry }, s.pending⟩ :=
    congrArg Host.Outcome.next (hr.run _)
  rw [hrun, hpoll]
  exact congrArg (fun c => Host.Outcome.next (⟨c, s.pending⟩ : State)) hr.settle_polls

end Poll

/-! ## The motion timer (R143, R145) -/

section Motion
variable {s : State} (hr : Ready s) {leaf : Leaf}
include hr

theorem exec_motion_same (h : Timer.reached 800 (s.car.dor.leaves.get leaf).motion = false ∨
      ((s.car.dor.leaves.get leaf).state ≠ .opening ∧ (s.car.dor.leaves.get leaf).state ≠ .closing ∧
        (s.car.dor.leaves.get leaf).state ≠ .reopening)) : exec (.motionTimeout leaf) s = .next s := by
  refine hr.next_same (f := motionExpiry leaf) rfl ?_
  unfold motionExpiry
  dsimp only
  split
  · next hreached =>
    obtain ⟨hopening, hclosing, hreopening⟩ := h.resolve_left fun hno => absurd (hno.symm.trans hreached) nofun
    split
    · next hs => exact absurd hs hopening
    · next hs => exact absurd hs hclosing
    · next hs => exact absurd hs hreopening
    · rfl
  · rfl

/-- A moving leaf that enters FAULT was not safe before either, so that its DOOR_FAULT is all that occurs. -/
theorem settle_leafFault_moving (reason : LeafReason) (h : (s.car.dor.leaves.get leaf).unsafeLeaf = true) :
    settle (leafFault leaf reason s.car) = { leafFault leaf reason s.car with
      dor := (leafFault leaf reason s.car).dor.judge s.car.odo.fused } := by
  refine hr.settle_safe rfl rfl rfl ?_ rfl rfl rfl
  rw [Dor.allSafe_of_unsafe h, Dor.allSafe_of_unsafe (leaf := leaf)]
  rw [leafFault_leaf]
  rfl

theorem exec_motion_fault (hreached : Timer.reached 800 (s.car.dor.leaves.get leaf).motion = true)
    (h : (s.car.dor.leaves.get leaf).state = .opening ∨ (s.car.dor.leaves.get leaf).state = .closing ∨
      (s.car.dor.leaves.get leaf).state = .reopening) : exec (.motionTimeout leaf) s =
      .next ⟨{ leafFault leaf .motionTimeout s.car with
        dor := (leafFault leaf .motionTimeout s.car).dor.judge s.car.odo.fused }, s.pending⟩ := by
  have hexpiry : motionExpiry leaf s.car = leafFault leaf .motionTimeout s.car := by
    refine (if_pos hreached).trans ?_
    rcases h with hs | hs | hs <;> rw [hs]
  have hunsafe : (s.car.dor.leaves.get leaf).unsafeLeaf = true := by
    unfold LeafRecord.unsafeLeaf
    rcases h with hs | hs | hs <;> rw [hs] <;> rfl
  have hrun : exec (.motionTimeout leaf) s = .next ⟨settle (motionExpiry leaf s.car), s.pending⟩ :=
    congrArg Host.Outcome.next (hr.run _)
  rw [hrun, hexpiry, settle_leafFault_moving hr _ hunsafe]

end Motion

/-! ## The pause timer (R142) -/

/-- The doors as a pause ends in REOPENING. -/
def Dor.pauseEnded (d : Dor) (leaf : Leaf) : Dor := (d.modify leaf fun r => { r with pause := none }).place leaf .close

theorem Dor.pauseEnded_leaves (d : Dor) (leaf : Leaf) :
    (d.pauseEnded leaf).leaves = d.leaves.set leaf { d.leaves.get leaf with pause := none } := by
  rw [Dor.pauseEnded, Dor.place_frame]
  rfl

theorem Dor.pauseEnded_slot {d : Dor} {leaf : Leaf} (h : (d.leaves.get leaf).state = .reopening) :
    (d.pauseEnded leaf).slot leaf = some .close := by
  refine Dor.place_slot _ leaf .close ?_
  rw [Dor.modify_get_self, h]
  rfl

/-- A leaf that is in a close block stays in it as its pause ends. -/
theorem Dor.pauseEnded_inBlock {d : Dor} {leaf : Leaf} (h : (d.leaves.get leaf).state = .reopening) {l : Leaf}
    (hl : d.inBlock l = true) : (d.pauseEnded leaf).inBlock l = true := by
  have hrunning : (d.pauseEnded leaf).running l (· == .close) = d.running l (· == .close) := by
    rw [Dor.pauseEnded, Dor.place_frame]
    rfl
  have hleaves : (d.pauseEnded leaf).leaves.get l = { d.leaves.get l with
      pause := if l = leaf then none else (d.leaves.get l).pause } := by
    rw [Dor.pauseEnded_leaves]
    by_cases hl : l = leaf
    · rw [hl, PerLeaf.get_set_self, if_pos rfl]
    · rw [PerLeaf.get_set_ne _ _ hl, if_neg hl]
  have hslot : d.slot l = some .close → (d.pauseEnded leaf).slot l = some .close := fun hs => by
    by_cases hl : l = leaf
    · rw [hl, Dor.pauseEnded_slot h]
    · rw [Dor.pauseEnded, Dor.place_slot_ne _ _ _ hl]
      exact hs
  unfold Dor.inBlock at hl ⊢
  rw [hrunning, hleaves]
  simp only [Bool.and_eq_true, Bool.or_eq_true, beq_iff_eq] at hl ⊢
  exact ⟨hl.1, hl.2.imp_left fun hs => ⟨hslot hs.1, hs.2⟩⟩

section Pause
variable {s : State} (hr : Ready s) {leaf : Leaf}
include hr

theorem exec_pause_same (h : Timer.reached 200 (s.car.dor.leaves.get leaf).pause = false ∨
      (s.car.dor.leaves.get leaf).state ≠ .reopening) : exec (.reopenPauseEnd leaf) s = .next s := by
  have hpause : s.car.dor.pauseEnd leaf = s.car.dor := by
    exact if_neg fun hend => h.elim (fun hno => ne_true_of_eq_false hno hend.1) fun hno => hno hend.2
  exact hr.next_same (f := fun c => { c with dor := c.dor.pauseEnd leaf }) rfl (by rw [hpause])

theorem exec_pause_end (hreached : Timer.reached 200 (s.car.dor.leaves.get leaf).pause = true)
    (h : (s.car.dor.leaves.get leaf).state = .reopening) : exec (.reopenPauseEnd leaf) s =
      .next ⟨{ s.car with dor := (s.car.dor.pauseEnded leaf).judge s.car.odo.fused }, s.pending⟩ := by
  have hpause : s.car.dor.pauseEnd leaf = s.car.dor.pauseEnded leaf := if_pos ⟨hreached, h⟩
  have hframe : s.car.dor.pauseEnded leaf = { s.car.dor.modify leaf fun r => { r with pause := none } with
      slots := (s.car.dor.pauseEnded leaf).slots } := Dor.place_frame ..
  have hsafe : (s.car.dor.pauseEnded leaf).allSafe = s.car.dor.allSafe := by
    rw [hframe]
    exact Dor.allSafe_modify s.car.dor leaf (fun r => { r with pause := none }) fun _ => rfl
  have hrun : exec (.reopenPauseEnd leaf) s = .next ⟨settle { s.car with dor := s.car.dor.pauseEnd leaf }, s.pending⟩ :=
    congrArg Host.Outcome.next (hr.run _)
  rw [hrun, hpause, hr.settle_safe (c := { s.car with dor := s.car.dor.pauseEnded leaf }) rfl rfl rfl hsafe
    (by rw [hframe]; rfl) (by rw [hframe]; rfl) (by rw [hframe]; rfl)]

end Pause

/-! ## The warning timer (R141) -/

/-- Commands placed for several leaves touch the slots alone. -/
theorem Dor.placeAll_frame (cmd : DoorCommand) (l : List Leaf) (d : Dor) : l.foldl (Dor.place · · cmd) d = { d with
    slots := (l.foldl (Dor.place · · cmd) d).slots } := by
  induction l generalizing d with
  | nil => rfl
  | cons leaf l ih =>
    rw [List.foldl_cons, ih]
    rw [Dor.place_frame]

theorem Dor.placeAll_slot (cmd : DoorCommand) (ls : List Leaf) (d : Dor) {leaf : Leaf}
    (h : (d.leaves.get leaf).state.commanded = true) (hplaced : d.slot leaf = some cmd ∨ leaf ∈ ls) :
    (ls.foldl (Dor.place · · cmd) d).slot leaf = some cmd := by
  induction ls generalizing d with
  | nil => exact hplaced.resolve_right List.not_mem_nil
  | cons k ls ih =>
    have hleaves : (d.place k cmd).leaves = d.leaves := by rw [Dor.place_frame]
    refine ih _ (by rw [hleaves]; exact h) ?_
    by_cases hk : leaf = k
    · subst hk
      exact .inl (d.place_slot leaf cmd h)
    · rw [Dor.place_slot_ne d k cmd hk]
      exact hplaced.imp_right fun hmem => (List.mem_cons.1 hmem).resolve_left hk

/-- A side's due leaves. -/
def Dor.dueLeaves (d : Dor) (side : Side) : List Leaf := side.leaves.filter fun l => (d.leaves.get l).closeDue

/-- The doors as a side's warning ends. -/
def Dor.warned (d : Dor) (side : Side) : Dor :=
  let e := (d.dueLeaves side).foldl (Dor.place · · .close)
    { d with sides := d.sides.set side { d.sides.get side with step := .none, warning := none } }
  if (d.dueLeaves side).isEmpty then e else { e with blocks := e.blocks ++ [⟨side, d.dueLeaves side⟩] }

section Warned
variable (d : Dor) (side : Side)

theorem Dor.warned_frame : d.warned side = { d with
    sides := d.sides.set side { d.sides.get side with step := .none, warning := none }
    slots := (d.warned side).slots
    blocks := d.blocks ++ if (d.dueLeaves side).isEmpty then [] else [⟨side, d.dueLeaves side⟩] } := by
  unfold Dor.warned
  dsimp only
  rw [Dor.placeAll_frame]
  split
  · rw [List.append_nil]
  · rfl

theorem Dor.warned_slot {leaf : Leaf} (hside : leaf ∈ side.leaves) (hdue : (d.leaves.get leaf).closeDue = true)
    (h : (d.leaves.get leaf).state.commanded = true) : (d.warned side).slot leaf = some .close := by
  have hplaced := Dor.placeAll_slot .close (d.dueLeaves side)
    { d with sides := d.sides.set side { d.sides.get side with step := .none, warning := none } } h
    (.inr (List.mem_filter.2 ⟨hside, hdue⟩))
  unfold Dor.warned
  dsimp only
  split
  · exact hplaced
  · exact hplaced

/-- A due leaf with its CLOSE placed is in the block that opens. -/
theorem Dor.warned_block {leaf : Leaf} (hside : leaf ∈ side.leaves) (hdue : (d.leaves.get leaf).closeDue = true)
    (h : (d.leaves.get leaf).state.commanded = true) :
    ∃ b ∈ (d.warned side).openBlocks, b.side = side ∧ leaf ∈ b.leaves := by
  have hmem : leaf ∈ d.dueLeaves side := List.mem_filter.2 ⟨hside, hdue⟩
  have hblocks : (d.warned side).blocks = d.blocks ++ [⟨side, d.dueLeaves side⟩] := by
    rw [d.warned_frame]
    dsimp only
    rw [List.isEmpty_eq_false_iff.2 (List.ne_nil_of_mem hmem)]
    rfl
  have hleaves : (d.warned side).leaves = d.leaves := by rw [d.warned_frame]
  have hin : (d.warned side).inBlock leaf = true := by
    rw [Dor.inBlock, hleaves, d.warned_slot side hside hdue h, hdue, h]
    rfl
  have hkept : leaf ∈ (d.dueLeaves side).filter (d.warned side).inBlock := List.mem_filter.2 ⟨hmem, hin⟩
  refine ⟨⟨side, (d.dueLeaves side).filter (d.warned side).inBlock⟩, ?_, rfl, hkept⟩
  rw [Dor.openBlocks, hblocks]
  have hmapped := List.mem_append_right d.blocks (List.mem_singleton_self (⟨side, d.dueLeaves side⟩ : CloseBlock))
  refine List.mem_filter.2 ⟨List.mem_map.2 ⟨_, hmapped, rfl⟩, ?_⟩
  rw [List.isEmpty_eq_false_iff.2 (List.ne_nil_of_mem hkept)]
  rfl

end Warned

section Warning
variable {s : State} (hr : Ready s) {side : Side}
include hr

theorem exec_warning_short (h : Timer.reached 200 (s.car.dor.sides.get side).warning = false) :
    exec (.warningTimerEnd side) s = .next s := by
  have hnot : ¬ Timer.reached Limit.warning (s.car.dor.sides.get side).warning = true := ne_true_of_eq_false h
  have hend : s.car.dor.warningEnd side = s.car.dor := if_neg hnot
  exact hr.next_same (f := fun c => { c with dor := c.dor.warningEnd side }) rfl (by rw [hend])

theorem exec_warning_end (h : Timer.reached 200 (s.car.dor.sides.get side).warning = true) :
    exec (.warningTimerEnd side) s =
      .next ⟨{ s.car with dor := (s.car.dor.warned side).judge s.car.odo.fused }, s.pending⟩ := by
  have hend : s.car.dor.warningEnd side = s.car.dor.warned side := if_pos h
  have hframe := s.car.dor.warned_frame side
  have hgranted : (s.car.dor.warned side).anyGranted = s.car.dor.anyGranted := by
    rw [hframe]
    cases side <;> rfl
  have hstands : s.car.dor.Stands (s.car.dor.warned side) :=
    ⟨by rw [hframe], hgranted, by rw [hframe], by rw [hframe]⟩
  rw [← hend] at hstands ⊢
  exact hr.next_doors (f := fun d => d.warningEnd side) rfl hstands

end Warning

/-! ## Isolation contacts (R137) -/

/-- The leaf record as its contact closes. -/
def LeafRecord.isolatedNow (r : LeafRecord) : LeafRecord := { r with
  state := .isolated, reason := none, closeDue := false, obstacles := 0, motion := none, pause := none, contactClosed := true,
  unreadFailure := false }

section Isolated
variable (d : Dor) (leaf : Leaf)

theorem Dor.isolate_closed : d.isolate leaf true =
    { d with
      leaves := d.leaves.set leaf (d.leaves.get leaf).isolatedNow
      slots := d.slots.filter fun s => !(s.1 == leaf)
      due := if d.due = some leaf then none else d.due
      exchange := d.exchange.map fun x => if x.leaf = leaf then { x with void := true } else x
      deferred := d.deferred.filter fun x => !(x.1 == leaf) } := rfl

theorem Dor.isolate_slot : (d.isolate leaf true).slot leaf = none := by
  rw [Dor.isolate_closed]
  exact (d.slot_filter leaf leaf).trans (if_pos rfl)

/-- An isolated leaf leaves its close block. -/
theorem Dor.isolate_block {b : CloseBlock} (h : b ∈ (d.isolate leaf true).openBlocks) : leaf ∉ b.leaves := fun hmem => by
  have hin := (Dor.mem_openBlocks h).2 leaf hmem
  have hstate : ((d.isolate leaf true).leaves.get leaf).state = .isolated :=
    congrArg LeafRecord.state (PerLeaf.get_set_self d.leaves leaf (d.leaves.get leaf).isolatedNow)
  rw [Dor.inBlock, hstate] at hin
  cases hin

theorem Dor.isolate_due : (d.isolate leaf true).due ≠ some leaf := by
  rw [Dor.isolate_closed]
  dsimp only
  split
  · nofun
  · assumption

theorem Dor.isolate_exchange {x : Exchange} (hx : d.exchange = some x) (hleaf : x.leaf = leaf) :
    (d.isolate leaf true).exchange = some { x with void := true } := by
  rw [Dor.isolate_closed]
  dsimp only
  rw [hx, Option.map_some, if_pos hleaf]

end Isolated

section Contact
variable {s : State} (hr : Ready s) {leaf : Leaf}
include hr

theorem exec_contact_same {closed : Bool} (h : (s.car.dor.leaves.get leaf).contactClosed = closed) :
    exec (.isolationContactChange leaf closed) s = .next s := by
  have hsame : contactChange leaf closed s.car = s.car := if_pos h
  refine (congrArg Host.Outcome.next (hr.runPin (contactHeld leaf closed) _)).trans ?_
  rw [hsame, hr.settled]

theorem exec_contact {closed : Bool} (h : (s.car.dor.leaves.get leaf).contactClosed ≠ closed) :
    exec (.isolationContactChange leaf closed) s =
      .next ⟨settle { s.car with dor := s.car.dor.isolate leaf closed }, s.pending⟩ := by
  have hchanged : contactChange leaf closed s.car = { s.car with dor := s.car.dor.isolate leaf closed } := if_neg h
  refine (congrArg Host.Outcome.next (hr.runPin (contactHeld leaf closed) _)).trans ?_
  rw [hchanged]

end Contact

/-- Settles O45: each command by what it makes of the doors, which the judgement then passes on. -/
theorem leafTimersAndIsolation : Obligations.LeafTimersAndIsolation := by
  intro leaf side s hr
  refine ⟨fun closed => exec_contact_same hr, fun hopen => ?closes, fun hclosed => ?opens, exec_motion_same hr,
    fun hreached hmoves => ?motion, exec_warning_short hr, fun hreached => ?warning, fun l => exec_poll_due hr,
    fun hdue => ?turn, exec_pause_same hr, fun hreached hreopening => ?pause⟩
  case' closes =>
    have hne : (s.car.dor.leaves.get leaf).contactClosed ≠ true := ne_true_of_eq_false hopen
    have hframe := settle_frame { s.car with dor := s.car.dor.isolate leaf true }
  case' opens =>
    have hne : (s.car.dor.leaves.get leaf).contactClosed ≠ false := ne_false_of_eq_true hclosed
    have hframe := settle_frame { s.car with dor := s.car.dor.isolate leaf false }
  case closes =>
    have hdor : (settle { s.car with dor := s.car.dor.isolate leaf true }).dor =
        (s.car.dor.isolate leaf true).judge s.car.odo.fused := (congrArg Car.dor hframe :)
    refine ⟨_, exec_contact hr hne, rfl, ?_, ?_, ?_, ?_, ?_, (congrArg Car.lif hframe :), (congrArg Car.odo hframe :),
      (congrArg Car.tlf hframe :), (congrArg Car.pst hframe :)⟩
    all_goals dsimp only; rw [hdor]
    · rfl
    · exact s.car.dor.isolate_slot leaf
    · exact s.car.dor.isolate_due leaf
    · exact fun b => s.car.dor.isolate_block leaf
    · exact fun x => s.car.dor.isolate_exchange leaf
  case opens =>
    have hdor : (settle { s.car with dor := s.car.dor.isolate leaf false }).dor =
        (s.car.dor.isolate leaf false).judge s.car.odo.fused := (congrArg Car.dor hframe :)
    refine ⟨_, exec_contact hr hne, rfl, ?_, (congrArg Car.lif hframe :), (congrArg Car.odo hframe :),
      (congrArg Car.tlf hframe :), (congrArg Car.pst hframe :)⟩
    dsimp only
    rw [hdor]
    rfl
  case motion =>
    refine ⟨_, exec_motion_fault hr hreached hmoves, rfl, rfl, ?_, ?_, rfl, rfl, rfl, rfl⟩
    · exact (Dor.slot_filter (s.car.dor.modify leaf (·.faulted .motionTimeout)) leaf leaf).trans (if_pos rfl)
    · rw [Nat.mul_comm 256]
      rfl
  case warning =>
    have hframe := s.car.dor.warned_frame side
    have hside : (s.car.dor.warned side).sides.get side = { s.car.dor.sides.get side with step := .none, warning := none } := by
      rw [hframe]
      cases side <;> rfl
    have hpassed : ((s.car.dor.warned side).judge s.car.odo.fused).sides.get side =
        { s.car.dor.sides.get side with step := .none, warning := none } := by
      have hjudged : ((s.car.dor.warned side).judge s.car.odo.fused).sides.get side =
          (s.car.dor.warned side).passed side := by cases side <;> rfl
      rw [hjudged, Dor.passed, hside]
      exact if_neg fun h => absurd h.1 nofun
    refine ⟨_, exec_warning_end hr hreached, rfl, by rw [hpassed], by rw [hpassed],
      (congrArg Dor.leaves hframe :), fun l hl hdue hcommanded => ?_, rfl, rfl, rfl, rfl⟩
    have hmem : l ∈ side.leaves := by
      subst hl
      cases l <;> decide
    exact ⟨s.car.dor.warned_slot side hmem hdue hcommanded, s.car.dor.warned_block side hmem hdue hcommanded⟩
  case turn =>
    rw [exec_poll_turn hr hdue]
    cases s.car.dor.turn <;> rfl
  case pause =>
    have hblocks : (s.car.dor.pauseEnded leaf).openBlocks = s.car.dor.blocks := by
      have hsame : (s.car.dor.pauseEnded leaf).blocks = s.car.dor.blocks := by
        rw [Dor.pauseEnded, Dor.place_frame]
        rfl
      rw [← hsame]
      refine Dor.openBlocks_stay fun b hb => ?_
      obtain ⟨hne, hin⟩ := hr.blocks_stand b (hsame ▸ hb)
      exact ⟨hne, fun l hl => Dor.pauseEnded_inBlock hreopening (hin l hl)⟩
    refine ⟨_, exec_pause_end hr hreached hreopening, rfl, Dor.pauseEnded_slot hreopening, Dor.pauseEnded_leaves .., hblocks,
      ?_, rfl, rfl, rfl, rfl⟩
    show (s.car.dor.pauseEnded leaf).exchange = s.car.dor.exchange
    rw [Dor.pauseEnded, Dor.place_frame]
    rfl

end Sys2Proof.Machine
end

section
/-! Answered exchanges: status replies and acknowledgements (R136, R139 to R142, O43). -/

namespace Sys2Proof.Machine

/-! ## What moves one leaf -/

/-- The part with one leaf's record and slot changed, and with what that makes occur. -/
structure Car.MovesLeaf (leaf : Leaf) (c d : Car) : Prop where
  frame : d = { c with
    dor := { c.dor with leaves := d.dor.leaves, slots := d.dor.slots }, evr := d.evr, vrl := d.vrl }
  leaves : ∀ k, k ≠ leaf → d.dor.leaves.get k = c.dor.leaves.get k
  slots : ∀ k, k ≠ leaf → d.dor.slot k = c.dor.slot k

section Moves
variable {leaf : Leaf}

theorem Car.MovesLeaf.refl (c : Car) : c.MovesLeaf leaf c := ⟨rfl, fun _ _ => rfl, fun _ _ => rfl⟩

theorem Car.MovesLeaf.trans {c d e : Car} (h : c.MovesLeaf leaf d) (k : d.MovesLeaf leaf e) : c.MovesLeaf leaf e := by
  refine ⟨k.frame.trans ?_, fun l hl => (k.leaves l hl).trans (h.leaves l hl), fun l hl => (k.slots l hl).trans (h.slots l hl)⟩
  rw [h.frame]

theorem Car.movesLeaf_modify (c : Car) (f : LeafRecord → LeafRecord) :
    c.MovesLeaf leaf { c with dor := c.dor.modify leaf f } :=
  ⟨rfl, fun _ hl => c.dor.modify_get_ne leaf f hl, fun _ _ => rfl⟩

theorem Car.movesLeaf_place (c : Car) (cmd : DoorCommand) : c.MovesLeaf leaf { c with dor := c.dor.place leaf cmd } := by
  have hframe := c.dor.place_frame leaf cmd
  have hleaves : (c.dor.place leaf cmd).leaves = c.dor.leaves := (congrArg Dor.leaves hframe :)
  refine ⟨?_, fun k _ => congrArg (·.get k) hleaves, fun k hk => c.dor.place_slot_ne leaf cmd hk⟩
  dsimp only
  rw [hleaves]
  exact congrArg (fun d => { c with dor := d }) hframe

theorem Dor.unplace_slot_ne (d : Dor) {f : Leaf → DoorCommand → Bool} (k : Leaf) (h : ∀ cmd, f k cmd = false) :
    (d.unplace f).slot k = d.slot k := by
  unfold Dor.unplace Dor.slot
  dsimp only
  rw [List.find?_filter]
  congr 2
  funext x
  by_cases hx : x.1 = k
  · simp [hx, h]
  · simp [hx]

theorem Car.movesLeaf_unplace (c : Car) {f : Leaf → DoorCommand → Bool} (h : ∀ k cmd, k ≠ leaf → f k cmd = false) :
    c.MovesLeaf leaf { c with dor := c.dor.unplace f } :=
  ⟨rfl, fun _ _ => rfl, fun k hk => c.dor.unplace_slot_ne k fun cmd => h k cmd hk⟩

theorem Car.movesLeaf_occur (c : Car) (src : Source) (detail : Nat) : c.MovesLeaf leaf (occur src detail c) :=
  ⟨rfl, fun _ _ => rfl, fun _ _ => rfl⟩

theorem leafFault_moves (reason : LeafReason) (c : Car) : c.MovesLeaf leaf (leafFault leaf reason c) :=
  ((c.movesLeaf_modify (·.faulted reason)).trans
    (Car.movesLeaf_unplace _ fun _ _ hk => beq_eq_false_iff_ne.2 hk)).trans (Car.movesLeaf_occur ..)

theorem acknowledged_moves (cmd : DoorCommand) (c : Car) : c.MovesLeaf leaf (acknowledged leaf cmd c) := by
  unfold acknowledged
  dsimp only
  split
  · split
    · exact (c.movesLeaf_modify fun r => { r with state := .unlocked }).trans (Car.movesLeaf_place _ _)
    · exact c.movesLeaf_modify _
  iterate 5 exact c.movesLeaf_modify _
  exact .refl c

theorem takePosition_moves (p : LeafPosition) (c : Car) : c.MovesLeaf leaf (takePosition leaf p c) := by
  unfold takePosition
  dsimp only
  split
  case h_12 =>
    split
    · refine ((c.movesLeaf_modify fun r => { r with state := .unlocked, closeDue := false }).trans
        (Car.movesLeaf_unplace _ fun k cmd hk => ?_)).trans (Car.movesLeaf_place _ _)
      rw [beq_eq_false_iff_ne.2 hk]
      rfl
    · exact c.movesLeaf_modify _
  case h_15 =>
    split
    · exact .refl c
    · exact c.movesLeaf_modify _
  case h_3 | h_4 | h_6 | h_10 => exact c.movesLeaf_modify _
  case h_7 | h_9 => exact leafFault_moves .statusMismatch c
  all_goals exact .refl c

theorem takeObstacle_moves (c : Car) : c.MovesLeaf leaf (takeObstacle leaf c) := by
  unfold takeObstacle
  dsimp only
  split
  · split
    · exact (c.movesLeaf_modify _).trans (Car.movesLeaf_place _ _)
    · exact ((c.movesLeaf_modify _).trans (Car.movesLeaf_place _ _)).trans (Car.movesLeaf_occur ..)
  · exact .refl c

theorem takeOpenRequest_moves (c : Car) : c.MovesLeaf leaf (takeOpenRequest leaf c) := by
  unfold takeOpenRequest
  dsimp only
  split
  · exact c.movesLeaf_place _
  · exact .refl c

theorem statusTaken_moves (r : StatusReply) (c : Car) : c.MovesLeaf leaf (statusTaken leaf r c) := by
  have hrecorded := (c.movesLeaf_modify (leaf := leaf) fun q => { q with lastStatus := some r }).trans
    (takePosition_moves r.position _)
  unfold statusTaken
  dsimp only
  split
  · split
    · exact (hrecorded.trans (takeObstacle_moves _)).trans (takeOpenRequest_moves _)
    · exact hrecorded.trans (takeOpenRequest_moves _)
  · split
    · exact hrecorded.trans (takeObstacle_moves _)
    · exact hrecorded

end Moves

/-! ## Exchanges that end as answered (R133) -/

/-- What an answer does before the acts that were kept for the end of the exchange. -/
def Exchange.answered (x : Exchange) (reply : DouReply) (c : Car) : Car :=
  if x.void ∨ (c.dor.leaves.get x.leaf).state = .isolated then c
  else
    match x.message, reply with
    | .status, .status r => statusTaken x.leaf r c
    | .command cmd, .ack =>
      if (c.dor.leaves.get x.leaf).state = .fault ∨ (c.dor.leaves.get x.leaf).state = .unread then c
      else acknowledged x.leaf cmd c
    | _, _ => c

/-- The part with no exchange running. -/
def Car.idle (c : Car) : Car := { c with dor := { c.dor with exchange := none } }

section Answered
variable (x : Exchange) (reply : DouReply) (c : Car)

theorem exchangeAnswered_eq : exchangeAnswered x reply c =
    { x.answered reply c.idle with dor := (x.answered reply c.idle).dor.endExchange x.leaf } := rfl

theorem Exchange.answered_moves : c.MovesLeaf x.leaf (x.answered reply c) := by
  unfold Exchange.answered
  split
  · exact .refl c
  · split
    · exact statusTaken_moves _ c
    · split
      · exact .refl c
      · exact acknowledged_moves _ c
    · exact .refl c

/-- With nothing kept for its end, an exchange ends with what its answer does. -/
theorem exchangeAnswered_unkept (h : c.dor.deferred = []) : exchangeAnswered x reply c = x.answered reply c.idle := by
  have hframe : (x.answered reply c.idle).dor = { c.idle.dor with
    leaves := (x.answered reply c.idle).dor.leaves, slots := (x.answered reply c.idle).dor.slots } :=
    (congrArg Car.dor (x.answered_moves reply c.idle).frame :)
  have hend : (x.answered reply c.idle).dor.endExchange x.leaf = (x.answered reply c.idle).dor := by
    rw [Dor.endExchange_idle _ _ ((congrArg Dor.deferred hframe :).trans h), hframe]
    rfl
  rw [exchangeAnswered_eq, hend]

end Answered

section Replies
variable {s : State} (hr : Ready s) {x : Exchange} (hx : s.car.dor.exchange = some x)
include hr hx

/-- A reply that its exchange's message expects ends the exchange as answered. -/
theorem exec_answered {reply : DouReply} (h : x.message.expects reply = true) :
    exec (.doorBusReply x.leaf.number reply true false) s = .next ⟨settle (exchangeAnswered x reply s.car), s.pending⟩ := by
  rw [exec_busReply hr]
  simp only [busReply, hx, h, Bool.false_eq_true, if_false, and_self, if_true]

theorem exec_answered_unkept {reply : DouReply} (h : x.message.expects reply = true) (hdeferred : s.car.dor.deferred = []) :
    exec (.doorBusReply x.leaf.number reply true false) s =
      .next ⟨settle (x.answered reply s.car.idle), s.pending⟩ := by
  rw [exec_answered hr hx h, exchangeAnswered_unkept x reply s.car hdeferred]

end Replies

/-! ## Status replies (R136) -/

/-- The part with a status reply recorded. -/
def Car.recorded (c : Car) (leaf : Leaf) (r : StatusReply) : Car :=
  { c with dor := c.dor.modify leaf fun q => { q with lastStatus := some r } }

section Status
variable {x : Exchange} {c : Car} (hmessage : x.message = .status) (hvoid : x.void = false)

theorem Exchange.answered_isolated (reply : DouReply) (h : (c.dor.leaves.get x.leaf).state = .isolated) :
    x.answered reply c = c := if_pos (.inr h)

include hmessage hvoid

theorem Exchange.answered_status (r : StatusReply) (h : (c.dor.leaves.get x.leaf).state ≠ .isolated) :
    x.answered (.status r) c = statusTaken x.leaf r c := by
  have hnot : ¬ (x.void = true ∨ (c.dor.leaves.get x.leaf).state = .isolated) := by
    rw [hvoid]
    exact not_or.2 ⟨nofun, h⟩
  unfold Exchange.answered
  rw [if_neg hnot, hmessage]

end Status

/-! The rows of the table of R136 -/

section Rows
variable {leaf : Leaf} {p : LeafPosition} {c : Car}

theorem takePosition_fault (h : (c.dor.leaves.get leaf).state = .fault) : takePosition leaf p c = c := by
  simp only [takePosition, h]

theorem takePosition_locked (hf : (c.dor.leaves.get leaf).state ≠ .fault) (hi : (c.dor.leaves.get leaf).state ≠ .isolated) :
    takePosition leaf .closedLocked c = { c with dor := c.dor.modify leaf LeafRecord.lockedNow } := by
  unfold takePosition
  dsimp only
  cases hs : (c.dor.leaves.get leaf).state with
  | fault => exact absurd hs hf
  | isolated => exact absurd hs hi
  | _ => rfl

/-- A position that fits a leaf which is not on its way, or that a leaf passes on its way, changes nothing. -/
theorem takePosition_same
    (h : ((c.dor.leaves.get leaf).state = .unread ∧ p = .moving) ∨
      ((c.dor.leaves.get leaf).state = .unlocked ∧ p = .closedUnlocked) ∨
      ((c.dor.leaves.get leaf).state = .opening ∧ (p = .closedUnlocked ∨ p = .moving)) ∨
      ((c.dor.leaves.get leaf).state = .opened ∧ (p = .moving ∨ p = .opened)) ∨
      ((c.dor.leaves.get leaf).state = .closing ∧ p ≠ .closedLocked) ∨
      ((c.dor.leaves.get leaf).state = .reopening ∧ (p = .closedUnlocked ∨ p = .moving))) : takePosition leaf p c = c := by
  unfold takePosition
  dsimp only
  rcases h with ⟨hs, rfl⟩ | ⟨hs, rfl⟩ | ⟨hs, rfl | rfl⟩ | ⟨hs, rfl | rfl⟩ | ⟨hs, hp⟩ | ⟨hs, rfl | rfl⟩
  case inr.inr.inr.inr.inl =>
    rw [hs]
    cases p with
    | closedLocked => exact absurd rfl hp
    | _ => rfl
  all_goals rw [hs]

theorem takePosition_mismatch (h : ((c.dor.leaves.get leaf).state = .locked ∧ p ≠ .closedLocked) ∨
      ((c.dor.leaves.get leaf).state = .unlocked ∧ (p = .moving ∨ p = .opened))) :
    takePosition leaf p c = leafFault leaf .statusMismatch c := by
  unfold takePosition
  dsimp only
  rcases h with ⟨hs, hp⟩ | ⟨hs, rfl | rfl⟩
  · rw [hs]
    cases p with
    | closedLocked => exact absurd rfl hp
    | _ => rfl
  all_goals rw [hs]

theorem takePosition_unread (h : (c.dor.leaves.get leaf).state = .unread) :
    takePosition leaf .closedUnlocked c =
      { c with dor := c.dor.modify leaf fun r => { r with state := .unlocked, unreadFailure := false } } ∧
    takePosition leaf .opened c =
      { c with dor := c.dor.modify leaf fun r => { r with state := .opened, unreadFailure := false } } := by
  simp only [takePosition, h, and_self]

theorem takePosition_opening (h : (c.dor.leaves.get leaf).state = .opening) : takePosition leaf .opened c =
    { c with dor := c.dor.modify leaf fun r => { r with state := .opened, motion := none } } := by
  simp only [takePosition, h]

theorem takePosition_due (h : (c.dor.leaves.get leaf).state = .opened) (hdue : (c.dor.leaves.get leaf).closeDue = true) :
    takePosition leaf .closedUnlocked c = { c with
      dor := ((c.dor.modify leaf fun r => { r with state := .unlocked, closeDue := false }).unplace
        fun l cmd => l == leaf && cmd.closes).place leaf .lock } := by
  simp only [takePosition, h, hdue, if_true]

theorem takePosition_opened (h : (c.dor.leaves.get leaf).state = .opened) (hdue : (c.dor.leaves.get leaf).closeDue = false) :
    takePosition leaf .closedUnlocked c = { c with dor := c.dor.modify leaf fun r => { r with state := .unlocked } } := by
  simp only [takePosition, h, hdue, Bool.false_eq_true, if_false]

theorem takePosition_reopening (h : (c.dor.leaves.get leaf).state = .reopening) : takePosition leaf .opened c =
    if (c.dor.leaves.get leaf).halfWidth = true then c
    else { c with dor := c.dor.modify leaf fun r => { r with motion := none, pause := some 0, halfWidth := true } } := by
  simp only [takePosition, h]

end Rows

/-- Settles O43: the table of R136 row by row, over a car in which the reply moves one leaf. -/
theorem statusRepliesMoveTheLeaf : Obligations.StatusRepliesMoveTheLeaf := by
  intro x p s hr hx hmessage hvoid hdeferred r q
  have hrun := exec_answered_unkept hr hx (reply := .status ⟨p, false, false⟩) (by rw [hmessage]; rfl) hdeferred
  have hmoves := x.answered_moves (.status ⟨p, false, false⟩) s.car.idle
  have hisolated : (s.car.idle.dor.leaves.get x.leaf).state = .isolated →
      x.answered (.status ⟨p, false, false⟩) s.car.idle = s.car.idle := Exchange.answered_isolated _
  have hstatus : (s.car.idle.dor.leaves.get x.leaf).state ≠ .isolated → x.answered (.status ⟨p, false, false⟩) s.car.idle =
      takePosition x.leaf p (s.car.idle.recorded x.leaf ⟨p, false, false⟩) :=
    Exchange.answered_status hmessage hvoid ⟨p, false, false⟩
  have hrecord : (s.car.idle.recorded x.leaf ⟨p, false, false⟩).dor.leaves.get x.leaf = q := Dor.modify_get_self ..
  generalize x.answered (.status ⟨p, false, false⟩) s.car.idle = d at *
  generalize s.car.idle.recorded x.leaf ⟨p, false, false⟩ = e at hstatus hrecord
  have hframe := settle_frame d
  have hmoved := hmoves.frame
  have hleaves : (settle d).dor.leaves = d.dor.leaves := (congrArg (·.dor.leaves) hframe :)
  have hslot : (settle d).dor.slot x.leaf = d.dor.slot x.leaf := (congrArg (·.dor.slot x.leaf) hframe :)
  refine ⟨_, hrun, rfl, (congrArg (·.dor.exchange) hframe :).trans (congrArg (·.dor.exchange) hmoved :), ?_,
    (congrArg Car.lif hframe :).trans (congrArg Car.lif hmoved :), (congrArg Car.odo hframe :).trans (congrArg Car.odo hmoved :),
    (congrArg Car.tlf hframe :).trans (congrArg Car.tlf hmoved :),
    (congrArg Car.pst hframe :).trans (congrArg Car.pst hmoved :), ?_⟩
  · intro leaf hleaf
    exact (congrArg (·.get leaf) hleaves).trans (hmoves.leaves leaf hleaf)
  dsimp only
  rw [hleaves, hslot]
  clear hrun hmoves hframe hmoved hleaves hslot
  have hmodified (f : LeafRecord → LeafRecord) : ({ e with dor := e.dor.modify x.leaf f } : Car).dor.leaves.get x.leaf = f q :=
    (e.dor.modify_get_self x.leaf f).trans (congrArg f hrecord)
  have hmismatch : (leafFault x.leaf .statusMismatch e).dor.leaves.get x.leaf = q.faulted .statusMismatch :=
    (leafFault_leaf e x.leaf .statusMismatch).trans (congrArg (·.faulted .statusMismatch) hrecord)
  have hstate : (e.dor.leaves.get x.leaf).state = r.state := (congrArg LeafRecord.state hrecord :)
  have hdue : (e.dor.leaves.get x.leaf).closeDue = r.closeDue := (congrArg LeafRecord.closeDue hrecord :)
  have hhalf : (e.dor.leaves.get x.leaf).halfWidth = r.halfWidth := (congrArg LeafRecord.halfWidth hrecord :)
  by_cases hiso : r.state = .isolated
  · rw [hisolated hiso, hiso]
    cases p <;> rfl
  have hd := hstatus hiso
  subst hd
  by_cases hfault : r.state = .fault
  · rw [takePosition_fault (hstate.trans hfault), hfault]
    cases p <;> exact hrecord
  by_cases hlocked : p = .closedLocked
  · subst hlocked
    rw [takePosition_locked (hstate ▸ hfault) (hstate ▸ hiso), hmodified]
    cases hs : r.state with
    | fault => exact absurd hs hfault
    | isolated => exact absurd hs hiso
    | _ => rfl
  cases hs : r.state with
  | fault => exact absurd hs hfault
  | isolated => exact absurd hs hiso
  | unread =>
    have hrow := takePosition_unread (hstate.trans hs)
    cases p with
    | closedLocked => exact absurd rfl hlocked
    | closedUnlocked =>
      rw [hrow.1]
      exact hmodified _
    | moving =>
      rw [takePosition_same (.inl ⟨hstate.trans hs, rfl⟩)]
      exact hrecord
    | opened =>
      rw [hrow.2]
      exact hmodified _
  | locked =>
    rw [takePosition_mismatch (.inl ⟨hstate.trans hs, hlocked⟩), hmismatch]
    cases p with
    | closedLocked => exact absurd rfl hlocked
    | _ => exact ⟨rfl, rfl, rfl⟩
  | unlocked =>
    cases p with
    | closedLocked => exact absurd rfl hlocked
    | closedUnlocked =>
      rw [takePosition_same (.inr (.inl ⟨hstate.trans hs, rfl⟩))]
      exact hrecord
    | moving =>
      rw [takePosition_mismatch (.inr ⟨hstate.trans hs, .inl rfl⟩), hmismatch]
      exact ⟨rfl, rfl, rfl⟩
    | opened =>
      rw [takePosition_mismatch (.inr ⟨hstate.trans hs, .inr rfl⟩), hmismatch]
      exact ⟨rfl, rfl, rfl⟩
  | opening =>
    cases p with
    | closedLocked => exact absurd rfl hlocked
    | opened =>
      rw [takePosition_opening (hstate.trans hs)]
      exact hmodified _
    | _ =>
      rw [takePosition_same (.inr (.inr (.inl ⟨hstate.trans hs, by decide⟩)))]
      exact hrecord
  | opened =>
    cases p with
    | closedLocked => exact absurd rfl hlocked
    | closedUnlocked =>
      cases hclose : r.closeDue with
      | true =>
        rw [takePosition_due (hstate.trans hs) (hdue.trans hclose)]
        refine ⟨?_, fun _ => Dor.place_slot _ _ _ ?_⟩
        · rw [Dor.place_frame]
          exact hmodified fun r => { r with state := .unlocked, closeDue := false }
        · exact congrArg (·.state.commanded) (hmodified fun r => { r with state := .unlocked, closeDue := false })
      | false =>
        rw [takePosition_opened (hstate.trans hs) (hdue.trans hclose)]
        refine ⟨?_, nofun⟩
        rw [hmodified, ← hclose]
    | _ =>
      rw [takePosition_same (.inr (.inr (.inr (.inl ⟨hstate.trans hs, by decide⟩))))]
      exact hrecord
  | closing =>
    rw [takePosition_same (.inr (.inr (.inr (.inr (.inl ⟨hstate.trans hs, hlocked⟩)))))]
    cases p with
    | closedLocked => exact absurd rfl hlocked
    | _ => exact hrecord
  | reopening =>
    cases p with
    | closedLocked => exact absurd rfl hlocked
    | opened =>
      rw [takePosition_reopening (hstate.trans hs), hhalf]
      dsimp only
      split
      · exact hrecord
      · rw [hmodified, ← hs]
    | _ =>
      rw [takePosition_same (.inr (.inr (.inr (.inr (.inr ⟨hstate.trans hs, by decide⟩)))))]
      exact hrecord

end Sys2Proof.Machine
end

section
/-! What a release and a close do to a leaf, at once or at the end of an exchange (R139, R140). -/

namespace Sys2Proof.Machine

/-! ## Doors that an act on one leaf has changed -/

/-- The doors with one leaf's record and slot changed but for its state, and perhaps its side CHIMING. -/
structure Dor.ActsOn (leaf : Leaf) (d e : Dor) : Prop where
  frame : e = { d with leaves := e.leaves, slots := e.slots, sides := e.sides }
  state : ∀ l, (e.leaves.get l).state = (d.leaves.get l).state
  leaves : ∀ k, k ≠ leaf → e.leaves.get k = d.leaves.get k
  slots : ∀ k, k ≠ leaf → e.slot k = d.slot k
  sides : e.sides = d.sides ∨ e.sides = (d.chiming leaf.side).sides

/-- The doors as they stand at one leaf, its side as it was or CHIMING. -/
structure Dor.StandsAt (leaf : Leaf) (d e : Dor) : Prop where
  record : e.leaves.get leaf = d.leaves.get leaf
  slot : e.slot leaf = d.slot leaf
  side : e.sides.get leaf.side = d.sides.get leaf.side ∨
    e.sides.get leaf.side = { d.sides.get leaf.side with step := .chiming, warning := none }

section Acts
variable {leaf : Leaf}

theorem Dor.chiming_side (d : Dor) (side : Side) :
    (d.chiming side).sides.get side = { d.sides.get side with step := .chiming, warning := none } := by
  cases side <;> rfl

theorem Dor.chiming_side_ne (d : Dor) {side k : Side} (h : k ≠ side) : (d.chiming side).sides.get k = d.sides.get k := by
  cases side <;> cases k <;> first | exact absurd rfl h | rfl

theorem Dor.ActsOn.refl (d : Dor) : d.ActsOn leaf d := ⟨rfl, fun _ => rfl, fun _ _ => rfl, fun _ _ => rfl, .inl rfl⟩

theorem Dor.ActsOn.trans {d e f : Dor} (h : d.ActsOn leaf e) (k : e.ActsOn leaf f) : d.ActsOn leaf f := by
  refine ⟨k.frame.trans ?_, fun l => (k.state l).trans (h.state l), fun l hl => (k.leaves l hl).trans (h.leaves l hl),
    fun l hl => (k.slots l hl).trans (h.slots l hl), ?_⟩
  · rw [h.frame]
  · have hchiming : (e.chiming leaf.side).sides = (d.chiming leaf.side).sides := by
      unfold Dor.chiming
      dsimp only
      rcases h.sides with hs | hs <;> rw [hs]
      cases leaf.side <;> rfl
    rw [← hchiming]
    exact k.sides.elim (fun hk => h.sides.imp hk.trans fun hs => by rw [hk, hs, ← hchiming]) .inr

theorem Dor.actsOn_modify (d : Dor) (f : LeafRecord → LeafRecord) (h : ∀ r, (f r).state = r.state) :
    d.ActsOn leaf (d.modify leaf f) := by
  refine ⟨rfl, fun l => ?_, fun k hk => d.modify_get_ne leaf f hk, fun _ _ => rfl, .inl rfl⟩
  by_cases hl : l = leaf
  · rw [hl, d.modify_get_self, h]
  · rw [d.modify_get_ne leaf f hl]

theorem Dor.actsOn_place (d : Dor) (cmd : DoorCommand) : d.ActsOn leaf (d.place leaf cmd) := by
  have hframe := d.place_frame leaf cmd
  have hleaves : (d.place leaf cmd).leaves = d.leaves := (congrArg Dor.leaves hframe :)
  have hsides : (d.place leaf cmd).sides = d.sides := (congrArg Dor.sides hframe :)
  refine ⟨?_, fun l => by rw [hleaves], fun k _ => by rw [hleaves], fun k hk => d.place_slot_ne leaf cmd hk, .inl hsides⟩
  rw [hleaves, hsides]
  exact hframe

theorem Dor.actsOn_unplace (d : Dor) {f : DoorCommand → Bool} : d.ActsOn leaf (d.unplace fun l cmd => l == leaf && f cmd) := by
  refine ⟨rfl, fun _ => rfl, fun _ _ => rfl, fun k hk => d.unplace_slot_ne k fun cmd => ?_, .inl rfl⟩
  rw [beq_eq_false_iff_ne.2 hk]
  rfl

theorem Dor.actsOn_chiming (d : Dor) : d.ActsOn leaf (d.chiming leaf.side) :=
  ⟨rfl, fun _ => rfl, fun _ _ => rfl, fun _ _ => rfl, .inr rfl⟩

theorem Dor.releaseLeaf_acts (d : Dor) : d.ActsOn leaf (d.releaseLeaf leaf) := by
  unfold Dor.releaseLeaf
  dsimp only
  split
  · exact d.actsOn_place _
  · split
    · exact d.actsOn_place _
    · exact .refl d
  iterate 2
    refine (d.actsOn_modify _ ?_).trans (Dor.actsOn_place ..)
    exact fun _ => rfl
  iterate 2
    split
    · refine (d.actsOn_modify _ ?_).trans (Dor.actsOn_unplace _)
      exact fun _ => rfl
    · exact .refl d
  exact .refl d

theorem Dor.closeLeaf_acts (d : Dor) (again : Bool) : d.ActsOn leaf (d.closeLeaf again leaf) := by
  unfold Dor.closeLeaf
  dsimp only
  split
  · exact d.actsOn_place _
  iterate 2
    split
    · exact .refl d
    · refine ((d.actsOn_modify _ ?_).trans (Dor.actsOn_place ..)).trans (Dor.actsOn_chiming _)
      exact fun _ => rfl
  iterate 2 exact d.actsOn_modify _ fun _ => rfl
  exact .refl d

theorem Dor.act_acts (d : Dor) (what : DeferredAct) : d.ActsOn leaf (d.act leaf what) := by
  cases what with
  | release => exact d.releaseLeaf_acts
  | close again => exact d.closeLeaf_acts again

theorem Dor.StandsAt.refl (d : Dor) : d.StandsAt leaf d := ⟨rfl, rfl, .inl rfl⟩

theorem Dor.ActsOn.standsAt {k : Leaf} {d e : Dor} (h : d.ActsOn k e) (hk : leaf ≠ k) : d.StandsAt leaf e := by
  refine ⟨h.leaves leaf hk, h.slots leaf hk, ?_⟩
  rcases h.sides with hs | hs
  · exact .inl (by rw [hs])
  · rw [hs]
    by_cases hside : leaf.side = k.side
    · rw [hside]
      exact .inr (d.chiming_side k.side)
    · exact .inl (d.chiming_side_ne hside)

end Acts

/-! ## What a release and a close do to the leaf -/

section Rows
variable {d : Dor} {leaf : Leaf}

theorem Dor.releaseLeaf_locked (h : (d.leaves.get leaf).state = .locked) : d.releaseLeaf leaf = d.place leaf .unlock := by
  simp only [Dor.releaseLeaf, h]

theorem Dor.releaseLeaf_unlocked (h : (d.leaves.get leaf).state = .unlocked) : d.releaseLeaf leaf =
    if (d.sides.get leaf.side).autoOpen = true then d.place leaf (.openLeaf false) else d := by
  simp only [Dor.releaseLeaf, h]

theorem Dor.releaseLeaf_closing (h : (d.leaves.get leaf).state = .closing ∨ (d.leaves.get leaf).state = .reopening) :
    d.releaseLeaf leaf =
      (d.modify leaf fun r => { r with motion := none, pause := none, obstacles := 0 }).place leaf (.openLeaf false) := by
  rcases h with h | h <;> simp only [Dor.releaseLeaf, h]

theorem Dor.releaseLeaf_opened (h : (d.leaves.get leaf).state = .opened ∨ (d.leaves.get leaf).state = .opening) :
    d.releaseLeaf leaf =
      if (d.leaves.get leaf).closeDue = true then
        (d.modify leaf fun r => { r with closeDue := false }).unplace fun l c => l == leaf && c.closes
      else d := by
  rcases h with h | h <;> simp only [Dor.releaseLeaf, h]

theorem Dor.releaseLeaf_other (h : (d.leaves.get leaf).state = .unread ∨ (d.leaves.get leaf).state = .fault ∨
      (d.leaves.get leaf).state = .isolated) : d.releaseLeaf leaf = d := by
  rcases h with h | h | h <;> simp only [Dor.releaseLeaf, h]

variable {again : Bool}

theorem Dor.closeLeaf_unlocked (h : (d.leaves.get leaf).state = .unlocked) : d.closeLeaf again leaf = d.place leaf .lock := by
  simp only [Dor.closeLeaf, h]

theorem Dor.closeLeaf_opened (h : (d.leaves.get leaf).state = .opened ∨ (d.leaves.get leaf).state = .opening) :
    d.closeLeaf again leaf =
      if (again && (d.leaves.get leaf).closeDue) = true then d
      else
        ((d.modify leaf fun r => { r with obstructed := false, obstacles := 0, closeDue := true }).place leaf .chime).chiming
          leaf.side := by
  rcases h with h | h <;> simp only [Dor.closeLeaf, h]

theorem Dor.closeLeaf_closing (h : (d.leaves.get leaf).state = .closing ∨ (d.leaves.get leaf).state = .reopening) :
    d.closeLeaf again leaf = d.modify leaf fun r => { r with obstacles := 0 } := by
  rcases h with h | h <;> simp only [Dor.closeLeaf, h]

theorem Dor.closeLeaf_other (h : (d.leaves.get leaf).state = .locked ∨ (d.leaves.get leaf).state = .unread ∨
      (d.leaves.get leaf).state = .fault ∨ (d.leaves.get leaf).state = .isolated) : d.closeLeaf again leaf = d := by
  rcases h with h | h | h | h <;> simp only [Dor.closeLeaf, h]

theorem Dor.place_get (l k : Leaf) (cmd : DoorCommand) : (d.place l cmd).leaves.get k = d.leaves.get k := by
  rw [Dor.place_frame]

/-- No close and no chime waits for a leaf any more once they are removed. -/
theorem Dor.unplace_slot {f : DoorCommand → Bool} {cmd : DoorCommand}
    (h : (d.unplace fun l c => l == leaf && f c).slot leaf = some cmd) : f cmd = false := by
  unfold Dor.slot Dor.unplace at h
  obtain ⟨⟨l, c⟩, hfind, rfl⟩ := Option.map_eq_some_iff.1 h
  have hmem := List.mem_filter.1 (List.mem_of_find?_eq_some hfind)
  have hleaf := List.find?_some hfind
  simpa [show l = leaf from beq_iff_eq.1 hleaf] using hmem.2

/-- A side with a chime still waiting for a due leaf is not passed on. -/
theorem Dor.passed_waits (hdue : (d.leaves.get leaf).closeDue = true) (hslot : d.slot leaf = some .chime) :
    d.passed leaf.side = d.sides.get leaf.side := by
  have hmem : leaf ∈ leaf.side.leaves := by cases leaf <;> decide
  have hchimed : d.chimed leaf.side = false := by
    refine Bool.eq_false_of_not_eq_true fun h => ?_
    have hleaf := List.all_eq_true.1 h leaf hmem
    rw [hdue, Dor.waitingOrRunning, hslot] at hleaf
    cases hleaf
  rw [Dor.passed, hchimed]
  exact if_neg fun h => absurd h.2 nofun

theorem Dor.judge_side (fused : Nat) (side : Side) : (d.judge fused).sides.get side = d.passed side := by
  cases side <;> rfl

end Rows

section Effect
variable {d f g : Dor} {leaf : Leaf} {fused : Nat} (hidle : ∀ h, g.running leaf h = false)
include hidle

/-- A leaf without a close that waits and runs is in no close block. -/
theorem Dor.judge_unblocked (h : g.slot leaf ≠ some .close ∨ (g.leaves.get leaf).closeDue = false) :
    ∀ b ∈ (g.judge fused).blocks, leaf ∉ b.leaves := by
  intro b hmem hleaf
  have hin := (Dor.mem_openBlocks hmem).2 leaf hleaf
  rw [Dor.inBlock, hidle, Bool.or_false, Bool.and_eq_true, Bool.and_eq_true, beq_iff_eq] at hin
  exact h.elim (fun hslot => hslot hin.2.1) fun hdue => absurd (hdue.symm.trans hin.2.2) nofun

/-- Doors in which a release acts on a leaf, and which then stand at that leaf until they are judged. -/
theorem Dor.released (hb : d.StandsAt leaf f) (ha : (f.releaseLeaf leaf).StandsAt leaf g) {autoOpen : Bool}
    (hauto : (f.sides.get leaf.side).autoOpen = autoOpen) : Released autoOpen d (g.judge fused) leaf := by
  unfold Released
  rw [← hb.record, ← hb.slot]
  show (_ → g.leaves.get leaf = _ ∧ g.slot leaf = _) ∧ (_ → g.leaves.get leaf = _ ∧ g.slot leaf = _) ∧
    (_ → g.leaves.get leaf = _ ∧ g.slot leaf = _) ∧
    (_ → _ → g.leaves.get leaf = _ ∧ (∀ cmd, g.slot leaf = some cmd → _) ∧ _) ∧ (_ → _ → g.leaves.get leaf = _ ∧ g.slot leaf = _) ∧
    (_ → g.leaves.get leaf = _ ∧ g.slot leaf = _)
  have hunblocked := fun h => Dor.judge_unblocked (fused := fused) hidle (.inr h)
  rw [ha.record] at hunblocked ⊢
  rw [ha.slot]
  refine ⟨fun hs => ?_, fun hs => ?_, fun hs => ?_, fun hs hdue => ?_, fun hs hdue => ?_, fun hs => ?_⟩
  · rw [Dor.releaseLeaf_locked hs, Dor.place_get]
    exact ⟨rfl, f.place_slot leaf .unlock (by rw [hs]; rfl)⟩
  · rw [Dor.releaseLeaf_unlocked hs, hauto]
    split
    · rw [Dor.place_get]
      exact ⟨rfl, f.place_slot leaf _ (by rw [hs]; rfl)⟩
    · exact ⟨rfl, rfl⟩
  · rw [Dor.releaseLeaf_closing hs, Dor.place_get, Dor.modify_get_self]
    refine ⟨rfl, Dor.place_slot _ leaf _ ?_⟩
    rw [Dor.modify_get_self]
    rcases hs with hs | hs <;> rw [hs] <;> rfl
  · rw [Dor.releaseLeaf_opened hs, if_pos hdue] at hunblocked ⊢
    have hrecord := f.modify_get_self leaf fun r => { r with closeDue := false }
    refine ⟨hrecord, fun cmd hcmd => ?_, hunblocked (congrArg LeafRecord.closeDue hrecord :)⟩
    have hkeeps := Dor.unplace_slot hcmd
    exact ⟨fun hc => (by rw [hc] at hkeeps; cases hkeeps), fun hc => (by rw [hc] at hkeeps; cases hkeeps)⟩
  · rw [Dor.releaseLeaf_opened hs, if_neg (ne_true_of_eq_false hdue)]
    exact ⟨rfl, rfl⟩
  · rw [Dor.releaseLeaf_other hs]
    exact ⟨rfl, rfl⟩

/-- The same for a close. -/
theorem Dor.closed {again : Bool} (hb : d.StandsAt leaf f) (ha : (f.closeLeaf again leaf).StandsAt leaf g) :
    Closed again d (g.judge fused) leaf := by
  unfold Closed
  rw [← hb.record, ← hb.slot, Dor.judge_side]
  show (_ → g.leaves.get leaf = _ ∧ g.slot leaf = _) ∧
    (_ → _ → g.leaves.get leaf = _ ∧ g.slot leaf = _ ∧ _) ∧ (_ → _ → _ → g.leaves.get leaf = _ ∧ (_ → g.slot leaf = _)) ∧
    (_ → g.leaves.get leaf = _) ∧ (_ → g.leaves.get leaf = _)
  have hunblocked := fun h => Dor.judge_unblocked (fused := fused) hidle (.inl h)
  have hwaits := fun hdue hslot => g.passed_waits (leaf := leaf) hdue hslot
  have hside := ha.side
  rw [ha.record] at hwaits ⊢
  rw [ha.slot] at hunblocked hwaits ⊢
  refine ⟨fun hs => ?_, fun hs hdue => ?_, fun hs hdue hagain => ?_, fun hs => ?_, fun hs => ?_⟩
  · rw [Dor.closeLeaf_unlocked hs, Dor.place_get]
    exact ⟨rfl, f.place_slot leaf .lock (by rw [hs]; rfl)⟩
  · have hnot : ¬ (again && (f.leaves.get leaf).closeDue) = true := by
      rw [Bool.and_eq_true]
      exact fun h => hdue.elim (fun hno => absurd (hno.symm.trans h.2) nofun) fun hno => absurd (hno.symm.trans h.1) nofun
    rw [Dor.closeLeaf_opened hs, if_neg hnot] at hunblocked hwaits hside ⊢
    have hrecord := f.modify_get_self leaf fun r => { r with obstructed := false, obstacles := 0, closeDue := true }
    have hslot := (f.modify leaf fun r => { r with obstructed := false, obstacles := 0, closeDue := true }).place_slot leaf .chime
      (by rw [hrecord]; rcases hs with hs | hs <;> rw [hs] <;> rfl)
    have hplaced := (Dor.place_get leaf leaf .chime).trans hrecord
    rw [hwaits (congrArg LeafRecord.closeDue hplaced :) hslot]
    rw [Dor.chiming_side] at hside
    refine ⟨hplaced, hslot, hunblocked fun h => absurd (hslot.symm.trans h) nofun, ?_⟩
    rcases hside with hk | hk <;> rw [hk] <;> exact ⟨rfl, rfl⟩
  · rw [Dor.closeLeaf_opened hs, hdue, hagain, if_pos (Bool.and_self true)]
    exact ⟨rfl, fun _ => rfl⟩
  · rw [Dor.closeLeaf_closing hs, Dor.modify_get_self]
  · rw [Dor.closeLeaf_other hs]

end Effect

end Sys2Proof.Machine
end

section
/-! Acknowledged commands, obstacles and open requests, and acts kept for the end of an exchange (R139 to R142, O44). -/

namespace Sys2Proof.Machine

/-! ## The judgement of doors with other leaf records and slots -/

/-- The part with other doors. -/
def Car.withDor (c : Car) (d : Dor) : Car := { c with dor := d }

section WithDor
variable (c : Car) (d : Dor)

theorem abortTest_withDor : abortTest (c.withDor d) = (abortTest c).withDor d := by
  unfold abortTest
  dsimp only [Car.withDor]
  split <;> rfl

theorem addCause_withDor (cause : Cause) (present : Bool) :
    addCause cause present (c.withDor d) = (addCause cause present c).withDor d := by
  unfold addCause
  dsimp only [Car.withDor]
  split
  · rfl
  · generalize ({ c.brk with causes := c.brk.causes.set cause (some ⟨c.now, present⟩) } : Brk) = b
    split
    · exact abortTest_withDor { c with brk := b } d
    · exact abortTest_withDor (occur .emergencySet cause.code { c with brk := b }) d

theorem handDoor_withDor (before after : Bool) : handDoor before after (c.withDor d) = (handDoor before after c).withDor d := by
  cases after with
  | false => cases before <;> rfl
  | true => exact addCause_withDor { c with brk := { c.brk with conditions := c.brk.conditions.set .door true } } d .door true

theorem levelChange_withDor (src : Source) (before after : Bool) (detail : Nat) :
    levelChange src before after detail (c.withDor d) = (levelChange src before after detail c).withDor d := by
  unfold levelChange
  split
  · rfl
  · split <;> rfl

variable {c d}

/-- Doors as safe and as granted as they were hand on what those doors hand on. -/
theorem settle_withDor (hsafe : d.allSafe = c.dor.allSafe) (hgranted : d.anyGranted = c.dor.anyGranted)
    (hproven : d.proven = c.dor.proven) (hcondition : d.condition = c.dor.condition) :
    settle (c.withDor d) = (settle c).withDor (d.judge c.odo.fused) := by
  have hdoors : (d.judge c.odo.fused).proven = (c.dor.judge c.odo.fused).proven := hsafe
  have hhold : (d.judge c.odo.fused).hold = (c.dor.judge c.odo.fused).hold := by
    show (d.anyGranted || !d.allSafe) = (c.dor.anyGranted || !c.dor.allSafe)
    rw [hsafe, hgranted]
  have hpresent : (d.judge c.odo.fused).condition = (c.dor.judge c.odo.fused).condition := by
    show (!d.allSafe && decide (25 < c.odo.fused)) = (!c.dor.allSafe && decide (25 < c.odo.fused))
    rw [hsafe]
  have hjudge : dorJudge (c.withDor d) = (dorJudge c).withDor (d.judge c.odo.fused) := by
    show handDoor d.condition (d.judge c.odo.fused).condition (levelChange .doorsProven d.proven (d.judge c.odo.fused).proven 0
      { c with
        dor := d.judge c.odo.fused
        brk := { c.brk with
          doorsProven := (d.judge c.odo.fused).proven, doorHold := (d.judge c.odo.fused).hold } }) = _
    rw [hproven, hcondition, hdoors, hhold, hpresent]
    refine Eq.trans ?_ (handDoor_withDor _ (d.judge c.odo.fused) _ _)
    exact congrArg (handDoor c.dor.condition (c.dor.judge c.odo.fused).condition) (levelChange_withDor { c with
      dor := c.dor.judge c.odo.fused
      brk := { c.brk with
        doorsProven := (c.dor.judge c.odo.fused).proven, doorHold := (c.dor.judge c.odo.fused).hold } } _ _ _ _ _)
  rw [settle, hjudge]
  rfl

end WithDor

/-! ## Acts kept for the end of an exchange -/

/-- The part with other acts kept. -/
def Car.keeping (c : Car) (acts : List (Leaf × DeferredAct)) : Car := { c with dor := { c.dor with deferred := acts } }

section Keeping
variable (c : Car) (acts : List (Leaf × DeferredAct)) (leaf : Leaf)

theorem Dor.place_keeping (d : Dor) (cmd : DoorCommand) :
    ({ d with deferred := acts } : Dor).place leaf cmd = { d.place leaf cmd with deferred := acts } := by
  unfold Dor.place
  dsimp only
  split
  · rfl
  · split <;> rfl

theorem Car.placed_keeping (d : Dor) (cmd : DoorCommand) :
    ({ c with dor := ({ d with deferred := acts } : Dor).place leaf cmd } : Car) =
      ({ c with dor := d.place leaf cmd } : Car).keeping acts :=
  congrArg (fun e => ({ c with dor := e } : Car)) (Dor.place_keeping acts leaf d cmd)

/-- Whether a leaf that unlocks is sent OPEN at once (R139, R149). -/
def Car.opensUnlocked (c : Car) (leaf : Leaf) : Bool :=
  (c.dor.sides.get leaf.side).release.isSome && (c.dor.sides.get leaf.side).autoOpen && !c.brk.faultStop

theorem acknowledged_unlock_opens {c : Car} {leaf : Leaf} (h : c.opensUnlocked leaf = true) : acknowledged leaf .unlock c =
    { c with dor := (c.dor.modify leaf fun r => { r with state := .unlocked }).place leaf (.openLeaf false) } :=
  congrArg (fun d => ({ c with dor := d } : Car)) (if_pos h)

theorem acknowledged_unlock_stays {c : Car} {leaf : Leaf} (h : ¬ c.opensUnlocked leaf = true) : acknowledged leaf .unlock c =
    { c with dor := c.dor.modify leaf fun r => { r with state := .unlocked } } :=
  congrArg (fun d => ({ c with dor := d } : Car)) (if_neg h)

theorem Car.opensUnlocked_iff {c : Car} {leaf : Leaf} : c.opensUnlocked leaf = true ↔
    (c.dor.sides.get leaf.side).release ≠ none ∧ (c.dor.sides.get leaf.side).autoOpen = true ∧ c.brk.faultStop = false := by
  rw [Car.opensUnlocked, Bool.and_eq_true, Bool.and_eq_true, Bool.not_eq_true', and_assoc, Option.isSome_iff_ne_none]

theorem acknowledged_keeping (cmd : DoorCommand) :
    acknowledged leaf cmd (c.keeping acts) = (acknowledged leaf cmd c).keeping acts := by
  cases cmd with
  | unlock =>
    by_cases h : c.opensUnlocked leaf = true
    · rw [acknowledged_unlock_opens h, acknowledged_unlock_opens (c := c.keeping acts) h]
      exact Car.placed_keeping c acts leaf (c.dor.modify leaf fun r => { r with state := .unlocked }) _
    · rw [acknowledged_unlock_stays h, acknowledged_unlock_stays (c := c.keeping acts) h]
      rfl
  | openLeaf afterObstacle => cases afterObstacle <;> rfl
  | _ => rfl

theorem takePosition_keeping (p : LeafPosition) :
    takePosition leaf p (c.keeping acts) = (takePosition leaf p c).keeping acts := by
  unfold takePosition
  dsimp only [Car.keeping]
  split
  case h_12 =>
    split
    · exact Car.placed_keeping c acts leaf ((c.dor.modify leaf fun r => { r with state := .unlocked, closeDue := false }).unplace
        fun l cmd => l == leaf && cmd.closes) _
    · rfl
  case h_15 => split <;> rfl
  all_goals rfl

/-- Whether an obstacle is one that the leaf answers (R142). -/
def Car.obstacleSeen (c : Car) (leaf : Leaf) : Prop :=
  (c.dor.leaves.get leaf).state = .closing ∧
    !c.dor.waitingOrRunning leaf (fun x => x == .reopen || x == .openLeaf false || x == .openLeaf true)

/-- The doors with an obstacle counted. -/
def Dor.obstructing (d : Dor) (leaf : Leaf) : Dor :=
  d.modify leaf fun r => { r with obstacles := min 3 ((d.leaves.get leaf).obstacles + 1) }

section Obstacle
variable {c : Car} {leaf : Leaf}

theorem takeObstacle_ignored (h : ¬ c.obstacleSeen leaf) : takeObstacle leaf c = c := if_neg h

theorem takeObstacle_few (h : c.obstacleSeen leaf)
    (hfew : c.brk.faultStop = true ∨ min 3 ((c.dor.leaves.get leaf).obstacles + 1) < 3) :
    takeObstacle leaf c = { c with dor := (c.dor.obstructing leaf).place leaf .reopen } :=
  (if_pos h).trans (if_pos hfew)

theorem takeObstacle_third (h : c.obstacleSeen leaf)
    (hmany : ¬ (c.brk.faultStop = true ∨ min 3 ((c.dor.leaves.get leaf).obstacles + 1) < 3)) :
    takeObstacle leaf c =
      occur .doorObstructed leaf.number { c with dor := (c.dor.obstructing leaf).place leaf (.openLeaf true) } :=
  (if_pos h).trans (if_neg hmany)

/-- Whether an open request is one that the leaf is sent OPEN for (R139, R149). -/
def Car.requestTaken (c : Car) (leaf : Leaf) : Prop :=
  (c.dor.leaves.get leaf).state = .unlocked ∧ (c.dor.sides.get leaf.side).release.isSome ∧ !c.brk.faultStop ∧
    !(c.dor.slot leaf == some (.openLeaf false) || c.dor.slot leaf == some (.openLeaf true))

theorem takeOpenRequest_ignored (h : ¬ c.requestTaken leaf) : takeOpenRequest leaf c = c := if_neg h

theorem takeOpenRequest_opens (h : c.requestTaken leaf) :
    takeOpenRequest leaf c = { c with dor := c.dor.place leaf (.openLeaf false) } := if_pos h

end Obstacle

theorem takeObstacle_keeping : takeObstacle leaf (c.keeping acts) = (takeObstacle leaf c).keeping acts := by
  by_cases h : c.obstacleSeen leaf
  · by_cases hfew : c.brk.faultStop = true ∨ min 3 ((c.dor.leaves.get leaf).obstacles + 1) < 3
    · rw [takeObstacle_few h hfew, takeObstacle_few (c := c.keeping acts) h hfew]
      exact c.placed_keeping acts leaf (c.dor.obstructing leaf) _
    · rw [takeObstacle_third h hfew, takeObstacle_third (c := c.keeping acts) h hfew]
      exact congrArg (occur .doorObstructed leaf.number) (c.placed_keeping acts leaf (c.dor.obstructing leaf) _)
  · rw [takeObstacle_ignored h, takeObstacle_ignored (c := c.keeping acts) h]

theorem takeOpenRequest_keeping : takeOpenRequest leaf (c.keeping acts) = (takeOpenRequest leaf c).keeping acts := by
  by_cases h : c.requestTaken leaf
  · rw [takeOpenRequest_opens h, takeOpenRequest_opens (c := c.keeping acts) h]
    exact c.placed_keeping acts leaf c.dor _
  · rw [takeOpenRequest_ignored h, takeOpenRequest_ignored (c := c.keeping acts) h]

theorem statusTaken_keeping (r : StatusReply) : statusTaken leaf r (c.keeping acts) = (statusTaken leaf r c).keeping acts := by
  have hposition := takePosition_keeping (c.recorded leaf r) acts leaf r.position
  unfold statusTaken
  dsimp only
  rw [show takePosition leaf r.position { c.keeping acts with
    dor := (c.keeping acts).dor.modify leaf fun q => { q with lastStatus := some r } } = _ from hposition]
  split
  · split
    · rw [takeObstacle_keeping]
      exact takeOpenRequest_keeping _ acts leaf
    · exact takeOpenRequest_keeping _ acts leaf
  · split
    · exact takeObstacle_keeping _ acts leaf
    · rfl

end Keeping

section Ends
variable (x : Exchange)

/-- What a failure does before the acts that were kept for the end of the exchange. -/
def Exchange.failed (c : Car) : Car :=
  if x.void then c
  else
    match (c.dor.leaves.get x.leaf).state with
    | .unread =>
      if (c.dor.leaves.get x.leaf).unreadFailure then c
      else occur .doorFault (x.leaf.number * 256 + 1)
        { c with dor := c.dor.modify x.leaf fun r => { r with unreadFailure := true } }
    | .fault => c
    | .isolated => c
    | _ => leafFault x.leaf .bus c

theorem exchangeFailed_eq (c : Car) : exchangeFailed x c =
    { x.failed c.idle with dor := (x.failed c.idle).dor.endExchange x.leaf } := rfl

theorem Exchange.failed_moves (c : Car) : c.MovesLeaf x.leaf (x.failed c) := by
  unfold Exchange.failed
  split
  · exact .refl c
  split
  · split
    · exact .refl c
    · exact (c.movesLeaf_modify _).trans (Car.movesLeaf_occur ..)
  iterate 2 exact .refl c
  exact leafFault_moves .bus c

theorem Exchange.failed_keeping (c : Car) (acts : List (Leaf × DeferredAct)) :
    x.failed (c.keeping acts) = (x.failed c).keeping acts := by
  unfold Exchange.failed
  dsimp only [Car.keeping]
  split
  · rfl
  split
  · by_cases hmark : (c.dor.leaves.get x.leaf).unreadFailure = true
    · simp only [hmark, if_true]
    · simp only [hmark]
      rfl
  all_goals rfl

theorem Exchange.answered_keeping (reply : DouReply) (c : Car) (acts : List (Leaf × DeferredAct)) :
    x.answered reply (c.keeping acts) = (x.answered reply c).keeping acts := by
  have hstatus := statusTaken_keeping c acts x.leaf
  have hcommand := acknowledged_keeping c acts x.leaf
  unfold Exchange.answered
  dsimp only [Car.keeping] at hstatus hcommand ⊢
  by_cases hidle : x.void = true ∨ (c.dor.leaves.get x.leaf).state = .isolated
  · simp only [hidle, if_true]
  · simp only [hidle, if_false]
    split
    · exact hstatus _
    · by_cases hstill : (c.dor.leaves.get x.leaf).state = .fault ∨ (c.dor.leaves.get x.leaf).state = .unread
      · simp only [hstill, if_true]
      · simp only [hstill, if_false]
        exact hcommand _
    · rfl

/-- An act kept last for the end of an exchange takes effect on what the end leaves without it. -/
theorem Dor.endExchange_last {d : Dor} {acts : List (Leaf × DeferredAct)} {leaf : Leaf} {act : DeferredAct}
    (h : d.deferred = acts ++ [(leaf, act)]) :
    d.endExchange leaf = (Dor.endExchange { d with deferred := acts } leaf).act leaf act := by
  unfold Dor.endExchange
  rw [h]
  simp

theorem Dor.actAll_frame {leaf : Leaf} (acts : List (Leaf × DeferredAct)) (h : ∀ a ∈ acts, a.1 = leaf) (d : Dor) :
    d.ActsOn leaf (acts.foldl (fun d a => d.act a.1 a.2) d) := by
  induction acts generalizing d with
  | nil => exact .refl d
  | cons a acts ih =>
    have ha := h a List.mem_cons_self
    subst ha
    exact (d.act_acts a.2).trans (ih (fun b hb => h b (List.mem_cons_of_mem a hb)) _)

theorem Dor.endExchange_none (d : Dor) (leaf : Leaf) : (d.endExchange leaf).exchange = none := by
  have hacts := Dor.actAll_frame (leaf := leaf) (d.deferred.filter fun x => x.1 == leaf)
    (fun a ha => by simpa using (List.mem_filter.1 ha).2)
    { d with exchange := none, deferred := d.deferred.filter fun x => !(x.1 == leaf) }
  exact (congrArg Dor.exchange hacts.frame :)

/-- How an exchange ends: as answered, or as failed. -/
def Exchange.EndsBy (f : Car → Car) : Prop := (∃ reply, f = exchangeAnswered x reply) ∨ f = exchangeFailed x

section Last
variable {x : Exchange} {f : Car → Car} {c : Car} {acts : List (Leaf × DeferredAct)} {act : DeferredAct}
  (h : c.dor.deferred = acts ++ [(x.leaf, act)])
include h

/-- What an end whose effect looks at no kept act does with one more act kept for it. -/
theorem Exchange.ends_last_of {g : Car → Car} (hmoves : ∀ c : Car, c.MovesLeaf x.leaf (g c))
    (hkeeps : ∀ c : Car, g (c.keeping acts) = (g c).keeping acts)
    (heq : ∀ c : Car, f c = { g c.idle with dor := (g c.idle).dor.endExchange x.leaf }) :
    (f (c.keeping acts)).dor.exchange = none ∧
    f c = (f (c.keeping acts)).withDor ((f (c.keeping acts)).dor.act x.leaf act) := by
  have hdeferred : (g c.idle).dor.deferred = acts ++ [(x.leaf, act)] :=
    (congrArg (·.dor.deferred) (hmoves c.idle).frame :).trans h
  have hkept : g (c.keeping acts).idle = (g c.idle).keeping acts := hkeeps c.idle
  rw [heq, heq, hkept]
  refine ⟨Dor.endExchange_none _ _, ?_⟩
  exact congrArg (fun d => ({ g c.idle with dor := d } : Car)) (Dor.endExchange_last hdeferred)

theorem Exchange.ends_last (hf : x.EndsBy f) :
    (f (c.keeping acts)).dor.exchange = none ∧
    f c = (f (c.keeping acts)).withDor ((f (c.keeping acts)).dor.act x.leaf act) := by
  rcases hf with ⟨reply, rfl⟩ | rfl
  · exact Exchange.ends_last_of h (x.answered_moves reply) (fun c => x.answered_keeping reply c acts)
      (exchangeAnswered_eq x reply)
  · exact Exchange.ends_last_of h x.failed_moves (fun c => x.failed_keeping c acts) (exchangeFailed_eq x)

end Last

/-- A reply or a timeout that ends an exchange, whatever else the car holds. -/
theorem exec_ends {x : Exchange} {i : Instr}
    (hi : (∃ r, i = .doorBusReply x.leaf.number r true false ∧ x.message.expects r = true) ∨
      (3 ≤ x.attempt ∧ ((i = .doorReplyTimeout ∧ Timer.reached 2 x.timer = true) ∨ ∃ a r ok, i = .doorBusReply a r ok false ∧
        (a ≠ x.leaf.number ∨ ok = false ∨ x.message.expects r = false)))) :
    ∃ f, x.EndsBy f ∧ ∀ u : State, u.car.inReset = false → u.car.dor.exchange = some x →
      exec i u = .next ⟨settle (f u.car), u.pending⟩ := by
  have hrun (u : State) (h : u.car.inReset = false) (f : Car → Car) : u.run f = ⟨settle (f u.car), u.pending⟩ := by
    rw [State.run, h]
    rfl
  rcases hi with ⟨r, rfl, hexpects⟩ | ⟨hmany, ⟨rfl, hreached⟩ | ⟨a, r, ok, rfl, hbad⟩⟩
  · refine ⟨_, .inl ⟨r, rfl⟩, fun u hreset hx => (congrArg Host.Outcome.next (hrun u hreset _)).trans ?_⟩
    simp only [busReply, hx, hexpects, Bool.false_eq_true, if_false, and_self, if_true]
  · refine ⟨_, .inr rfl, fun u hreset hx => (congrArg Host.Outcome.next (hrun u hreset _)).trans ?_⟩
    have hyes : Timer.reached Limit.doorReply x.timer = true := hreached
    simp only [replyTimeout, hx, if_pos hyes, attemptFailed, if_neg (Nat.not_lt.2 hmany)]
  · refine ⟨_, .inr rfl, fun u hreset hx => (congrArg Host.Outcome.next (hrun u hreset _)).trans ?_⟩
    have hnot : ¬ (a = x.leaf.number ∧ ok = true ∧ x.message.expects r = true) := by
      rintro ⟨ha, hok, hexpects⟩
      exact hbad.elim (fun h => h ha) (·.elim (fun h => absurd (h.symm.trans hok) nofun)
        fun h => absurd (h.symm.trans hexpects) nofun)
    simp only [busReply, hx, Bool.false_eq_true, if_false, if_neg hnot, attemptFailed, if_neg (Nat.not_lt.2 hmany)]

end Ends

/-! ## What the judgement makes of an act -/

section Acted
variable {leaf : Leaf} {d e : Dor} (h : d.ActsOn leaf e)
include h

theorem Dor.ActsOn.allSafe : e.allSafe = d.allSafe :=
  Dor.allSafe_congr fun l => by rw [LeafRecord.unsafeLeaf, h.state, LeafRecord.unsafeLeaf]

theorem Dor.ActsOn.anyGranted : e.anyGranted = d.anyGranted := by
  rw [Dor.anyGranted, Dor.anyGranted]
  rcases h.sides with hs | hs <;> rw [hs]
  cases leaf.side <;> rfl

theorem Dor.ActsOn.exchange : e.exchange = d.exchange := (congrArg Dor.exchange h.frame :)

theorem Dor.ActsOn.running (l : Leaf) (f : DoorCommand → Bool) : e.running l f = d.running l f := by
  rw [Dor.running, h.exchange, Dor.running]

/-- The side across passes on as it would have. -/
theorem Dor.ActsOn.passed {side : Side} (hside : side ≠ leaf.side) : e.passed side = d.passed side := by
  have hsides : e.sides.get side = d.sides.get side :=
    h.sides.elim (fun hs => by rw [hs]) fun hs => by rw [hs, d.chiming_side_ne hside]
  have hchimed : e.chimed side = d.chimed side := by
    rw [Dor.chimed, Dor.chimed, Bool.eq_iff_iff, List.all_eq_true, List.all_eq_true]
    refine forall₂_congr fun l hl => ?_
    have hne : l ≠ leaf := fun heq => hside (by subst heq; cases side <;> cases l <;> simp [Side.leaves, Leaf.side] at hl ⊢)
    rw [h.leaves l hne, Dor.waitingOrRunning, h.slots l hne, h.running, Dor.waitingOrRunning]
  rw [Dor.passed, hsides, hchimed, Dor.passed]

end Acted

theorem Dor.passed_autoOpen (d : Dor) (side : Side) : (d.passed side).autoOpen = (d.sides.get side).autoOpen := by
  unfold Dor.passed
  dsimp only
  split <;> rfl

/-! ## The obligation's parts -/

section Parts
variable {s : State} (hr : Ready s) {x : Exchange} (hx : s.car.dor.exchange = some x)
include hr hx

/-- An exchange that ends with one more act kept than another does what that one does, and then the act. -/
theorem exec_ends_last {i : Instr} {acts : List (Leaf × DeferredAct)} {act : DeferredAct}
    (hdeferred : s.car.dor.deferred = acts ++ [(x.leaf, act)])
    (hi : (∃ r, i = .doorBusReply x.leaf.number r true false ∧ x.message.expects r = true) ∨
      (3 ≤ x.attempt ∧ ((i = .doorReplyTimeout ∧ Timer.reached 2 x.timer = true) ∨ ∃ a r ok, i = .doorBusReply a r ok false ∧
        (a ≠ x.leaf.number ∨ ok = false ∨ x.message.expects r = false)))) :
    ∃ c : Car, c.dor.exchange = none ∧ exec i ⟨s.car.keeping acts, s.pending⟩ = .next ⟨settle c, s.pending⟩ ∧
      exec i s = .next ⟨(settle c).withDor ((c.dor.act x.leaf act).judge c.odo.fused), s.pending⟩ := by
  obtain ⟨f, hf, hexec⟩ := exec_ends hi
  obtain ⟨hnone, hlast⟩ := Exchange.ends_last hdeferred hf
  have hacts := (f (s.car.keeping acts)).dor.act_acts act (leaf := x.leaf)
  refine ⟨f (s.car.keeping acts), hnone, hexec ⟨s.car.keeping acts, s.pending⟩ hr.1 hx, ?_⟩
  rw [hexec s hr.1 hx, hlast, settle_withDor hacts.allSafe hacts.anyGranted (congrArg Dor.proven hacts.frame :)
    (congrArg Dor.condition hacts.frame :)]

theorem exec_statusTaken {r : StatusReply} (hmessage : x.message = .status) (hvoid : x.void = false)
    (hdeferred : s.car.dor.deferred = []) (h : (s.car.dor.leaves.get x.leaf).state ≠ .isolated) :
    exec (.doorBusReply x.leaf.number (.status r) true false) s = .next ⟨settle (statusTaken x.leaf r s.car.idle), s.pending⟩ := by
  rw [exec_answered_unkept hr hx (by rw [hmessage]; rfl) hdeferred]
  rw [Exchange.answered_status (c := s.car.idle) hmessage hvoid r h]

end Parts

section Acknowledged
variable {x : Exchange} {cmd : DoorCommand} {c : Car}

theorem Exchange.answered_command (hmessage : x.message = .command cmd) (hvoid : x.void = false)
    (hf : (c.dor.leaves.get x.leaf).state ≠ .fault) (hi : (c.dor.leaves.get x.leaf).state ≠ .isolated)
    (hu : (c.dor.leaves.get x.leaf).state ≠ .unread) : x.answered .ack c = acknowledged x.leaf cmd c := by
  have hnot : ¬ (x.void = true ∨ (c.dor.leaves.get x.leaf).state = .isolated) := by
    rw [hvoid]
    exact not_or.2 ⟨nofun, hi⟩
  unfold Exchange.answered
  rw [if_neg hnot, hmessage]
  exact if_neg (not_or.2 ⟨hf, hu⟩)

/-- The chimes of a side have ended when no due leaf of it has one waiting and no exchange runs. -/
theorem Dor.chimed_iff {d : Dor} (hidle : d.exchange = none) (side : Side) : d.chimed side = true ↔
    ¬ ∃ l : Leaf, l.side = side ∧ (d.leaves.get l).closeDue = true ∧ d.slot l = some .chime := by
  have hmem (l : Leaf) : l ∈ side.leaves ↔ l.side = side := by cases side <;> cases l <;> decide
  rw [Dor.chimed, List.all_eq_true, not_exists]
  refine forall_congr' fun l => ?_
  rw [hmem, not_and, not_and, Dor.waitingOrRunning, Dor.running_none _ hidle, Bool.or_false]
  refine forall_congr' fun _ => ?_
  cases (d.leaves.get l).closeDue <;> cases d.slot l <;> simp

end Acknowledged

theorem exec_acknowledged {s : State} (hr : Ready s) {x : Exchange} (hx : s.car.dor.exchange = some x) {cmd : DoorCommand}
    (hmessage : x.message = .command cmd) (hvoid : x.void = false) (hdeferred : s.car.dor.deferred = [])
    (hf : (s.car.dor.leaves.get x.leaf).state ≠ .fault) (hi : (s.car.dor.leaves.get x.leaf).state ≠ .isolated)
    (hu : (s.car.dor.leaves.get x.leaf).state ≠ .unread) :
    exec (.doorBusReply x.leaf.number .ack true false) s = .next ⟨settle (acknowledged x.leaf cmd s.car.idle), s.pending⟩ := by
  rw [exec_answered_unkept hr hx (by rw [hmessage]; rfl) hdeferred]
  rw [Exchange.answered_command (c := s.car.idle) hmessage hvoid hf hi hu]

/-- Settles O44: the acknowledgements, the flags of a status reply, and the acts kept, each by what the exchange's end does. -/
theorem acknowledgedCommandsTakeEffect : Obligations.AcknowledgedCommandsTakeEffect := by
  refine ⟨?acknowledged, ?obstacle, ?request, ?kept⟩
  case acknowledged =>
    intro x cmd s hr hx hmessage hvoid hdeferred hf hi hu r side
    have hmoves := acknowledged_moves (leaf := x.leaf) cmd s.car.idle
    have hmoved := hmoves.frame
    have hframe := settle_frame (acknowledged x.leaf cmd s.car.idle)
    have hleaves : (settle (acknowledged x.leaf cmd s.car.idle)).dor.leaves = (acknowledged x.leaf cmd s.car.idle).dor.leaves :=
      (congrArg (·.dor.leaves) hframe :)
    have hslot (l : Leaf) : (settle (acknowledged x.leaf cmd s.car.idle)).dor.slot l =
      (acknowledged x.leaf cmd s.car.idle).dor.slot l := (congrArg (·.dor.slot l) hframe :)
    have hmodified (f : LeafRecord → LeafRecord) : (s.car.idle.dor.modify x.leaf f).leaves.get x.leaf = f r :=
      Dor.modify_get_self ..
    refine ⟨_, exec_acknowledged hr hx hmessage hvoid hdeferred hf hi hu, rfl,
      (congrArg (·.dor.exchange) hframe :).trans (congrArg (·.dor.exchange) hmoved :),
      fun leaf hleaf => (congrArg (·.get leaf) hleaves).trans (hmoves.leaves leaf hleaf),
      (congrArg Car.lif hframe :).trans (congrArg Car.lif hmoved :), (congrArg Car.odo hframe :).trans (congrArg Car.odo hmoved :),
      (congrArg Car.tlf hframe :).trans (congrArg Car.tlf hmoved :),
      (congrArg Car.pst hframe :).trans (congrArg Car.pst hmoved :), ?_⟩
    dsimp only
    rw [hleaves, hslot]
    cases cmd with
    | unlock =>
      by_cases h : s.car.idle.opensUnlocked x.leaf = true
      · rw [acknowledged_unlock_opens h]
        refine ⟨(Dor.place_get ..).trans (hmodified _), fun _ _ _ => Dor.place_slot _ _ _ ?_, fun hno => ?_⟩
        · exact congrArg (·.state.commanded) (hmodified fun r => { r with state := .unlocked })
        · obtain ⟨hrelease, hauto, hstop⟩ := Car.opensUnlocked_iff.1 h
          exact absurd hno (not_or.2 ⟨hrelease, not_or.2 ⟨ne_false_of_eq_true hauto, ne_true_of_eq_false hstop⟩⟩)
      · rw [acknowledged_unlock_stays h]
        refine ⟨hmodified _, fun hrelease hauto hstop => ?_, fun _ => rfl⟩
        exact absurd (Car.opensUnlocked_iff.2 ⟨hrelease, hauto, hstop⟩) h
    | lock => exact hmodified _
    | openLeaf afterObstacle => cases afterObstacle <;> exact hmodified _
    | close => exact hmodified _
    | reopen => exact hmodified _
    | chime =>
      have hside : (settle (acknowledged x.leaf .chime s.car.idle)).dor.sides.get x.leaf.side =
          s.car.idle.dor.passed x.leaf.side :=
        (congrArg (·.dor.sides.get x.leaf.side) hframe :).trans (Dor.judge_side ..)
      refine ⟨rfl, ?_⟩
      have hchimed := Dor.chimed_iff (d := s.car.idle.dor) rfl x.leaf.side
      rw [hside, Dor.passed]
      exact ⟨fun h => if_neg fun hp => h.elim (hchimed.1 hp.2) fun hstep => hstep hp.1,
        fun hwaits hstep => if_pos ⟨hstep, hchimed.2 hwaits⟩⟩
  case obstacle =>
    intro x s hr hx hmessage hvoid hdeferred hclosing hslot r
    have hrun := exec_statusTaken hr hx (r := ⟨.moving, true, false⟩) hmessage hvoid hdeferred (hclosing ▸ nofun)
    have hrecord : (s.car.idle.recorded x.leaf ⟨.moving, true, false⟩).dor.leaves.get x.leaf =
        { r with lastStatus := some ⟨.moving, true, false⟩ } := Dor.modify_get_self ..
    have hstate : ((s.car.idle.recorded x.leaf ⟨.moving, true, false⟩).dor.leaves.get x.leaf).state = .closing := by
      rw [hrecord]
      exact hclosing
    have htaken : statusTaken x.leaf ⟨.moving, true, false⟩ s.car.idle =
        takeObstacle x.leaf (s.car.idle.recorded x.leaf ⟨.moving, true, false⟩) :=
      congrArg (takeObstacle x.leaf) (takePosition_same (.inr (.inr (.inr (.inr (.inl ⟨hstate, nofun⟩))))))
    have hseen : (s.car.idle.recorded x.leaf ⟨.moving, true, false⟩).obstacleSeen x.leaf := by
      have hidle : (s.car.idle.recorded x.leaf ⟨.moving, true, false⟩).dor.exchange = none := rfl
      have hempty : (s.car.idle.recorded x.leaf ⟨.moving, true, false⟩).dor.slot x.leaf = none := hslot
      refine ⟨hstate, ?_⟩
      rw [Dor.waitingOrRunning, Dor.running_none _ hidle, hempty]
      rfl
    have hsafe : s.car.dor.allSafe = false :=
      Dor.allSafe_of_unsafe (leaf := x.leaf) (by rw [LeafRecord.unsafeLeaf, hclosing]; rfl)
    rw [htaken] at hrun
    generalize he : s.car.idle.recorded x.leaf ⟨.moving, true, false⟩ = e at *
    have hplaced (cmd : DoorCommand) : ((e.dor.obstructing x.leaf).place x.leaf cmd).leaves.get x.leaf = { r with
        lastStatus := some ⟨.moving, true, false⟩, obstacles := min 3 (r.obstacles + 1) } := by
      rw [Dor.place_get, Dor.obstructing, Dor.modify_get_self, hrecord]
    have hcommanded : ((e.dor.obstructing x.leaf).leaves.get x.leaf).state.commanded = true := by
      rw [Dor.obstructing, Dor.modify_get_self, hrecord, hclosing]
      rfl
    have hunsafe (cmd : DoorCommand) : ((e.dor.obstructing x.leaf).place x.leaf cmd).allSafe = s.car.dor.allSafe := by
      rw [hsafe]
      exact Dor.allSafe_of_unsafe (leaf := x.leaf) (by rw [hplaced, LeafRecord.unsafeLeaf, hclosing]; rfl)
    have hsettle (cmd : DoorCommand) {c : Car} (hdor : c.dor = (e.dor.obstructing x.leaf).place x.leaf cmd)
        (hbrk : c.brk = s.car.brk) (hodo : c.odo = s.car.odo) (hssv : c.ssv = s.car.ssv) :
        settle c = { c with dor := c.dor.judge c.odo.fused } := by
      refine hr.settle_safe hbrk (by rw [hodo]) (by rw [hssv]) (by rw [hdor]; exact hunsafe cmd) ?_ ?_ ?_
      all_goals
        rw [hdor, Dor.place_frame, ← he]
        rfl
    by_cases hfew : s.car.brk.faultStop = true ∨ min 3 (r.obstacles + 1) < 3
    · have hfew' : e.brk.faultStop = true ∨ min 3 ((e.dor.leaves.get x.leaf).obstacles + 1) < 3 := by
        rw [hrecord, ← he]
        exact hfew
      rw [takeObstacle_few hseen hfew', hsettle .reopen rfl (by rw [← he]; rfl) (by rw [← he]; rfl) (by rw [← he]; rfl)] at hrun
      refine ⟨_, hrun, rfl, hplaced .reopen, fun _ => ⟨Dor.place_slot _ _ _ hcommanded, by rw [← he]; rfl⟩, fun hmany hno => ?_⟩
      exact absurd hfew (not_or.2 ⟨ne_true_of_eq_false hno, by omega⟩)
    · have hmany' : ¬ (e.brk.faultStop = true ∨ min 3 ((e.dor.leaves.get x.leaf).obstacles + 1) < 3) := by
        rw [hrecord, ← he]
        exact hfew
      rw [takeObstacle_third hseen hmany',
        hsettle (.openLeaf true) rfl (by rw [← he]; rfl) (by rw [← he]; rfl) (by rw [← he]; rfl)] at hrun
      refine ⟨_, hrun, rfl, hplaced (.openLeaf true), fun hno => ?_,
        fun _ _ => ⟨Dor.place_slot _ _ _ hcommanded, by rw [← he]; rfl⟩⟩
      exact absurd (hno.symm.imp_right fun _ => by omega) hfew
  case request =>
    intro x s hr hx hmessage hvoid hdeferred hunlocked r granted
    have hrun := exec_statusTaken hr hx (r := ⟨.closedUnlocked, false, true⟩) hmessage hvoid hdeferred (hunlocked ▸ nofun)
    have hrecord : (s.car.idle.recorded x.leaf ⟨.closedUnlocked, false, true⟩).dor.leaves.get x.leaf =
        { r with lastStatus := some ⟨.closedUnlocked, false, true⟩ } := Dor.modify_get_self ..
    have hstate : ((s.car.idle.recorded x.leaf ⟨.closedUnlocked, false, true⟩).dor.leaves.get x.leaf).state = .unlocked := by
      rw [hrecord]
      exact hunlocked
    have htaken : statusTaken x.leaf ⟨.closedUnlocked, false, true⟩ s.car.idle =
        takeOpenRequest x.leaf (s.car.idle.recorded x.leaf ⟨.closedUnlocked, false, true⟩) :=
      congrArg (takeOpenRequest x.leaf) (takePosition_same (.inr (.inl ⟨hstate, rfl⟩)))
    have hsafe : (s.car.idle.recorded x.leaf ⟨.closedUnlocked, false, true⟩).dor.allSafe = s.car.dor.allSafe :=
      Dor.allSafe_modify s.car.idle.dor x.leaf (fun q => { q with lastStatus := some ⟨.closedUnlocked, false, true⟩ }) fun _ => rfl
    rw [htaken] at hrun
    by_cases h : (s.car.idle.recorded x.leaf ⟨.closedUnlocked, false, true⟩).requestTaken x.leaf
    · have hframe := (s.car.idle.recorded x.leaf ⟨.closedUnlocked, false, true⟩).dor.place_frame x.leaf (.openLeaf false)
      have hsettle := hr.settle_safe
        (c := { s.car.idle.recorded x.leaf ⟨.closedUnlocked, false, true⟩ with
          dor := (s.car.idle.recorded x.leaf ⟨.closedUnlocked, false, true⟩).dor.place x.leaf (.openLeaf false) }) rfl rfl rfl
        ((congrArg Dor.allSafe hframe :).trans hsafe) (congrArg Dor.anyGranted hframe :) (congrArg Dor.proven hframe :)
        (congrArg Dor.condition hframe :)
      rw [takeOpenRequest_opens h, hsettle] at hrun
      refine ⟨_, hrun, rfl, (congrArg Dor.exchange hframe :), (congrArg Dor.leaves hframe :),
        fun _ _ _ => Dor.place_slot _ _ _ (congrArg LeafState.commanded hstate), fun hno => ?_, rfl, rfl, rfl⟩
      obtain ⟨-, hrelease, hstop, -⟩ := h
      exact hno.elim (fun hno => absurd (Option.isSome_iff_ne_none.1 hrelease) hno)
        fun hno => absurd hno (ne_true_of_eq_false ((Bool.not_eq_true' _).mp hstop))
    · have hsettle := hr.settle_safe (c := s.car.idle.recorded x.leaf ⟨.closedUnlocked, false, true⟩) rfl rfl rfl hsafe rfl rfl rfl
      rw [takeOpenRequest_ignored h, hsettle] at hrun
      refine ⟨_, hrun, rfl, rfl, rfl, fun hgranted hstop hthird => ?_, fun _ => rfl, rfl, rfl, rfl⟩
      refine by_contra fun hslot => h ⟨hstate, Option.isSome_iff_ne_none.2 hgranted, ?_, ?_⟩
      · exact (Bool.not_eq_true' _).mpr hstop
      · have hother : (s.car.idle.recorded x.leaf ⟨.closedUnlocked, false, true⟩).dor.slot x.leaf ≠ some (.openLeaf false) := hslot
        have hmarked : (s.car.idle.recorded x.leaf ⟨.closedUnlocked, false, true⟩).dor.slot x.leaf ≠ some (.openLeaf true) := hthird
        rw [beq_eq_false_iff_ne.2 hother, beq_eq_false_iff_ne.2 hmarked]
        rfl
  case kept =>
    intro x i acts act s hr hx hdeferred hi
    obtain ⟨c, hnone, hu, ht⟩ := exec_ends_last hr hx hdeferred hi
    have hframe := settle_frame c
    have hdor : (settle c).dor = c.dor.judge c.odo.fused := (congrArg Car.dor hframe :)
    have hacts := c.dor.act_acts act (leaf := x.leaf)
    refine ⟨_, _, hu, ht, rfl, rfl, hacts.exchange.trans hnone, ?_, ?_, fun leaf hleaf => ?_, fun side hside => ?_⟩
    all_goals dsimp only; rw [hdor]
    · exact (congrArg Dor.deferred hacts.frame :)
    · have hrunning (f : DoorCommand → Bool) : (c.dor.act x.leaf act).running x.leaf f = false := by
        rw [hacts.running, Dor.running_none _ hnone]
      have hauto : (c.dor.sides.get x.leaf.side).autoOpen = ((c.dor.judge c.odo.fused).sides.get x.leaf.side).autoOpen := by
        rw [Dor.judge_side, Dor.passed_autoOpen]
      cases act with
      | release => exact Dor.released (d := c.dor) hrunning (.refl _) (.refl _) hauto
      | close again => exact Dor.closed (d := c.dor) hrunning (.refl _) (.refl _)
    · exact ⟨hacts.leaves leaf hleaf, hacts.slots leaf hleaf⟩
    · show ((c.dor.act x.leaf act).judge c.odo.fused).sides.get side = _
      rw [Dor.judge_side, Dor.judge_side, hacts.passed hside]

end Sys2Proof.Machine
end

section
/-! Door releases and door closes (R138 to R140, O39, O40). -/

namespace Sys2Proof.Machine

/-! ## The platform lookup (R138) -/

theorem mem_insertBy {α : Type} (le : α → α → Bool) (x a : α) (l : List α) : a ∈ insertBy le x l ↔ a = x ∨ a ∈ l := by
  induction l with
  | nil => simp [insertBy]
  | cons y l ih =>
    unfold insertBy
    split
    · rw [List.mem_cons, ih, List.mem_cons]
      tauto
    · rw [List.mem_cons]

theorem mem_sortBy {α : Type} (le : α → α → Bool) (a : α) (l : List α) : a ∈ sortBy le l ↔ a ∈ l := by
  induction l with
  | nil => rfl
  | cons x l ih => rw [sortBy, mem_insertBy, ih, List.mem_cons]

theorem PlatformSide.serves_iff (q : PlatformSide) (x : Side) : q.serves x = true ↔
    q = .both ∨ (q = .left ∧ x = .left) ∨ (q = .right ∧ x = .right) := by
  cases q <;> cases x <;> decide

theorem Platform.spans_iff (q : Platform) (lo hi : Int) : q.spans lo hi = true ↔ (q.low : Int) ≤ lo ∧ hi ≤ (q.high : Int) := by
  rw [Platform.spans, Bool.and_eq_true, decide_eq_true_iff, decide_eq_true_iff]

theorem Platform.overlaps_of_spans {q : Platform} {lo hi : Int} (hle : lo ≤ hi) (h : q.spans lo hi = true) :
    q.overlaps lo hi = true := by
  obtain ⟨hlow, hhigh⟩ := (q.spans_iff lo hi).1 h
  rw [Platform.overlaps, Bool.and_eq_true, decide_eq_true_iff, decide_eq_true_iff]
  omega

theorem extentLow_le_high (p : PositionRecord) (carLength : Nat) : extentLow p carLength ≤ extentHigh p carLength := by
  rw [extentLow, extentHigh]
  omega

/-- A platform of a readable record spans the extent. -/
theorem Intact.spansExtent_iff {c : Car} (h : Intact c) (hknown : c.odo.position.state = .known) (x : Side) :
    spansExtent c x = true ↔ ∃ r ∈ c.pst.table, r.checkFailed = false ∧ ∃ q, r.platform = some q ∧
      (q.side = .both ∨ (q.side = .left ∧ x = .left) ∨ (q.side = .right ∧ x = .right)) ∧
      (q.low : Int) ≤ extentLow c.odo.position c.lif.params.carLength ∧
      extentHigh c.odo.position c.lif.params.carLength ≤ q.high := by
  have hne : c.odo.position.state ≠ .unknown := hknown ▸ nofun
  simp only [spansExtent, platformsOver, if_neg hne, List.any_eq_true, mem_sortBy, List.mem_filter, List.mem_filterMap,
    Segment.platformAnswer, Option.map_eq_some_iff, Bool.and_eq_true, PlatformSide.serves_iff, h.readable, Bool.not_eq_true']
  constructor
  · rintro ⟨a, ⟨⟨r, ⟨hr, hchecked⟩, q, hq, rfl⟩, -⟩, hserves, hspans⟩
    exact ⟨r, hr, hchecked, q, hq, hserves, (q.spans_iff _ _).1 hspans⟩
  · rintro ⟨r, hr, hchecked, q, hq, hserves, hspans⟩
    have hspans' := (q.spans_iff _ _).2 hspans
    exact ⟨⟨r.id, q⟩, ⟨⟨r, ⟨hr, hchecked⟩, q, hq, rfl⟩, Platform.overlaps_of_spans (extentLow_le_high ..) hspans'⟩, hserves,
      hspans'⟩

/-! ## Acts on the leaves of a side -/

/-- The doors with leaves of one side acted on, or acts kept for them. -/
structure Dor.Tended (side : Side) (d e : Dor) : Prop where
  frame : e = { d with leaves := e.leaves, slots := e.slots, sides := e.sides, deferred := e.deferred }
  state : ∀ l, (e.leaves.get l).state = (d.leaves.get l).state
  leaves : ∀ k : Leaf, k.side ≠ side → e.leaves.get k = d.leaves.get k
  slots : ∀ k : Leaf, k.side ≠ side → e.slot k = d.slot k
  sides : e.sides = d.sides ∨ e.sides = (d.chiming side).sides

section Tended
variable {side : Side}

theorem Dor.Tended.refl (d : Dor) : d.Tended side d := ⟨rfl, fun _ => rfl, fun _ _ => rfl, fun _ _ => rfl, .inl rfl⟩

theorem Dor.Tended.trans {d e f : Dor} (h : d.Tended side e) (k : e.Tended side f) : d.Tended side f := by
  refine ⟨k.frame.trans ?_, fun l => (k.state l).trans (h.state l), fun l hl => (k.leaves l hl).trans (h.leaves l hl),
    fun l hl => (k.slots l hl).trans (h.slots l hl), ?_⟩
  · rw [h.frame]
  · have hchiming : (e.chiming side).sides = (d.chiming side).sides := by
      unfold Dor.chiming
      dsimp only
      rcases h.sides with hs | hs <;> rw [hs]
      cases side <;> rfl
    rw [← hchiming]
    exact k.sides.elim (fun hk => h.sides.imp hk.trans fun hs => by rw [hk, hs, ← hchiming]) .inr

theorem Dor.ActsOn.tended {leaf : Leaf} {d e : Dor} (h : d.ActsOn leaf e) : d.Tended leaf.side e := by
  refine ⟨?_, h.state, fun k hk => h.leaves k fun heq => hk (heq ▸ rfl), fun k hk => h.slots k fun heq => hk (heq ▸ rfl), h.sides⟩
  rw [show e.deferred = d.deferred from (congrArg Dor.deferred h.frame :)]
  exact h.frame

section Facts
variable {d e : Dor} (h : d.Tended side e)
include h

theorem Dor.Tended.exchange : e.exchange = d.exchange := (congrArg Dor.exchange h.frame :)

theorem Dor.Tended.running (l : Leaf) (f : DoorCommand → Bool) : e.running l f = d.running l f := by
  rw [Dor.running, h.exchange, Dor.running]

theorem Dor.Tended.allSafe : e.allSafe = d.allSafe :=
  Dor.allSafe_congr fun l => by rw [LeafRecord.unsafeLeaf, h.state, LeafRecord.unsafeLeaf]

theorem Dor.Tended.runsWith (leaf : Leaf) : e.runsWith leaf ↔ d.runsWith leaf := by
  rw [Dor.runsWith, Dor.runsWith, h.exchange]

theorem Dor.Tended.otherSide {x : Side} (hx : x ≠ side) : e.sides.get x = d.sides.get x :=
  h.sides.elim (fun hs => by rw [hs]) fun hs => by rw [hs, d.chiming_side_ne hx]

theorem Dor.Tended.ownSide : e.sides.get side = d.sides.get side ∨
    e.sides.get side = { d.sides.get side with step := .chiming, warning := none } :=
  h.sides.imp (fun hs => by rw [hs]) fun hs => by rw [hs, d.chiming_side]

end Facts

/-- Doors that stand at the leaves of a side, with the same exchange, pass that side on alike. -/
theorem Dor.passed_congr {d e : Dor} (hexchange : e.exchange = d.exchange) (hside : e.sides.get side = d.sides.get side)
    (hleaves : ∀ l : Leaf, l.side = side → e.leaves.get l = d.leaves.get l)
    (hslots : ∀ l : Leaf, l.side = side → e.slot l = d.slot l) : e.passed side = d.passed side := by
  have hchimed : e.chimed side = d.chimed side := by
    rw [Dor.chimed, Dor.chimed, Bool.eq_iff_iff, List.all_eq_true, List.all_eq_true]
    refine forall₂_congr fun l hl => ?_
    have hl : l.side = side := by cases side <;> cases l <;> simp [Side.leaves, Leaf.side] at hl ⊢
    rw [hleaves l hl, Dor.waitingOrRunning, hslots l hl, Dor.running, hexchange, Dor.waitingOrRunning, Dor.running]
  rw [Dor.passed, hside, hchimed, Dor.passed]

theorem Dor.StandsAt.trans {leaf : Leaf} {d e f : Dor} (h : d.StandsAt leaf e) (k : e.StandsAt leaf f) : d.StandsAt leaf f := by
  refine ⟨k.record.trans h.record, k.slot.trans h.slot, ?_⟩
  rcases k.side with hk | hk
  · rw [hk]
    exact h.side
  · rw [hk]
    refine .inr ?_
    rcases h.side with hs | hs <;> rw [hs]

end Tended

/-! ## At once, or at the end of the exchange that runs -/

section Defer
variable (d : Dor) (what : DeferredAct) (leaf : Leaf)

theorem Dor.actOrDefer_idle (h : ¬ d.runsWith leaf) : d.actOrDefer what leaf = d.act leaf what := by
  refine if_neg fun hany => h ?_
  obtain ⟨x, hx, hleaf⟩ := (Option.any_eq_true _ _).1 hany
  exact ⟨x, hx, beq_iff_eq.1 hleaf⟩

theorem Dor.actOrDefer_running (h : d.runsWith leaf) :
    d.actOrDefer what leaf = { d with deferred := d.deferred ++ [(leaf, what)] } := by
  obtain ⟨x, hx, hleaf⟩ := h
  have hbeq : (x.leaf == leaf) = true := beq_iff_eq.2 hleaf
  exact if_pos ((Option.any_eq_true _ _).2 ⟨x, hx, hbeq⟩)

theorem Dor.actOrDefer_tended : d.Tended leaf.side (d.actOrDefer what leaf) := by
  by_cases h : d.runsWith leaf
  · rw [d.actOrDefer_running what leaf h]
    exact ⟨rfl, fun _ => rfl, fun _ _ => rfl, fun _ _ => rfl, .inl rfl⟩
  · rw [d.actOrDefer_idle what leaf h]
    exact (d.act_acts what).tended

theorem Dor.actOrDefer_stands {k : Leaf} (hk : k ≠ leaf) : d.StandsAt k (d.actOrDefer what leaf) := by
  by_cases h : d.runsWith leaf
  · rw [d.actOrDefer_running what leaf h]
    exact ⟨rfl, rfl, .inl rfl⟩
  · rw [d.actOrDefer_idle what leaf h]
    exact (d.act_acts what).standsAt hk

theorem Dor.act_deferred : (d.act leaf what).deferred = d.deferred := (congrArg Dor.deferred (d.act_acts what).frame :)

end Defer

/-- The doors with an act taken to every leaf of a list. -/
def Dor.actAll (what : DeferredAct) (ls : List Leaf) (d : Dor) : Dor := ls.foldl (Dor.actOrDefer · what ·) d

section All
variable {what : DeferredAct} {ls : List Leaf}

theorem Dor.actAll_cons (leaf : Leaf) (d : Dor) : d.actAll what (leaf :: ls) = (d.actOrDefer what leaf).actAll what ls := rfl

theorem Dor.actAll_tended {side : Side} (hside : ∀ l ∈ ls, l.side = side) (d : Dor) : d.Tended side (d.actAll what ls) := by
  induction ls generalizing d with
  | nil => exact .refl d
  | cons leaf ls ih =>
    have hleaf := d.actOrDefer_tended what leaf
    rw [hside leaf List.mem_cons_self] at hleaf
    exact hleaf.trans (ih (fun l hl => hside l (List.mem_cons_of_mem leaf hl)) _)

theorem Dor.actAll_stands {k : Leaf} (hk : k ∉ ls) (d : Dor) : d.StandsAt k (d.actAll what ls) := by
  induction ls generalizing d with
  | nil => exact .refl d
  | cons leaf ls ih =>
    obtain ⟨hne, hrest⟩ := List.ne_and_not_mem_of_not_mem_cons hk
    exact (d.actOrDefer_stands what leaf hne).trans (ih hrest _)

/-- A leaf whose DOU no exchange runs with is acted on, among acts on other leaves. -/
theorem Dor.actAll_acts {k : Leaf} (hnodup : ls.Nodup) (hk : k ∈ ls) (d : Dor) (hidle : ¬ d.runsWith k) :
    ∃ f, d.StandsAt k f ∧ (f.act k what).StandsAt k (d.actAll what ls) := by
  induction ls generalizing d with
  | nil => exact absurd hk List.not_mem_nil
  | cons leaf ls ih =>
    obtain ⟨hnot, hnodup⟩ := List.nodup_cons.1 hnodup
    rw [Dor.actAll_cons]
    by_cases hleaf : k = leaf
    · subst hleaf
      rw [d.actOrDefer_idle what k hidle]
      exact ⟨d, .refl d, Dor.actAll_stands hnot _⟩
    · have hstill : ¬ (d.actOrDefer what leaf).runsWith k := by
        rw [(d.actOrDefer_tended what leaf).runsWith]
        exact hidle
      obtain ⟨f, hf, hacted⟩ := ih hnodup ((List.mem_cons.1 hk).resolve_left hleaf) _ hstill
      exact ⟨f, (d.actOrDefer_stands what leaf hleaf).trans hf, hacted⟩

/-- A leaf whose DOU an exchange runs with is left alone, among acts on other leaves. -/
theorem Dor.actAll_running {k : Leaf} (d : Dor) (hruns : d.runsWith k) : d.StandsAt k (d.actAll what ls) := by
  induction ls generalizing d with
  | nil => exact .refl d
  | cons leaf ls ih =>
    have hstep : d.StandsAt k (d.actOrDefer what leaf) := by
      by_cases hleaf : k = leaf
      · subst hleaf
        rw [d.actOrDefer_running what k hruns]
        exact ⟨rfl, rfl, .inl rfl⟩
      · exact d.actOrDefer_stands what leaf hleaf
    exact hstep.trans (ih _ (((d.actOrDefer_tended what leaf).runsWith k).2 hruns))

theorem Dor.actAll_deferred_idle (d : Dor) (h : ∀ l ∈ ls, ¬ d.runsWith l) : (d.actAll what ls).deferred = d.deferred := by
  induction ls generalizing d with
  | nil => rfl
  | cons leaf ls ih =>
    have htended := d.actOrDefer_tended what leaf
    rw [Dor.actAll_cons, ih _ fun l hl => mt (htended.runsWith l).1 (h l (List.mem_cons_of_mem leaf hl)),
      d.actOrDefer_idle what leaf (h leaf List.mem_cons_self), Dor.act_deferred]

/-- The one leaf whose DOU the exchange runs with has its act kept. -/
theorem Dor.actAll_deferred {k : Leaf} (hnodup : ls.Nodup) (hk : k ∈ ls) (d : Dor) (hruns : d.runsWith k) :
    (d.actAll what ls).deferred = d.deferred ++ [(k, what)] := by
  have honly (l : Leaf) (hl : d.runsWith l) : l = k := by
    obtain ⟨x, hx, rfl⟩ := hruns
    obtain ⟨y, hy, rfl⟩ := hl
    rw [Option.some_inj.1 (hx.symm.trans hy)]
  induction ls generalizing d with
  | nil => exact absurd hk List.not_mem_nil
  | cons leaf ls ih =>
    obtain ⟨hnot, hnodup⟩ := List.nodup_cons.1 hnodup
    have htended := d.actOrDefer_tended what leaf
    rw [Dor.actAll_cons]
    by_cases hleaf : k = leaf
    · subst hleaf
      have hrest (l : Leaf) (hl : l ∈ ls) : ¬ (d.actOrDefer what k).runsWith l := fun h =>
        hnot (honly l ((htended.runsWith l).1 h) ▸ hl)
      rw [Dor.actAll_deferred_idle _ hrest, d.actOrDefer_running what k hruns]
    · rw [ih hnodup ((List.mem_cons.1 hk).resolve_left hleaf) _ ((htended.runsWith k).2 hruns)
          fun l hl => honly l ((htended.runsWith l).1 hl),
        d.actOrDefer_idle what leaf fun h => hleaf (honly leaf h).symm, Dor.act_deferred]

end All

theorem Side.mem_leaves (side : Side) (l : Leaf) : l ∈ side.leaves ↔ l.side = side := by
  cases side <;> cases l <;> decide

theorem Side.leaves_nodup (side : Side) : side.leaves.Nodup := by cases side <;> decide

end Sys2Proof.Machine
end

section
/-! DOOR RELEASE and DOOR CLOSE (R138 to R140, O39, O40). -/

namespace Sys2Proof.Machine

/-! ## The judgement of doors whose leaves stay as safe -/

section Tend
variable {s : State} (hr : Ready s) {e : Dor} (hsafe : e.allSafe = s.car.dor.allSafe) (hproven : e.proven = s.car.dor.proven)
  (hcondition : e.condition = s.car.dor.condition)
include hr hsafe hproven hcondition

/-- Doors as safe as they were hand the door hold alone. -/
theorem Ready.settle_hold : settle { s.car with dor := e } = brkJudge { s.car with
    dor := e.judge s.car.odo.fused
    brk := { s.car.brk with doorHold := (e.judge s.car.odo.fused).hold } } :=
  congrArg brkJudge (hr.doors.dorJudge_of (d := { s.car with dor := e }) hsafe hproven hcondition rfl rfl rfl rfl)

end Tend

/-! ## A release judged (R138) -/

section Judge
variable {c : Car} {side : Side} {autoOpen noPlatform : Bool}

theorem judgeRelease_moving (h : c.odo.standstill = false) : judgeRelease side autoOpen noPlatform c = (.notStandstill, c) := by
  unfold judgeRelease
  rw [h]
  rfl

section Stands
variable (hstands : c.odo.standstill = true)
include hstands

theorem judgeRelease_unbraked (h : ¬ bothApplied c = true) : judgeRelease side autoOpen noPlatform c = (.brakes, c) := by
  unfold judgeRelease
  rw [hstands, Bool.eq_false_of_not_eq_true h]
  rfl

variable (hbraked : bothApplied c = true)
include hbraked

theorem judgeRelease_unplaced (h : c.odo.position.state ≠ .known) :
    judgeRelease side autoOpen noPlatform c = (.position, c) := by
  unfold judgeRelease
  rw [hstands, hbraked]
  exact if_pos h

variable (hknown : c.odo.position.state = .known)
include hknown

theorem judgeRelease_waived (h : noPlatform = true ∧ c.lif.params.platformOverride = true) :
    judgeRelease side autoOpen noPlatform c = (.accepted, grantRelease side autoOpen true c) := by
  unfold judgeRelease
  rw [hstands, hbraked, hknown, h.1, h.2]
  rfl

variable (hi : Intact c) (hwaived : ¬ (noPlatform = true ∧ c.lif.params.platformOverride = true))
include hi hwaived

theorem judgeRelease_unserved (h : ¬ spansExtent c side = true) :
    judgeRelease side autoOpen noPlatform c = (.platform, c) := by
  unfold judgeRelease
  rw [hstands, hbraked, hknown, Bool.eq_false_of_not_eq_true (mt (Bool.and_eq_true ..).mp hwaived), hi.readForExtent]
  dsimp only
  rw [Bool.eq_false_of_not_eq_true h]
  rfl

theorem judgeRelease_served (h : spansExtent c side = true) (hstop : c.brk.faultStop = false) :
    judgeRelease side autoOpen noPlatform c = (.accepted, grantRelease side autoOpen false c) := by
  unfold judgeRelease
  rw [hstands, hbraked, hknown, Bool.eq_false_of_not_eq_true (mt (Bool.and_eq_true ..).mp hwaived), hi.readForExtent]
  dsimp only
  rw [h, hstop]
  rfl

end Stands

end Judge

section Telegram
variable {via : Via} {side : Nat} {autoOpen noPlatform : Bool} {s : State} (hr : Ready s)
  (hreach : Reaches via (.doorRelease side autoOpen noPlatform) s.car)
include hr hreach

theorem exec_doorRelease_range (h : Side.ofCode side = none) :
    exec (.doorRelease via side autoOpen noPlatform) s = .next ⟨replied via 8 .range [.none] s.car, s.pending⟩ := by
  refine exec_eq_replied_quiet rfl hr hreach (by simp [telegramKind]) hr.unreserved rfl rfl rfl rfl fun n => ?_
  show reply via 8 (doorRelease via.addressing side autoOpen noPlatform (s.car.reserving n)) = _
  rw [doorRelease, h]
  rfl

variable {x : Side} (hx : Side.ofCode side = some x)
include hx

/-- A release refused places its result, and makes DOOR_RELEASE_REFUSED occur unless it was addressed to the car. -/
theorem exec_doorRelease_refused {result : Result} {code : Nat} (hcode : refusalCode result = some code)
    (h : ∀ n, judgeRelease x autoOpen noPlatform (s.car.reserving n) = (result, s.car.reserving n)) :
    exec (.doorRelease via side autoOpen noPlatform) s = .next ⟨replied via 8 result [.none]
      (if via.addressing = .car then s.car else occur .doorReleaseRefused (256 * x.number + code) s.car), s.pending⟩ := by
  have hblock (n : Nat) : doorRelease via.addressing side autoOpen noPlatform (s.car.reserving n) =
      (result, handRefusal via.addressing x result (s.car.reserving n)) := by
    rw [doorRelease, hx]
    dsimp only
    rw [h n]
  by_cases ha : via.addressing = .car
  · rw [if_pos ha]
    refine exec_eq_replied_quiet rfl hr hreach (by simp [telegramKind]) hr.unreserved rfl rfl rfl rfl fun n => ?_
    show reply via 8 (doorRelease via.addressing side autoOpen noPlatform (s.car.reserving n)) = _
    rw [hblock, ha]
    rfl
  · rw [if_neg ha]
    refine exec_eq_replied_quiet rfl hr hreach (by simp [telegramKind]) hr.unreserved rfl rfl rfl rfl fun n => ?_
    have hrefused : handRefusal via.addressing x result (s.car.reserving n) =
        occur .doorReleaseRefused (x.number * 256 + code) (s.car.reserving n) := by
      unfold handRefusal
      rw [hcode]
      cases hva : via.addressing with
      | car => exact absurd hva ha
      | _ => rfl
    have hoccur : occur .doorReleaseRefused (256 * x.number + code) (s.car.reserving n) =
        (occur .doorReleaseRefused (256 * x.number + code) s.car).reserving n :=
      occur_withLif (c := s.car) (l := { s.car.lif with reservedReplies := n }) ⟨rfl, rfl⟩ _ _
    show reply via 8 (doorRelease via.addressing side autoOpen noPlatform (s.car.reserving n)) = _
    rw [hblock, hrefused, Nat.mul_comm, hoccur]
    rfl

theorem exec_doorRelease_granted {waived : Bool}
    (h : ∀ n, judgeRelease x autoOpen noPlatform (s.car.reserving n) =
      (.accepted, grantRelease x autoOpen waived (s.car.reserving n))) :
    exec (.doorRelease via side autoOpen noPlatform) s = .next ⟨replied via 8 .accepted [.none]
      (settle (grantRelease x autoOpen waived s.car)), s.pending⟩ := by
  refine exec_eq_replied_settle rfl hr hreach (by simp [telegramKind]) hr.unreserved fun n => ?_
  have hblock : doorRelease via.addressing side autoOpen noPlatform (s.car.reserving n) =
      (.accepted, (grantRelease x autoOpen waived s.car).reserving n) := by
    rw [doorRelease, hx]
    dsimp only
    rw [h n]
    cases via.addressing <;> rfl
  show reply via 8 (doorRelease via.addressing side autoOpen noPlatform (s.car.reserving n)) = _
  rw [hblock]
  rfl

end Telegram

/-! ## A release granted (R139) -/

theorem Dor.running_of_idle {d : Dor} {leaf : Leaf} (h : ¬ d.runsWith leaf) (f : DoorCommand → Bool) : d.running leaf f = false := by
  unfold Dor.running
  split
  · next x hx =>
    rw [beq_eq_false_iff_ne.2 fun hleaf => h ⟨x, hx, hleaf⟩]
    rfl
  · rfl

theorem Dor.releaseLeaf_sides (d : Dor) (leaf : Leaf) : (d.releaseLeaf leaf).sides = d.sides := by
  have hplace (d : Dor) (cmd : DoorCommand) : (d.place leaf cmd).sides = d.sides := by rw [Dor.place_frame]
  unfold Dor.releaseLeaf
  dsimp only
  split
  · exact hplace ..
  · split
    · exact hplace ..
    · rfl
  iterate 2 exact hplace ..
  iterate 2
    split
    · rfl
    · rfl
  rfl

theorem Dor.releaseAll_sides (ls : List Leaf) (d : Dor) : (d.actAll .release ls).sides = d.sides := by
  induction ls generalizing d with
  | nil => rfl
  | cons leaf ls ih =>
    rw [Dor.actAll_cons, ih]
    by_cases h : d.runsWith leaf
    · rw [d.actOrDefer_running _ _ h]
    · rw [d.actOrDefer_idle _ _ h]
      exact d.releaseLeaf_sides leaf

/-- The doors with a side's release granted, before its leaves are acted on. -/
def Dor.granting (d : Dor) (side : Side) (stamp : Stamp) (autoOpen waived : Bool) : Dor :=
  { d with
    sides := d.sides.set side { release := some stamp, autoOpen := autoOpen, overrideUsed := waived, step := .none, warning := none } }

section Granted
variable (d : Dor) (x : Side) (stamp : Stamp) (autoOpen waived : Bool)

theorem Dor.granting_side : (d.granting x stamp autoOpen waived).sides.get x = ⟨some stamp, autoOpen, waived, .none, none⟩ := by
  cases x <;> rfl

theorem Dor.granting_other {y : Side} (h : y ≠ x) : (d.granting x stamp autoOpen waived).sides.get y = d.sides.get y := by
  cases x <;> cases y <;> simp [Dor.granting, PerSide.get, PerSide.set] at h ⊢

theorem grantRelease_eq (c : Car) : grantRelease x autoOpen waived c =
    { c with dor := (c.dor.granting x c.now autoOpen waived).actAll .release x.leaves } := rfl

/-- The doors with a side's release granted. -/
def Dor.grantedAll : Dor := (d.granting x stamp autoOpen waived).actAll .release x.leaves

theorem Dor.grantedAll_tended : (d.granting x stamp autoOpen waived).Tended x (d.grantedAll x stamp autoOpen waived) :=
  Dor.actAll_tended (fun l hl => (Side.mem_leaves x l).1 hl) _

theorem Dor.grantedAll_sides : (d.grantedAll x stamp autoOpen waived).sides = (d.granting x stamp autoOpen waived).sides :=
  Dor.releaseAll_sides ..

theorem Dor.grantedAll_granted : (d.grantedAll x stamp autoOpen waived).anyGranted = true := by
  rw [Dor.anyGranted, Dor.grantedAll_sides]
  cases x
  · rfl
  · exact Bool.or_true _

theorem Dor.grantedAll_passed : (d.grantedAll x stamp autoOpen waived).passed x = ⟨some stamp, autoOpen, waived, .none, none⟩ := by
  rw [Dor.passed, Dor.grantedAll_sides, Dor.granting_side]
  exact if_neg fun h => absurd h.1 nofun

theorem Dor.grantedAll_passed_other {y : Side} (h : y ≠ x) : (d.grantedAll x stamp autoOpen waived).passed y = d.passed y := by
  have htended := d.grantedAll_tended x stamp autoOpen waived
  refine Dor.passed_congr htended.exchange ?_ (fun l hl => htended.leaves l (hl ▸ h)) fun l hl => htended.slots l (hl ▸ h)
  rw [Dor.grantedAll_sides, Dor.granting_other _ _ _ _ _ h]

theorem Dor.grantedAll_released {leaf : Leaf} (hside : leaf.side = x) (hidle : ¬ d.runsWith leaf) (fused : Nat) :
    Released autoOpen d ((d.grantedAll x stamp autoOpen waived).judge fused) leaf := by
  have htended := d.grantedAll_tended x stamp autoOpen waived
  obtain ⟨f, hf, hacted⟩ := Dor.actAll_acts (what := .release) (Side.leaves_nodup x) ((Side.mem_leaves x leaf).2 hside)
    (d.granting x stamp autoOpen waived) hidle
  have hauto : (f.sides.get leaf.side).autoOpen = autoOpen := by
    have hgranting := d.granting_side x stamp autoOpen waived
    rw [← hside] at hgranting
    have hstands := hf.side
    rw [hside] at hgranting
    rw [hside, hgranting] at hstands
    rw [hside]
    rcases hstands with hs | hs <;> rw [hs]
  exact Dor.released (d := d.granting x stamp autoOpen waived) (g := d.grantedAll x stamp autoOpen waived)
    (Dor.running_of_idle (mt (htended.runsWith leaf).1 hidle)) hf hacted hauto

end Granted

/-- Settles O39: the interlocks in their order, and what the grant makes of each leaf. -/
theorem releaseIsGrantedOnlySafely : Obligations.ReleaseIsGrantedOnlySafely := by
  intro via side autoOpen noPlatform s hr hintact hreach i low high waived spans applied refused
  refine ⟨fun h1 h2 => exec_doorRelease_range hr hreach ?range, fun x hx => ⟨fun hmoving => ?moving,
    fun hstands hbraked => ?brakes, fun hstands hbraked hplace => ?position,
    fun hstands hbraked hknown hwaived hspans => ?platform, fun hstands hbraked hknown hserved => ?granted⟩⟩
  case range =>
    unfold Side.ofCode
    split
    · exact absurd rfl h1
    · exact absurd rfl h2
    · rfl
  case moving => exact exec_doorRelease_refused hr hreach hx rfl fun _ => judgeRelease_moving hmoving
  case brakes =>
    exact exec_doorRelease_refused hr hreach hx rfl fun _ => judgeRelease_unbraked hstands (mt (bothApplied_iff s.car).1 hbraked)
  case position =>
    exact exec_doorRelease_refused hr hreach hx rfl fun _ =>
      judgeRelease_unplaced hstands ((bothApplied_iff s.car).2 hbraked) hplace
  case platform =>
    exact exec_doorRelease_refused hr hreach hx rfl fun n => judgeRelease_unserved hstands ((bothApplied_iff s.car).2 hbraked)
      hknown (c := s.car.reserving n) hintact hwaived (mt (hintact.spansExtent_iff hknown x).1 hspans)
  case granted =>
    have hbrakes := (bothApplied_iff s.car).2 hbraked
    obtain ⟨w, hw, hexec⟩ : ∃ w, (w = true ↔ waived) ∧ exec i s = .next ⟨replied via 8 .accepted [.none]
        (settle (grantRelease x autoOpen w s.car)), s.pending⟩ := by
      by_cases h : waived
      · exact ⟨true, ⟨fun _ => h, fun _ => rfl⟩, exec_doorRelease_granted hr hreach hx fun _ =>
          judgeRelease_waived hstands hbrakes hknown h⟩
      · exact ⟨false, ⟨nofun, fun hno => absurd hno h⟩, exec_doorRelease_granted hr hreach hx fun n =>
          judgeRelease_served hstands hbrakes hknown (c := s.car.reserving n) hintact h
            ((hintact.spansExtent_iff hknown x).2 (hserved.resolve_left h)) hreach.2.1⟩
    have htended := s.car.dor.grantedAll_tended x s.car.now autoOpen w
    have hsettle := hr.settle_hold (e := s.car.dor.grantedAll x s.car.now autoOpen w) htended.allSafe
      (congrArg Dor.proven htended.frame :) (congrArg Dor.condition htended.frame :)
    have hlif := settle_lif (grantRelease x autoOpen w s.car)
    have hcar : settle (grantRelease x autoOpen w s.car) = _ := hsettle
    have hdor : (settle (grantRelease x autoOpen w s.car)).dor =
        (s.car.dor.grantedAll x s.car.now autoOpen w).judge s.car.odo.fused := (congrArg Car.dor hcar :)
    have hpassed := s.car.dor.grantedAll_passed x s.car.now autoOpen w
    have hhold : ((s.car.dor.grantedAll x s.car.now autoOpen w).judge s.car.odo.fused).hold = true := by
      show ((s.car.dor.grantedAll x s.car.now autoOpen w).anyGranted || _) = true
      rw [Dor.grantedAll_granted]
      rfl
    have hrest := (congrArg (·.brk.causes) hcar :)
    refine ⟨_, hexec, rfl, ?_, ?_, fun y hy => ?_, ?_, (congrArg (·.brk.doorHold) hcar :).trans hhold, fun leaf hleaf => ?_,
      fun leaf _ => ?_, fun leaf hleaf hidle => ?_, fun leaf hleaf hruns => ?_, fun hidle => ?_, ?_, ?frames,
      (congrArg Car.odo hcar :), (congrArg Car.tlf hcar :), (congrArg Car.pst hcar :), hrest, (congrArg Car.evr hcar :)⟩
    case frames =>
      refine (Lif.answered_frames ..).trans ?_
      rw [hlif]
      rfl
    all_goals
      dsimp only [replied]
      rw [hdor]
    · rw [Dor.judge_side, hpassed]
    · rw [Dor.judge_side, hpassed]
      exact hw
    · rw [Dor.judge_side, Dor.grantedAll_passed_other _ _ _ _ _ hy, hr.passed]
    · exact hhold
    · exact htended.leaves leaf hleaf
    · exact htended.state leaf
    · exact Dor.grantedAll_released _ _ _ _ _ hleaf hidle _
    · have hstands' := Dor.actAll_running (what := .release) (ls := x.leaves)
        (s.car.dor.granting x s.car.now autoOpen w) (k := leaf) hruns
      exact ⟨hstands'.record, hstands'.slot, Dor.actAll_deferred (Side.leaves_nodup x) ((Side.mem_leaves x leaf).2 hleaf) _ hruns⟩
    · exact Dor.actAll_deferred_idle _ fun l hl => hidle l ((Side.mem_leaves x l).1 hl)
    · exact htended.exchange

end Sys2Proof.Machine
end

section
/-! DOOR CLOSE (R140, O40). -/

namespace Sys2Proof.Machine

/-! ## What a close leaves in the slots and the sides -/

theorem Dor.mem_place {d : Dor} {leaf : Leaf} {cmd : DoorCommand} {p : Leaf × DoorCommand} (h : p ∈ (d.place leaf cmd).slots) :
    p ∈ d.slots ∨ p = (leaf, cmd) := by
  unfold Dor.place at h
  split at h
  · exact .inl h
  · split at h
    · obtain ⟨q, hq, rfl⟩ := List.mem_map.1 h
      split
      · exact .inr rfl
      · exact .inl hq
    · exact (List.mem_append.1 h).imp_right List.mem_singleton.1

section Close
variable {again : Bool} {leaf : Leaf}

theorem Dor.mem_closeLeaf {d : Dor} {p : Leaf × DoorCommand} (h : p ∈ (d.closeLeaf again leaf).slots) :
    p ∈ d.slots ∨ (p.1 = leaf ∧ p.2.opens = false) := by
  have hplace (d : Dor) (cmd : DoorCommand) (hcmd : cmd.opens = false) (h : p ∈ (d.place leaf cmd).slots) :
      p ∈ d.slots ∨ (p.1 = leaf ∧ p.2.opens = false) :=
    (Dor.mem_place h).imp_right fun hp => by rw [hp]; exact ⟨rfl, hcmd⟩
  unfold Dor.closeLeaf at h
  dsimp only at h
  split at h
  · exact hplace _ _ rfl h
  iterate 2
    split at h
    · exact .inl h
    · exact hplace (d.modify leaf fun r => { r with obstructed := false, obstacles := 0, closeDue := true }) .chime rfl h
  all_goals exact .inl h

theorem Dor.closeLeaf_sides {d : Dor} (hopened : (d.leaves.get leaf).state ≠ .opened)
    (hopening : (d.leaves.get leaf).state ≠ .opening) : (d.closeLeaf again leaf).sides = d.sides := by
  unfold Dor.closeLeaf
  dsimp only
  split
  · rw [Dor.place_frame]
  · next hs => exact absurd hs hopened
  · next hs => exact absurd hs hopening
  all_goals rfl

variable {ls : List Leaf}

theorem Dor.mem_closeAll {d : Dor} {p : Leaf × DoorCommand} (h : p ∈ (d.actAll (.close again) ls).slots) :
    p ∈ d.slots ∨ (p.1 ∈ ls ∧ p.2.opens = false) := by
  induction ls generalizing d with
  | nil => exact .inl h
  | cons leaf ls ih =>
    rw [Dor.actAll_cons] at h
    rcases ih h with hp | ⟨hp, hcmd⟩
    · by_cases hruns : d.runsWith leaf
      · rw [d.actOrDefer_running _ _ hruns] at hp
        exact .inl hp
      · rw [d.actOrDefer_idle _ _ hruns] at hp
        rcases Dor.mem_closeLeaf hp with hq | ⟨hq, hcmd⟩
        · exact .inl hq
        · exact .inr ⟨hq ▸ List.mem_cons_self, hcmd⟩
    · exact .inr ⟨List.mem_cons_of_mem leaf hp, hcmd⟩

/-- Leaves that are not open leave the close step of their side as it is. -/
theorem Dor.closeAll_sides (d : Dor) (h : ∀ l ∈ ls, ¬ d.runsWith l → (d.leaves.get l).state ≠ .opened ∧
      (d.leaves.get l).state ≠ .opening) : (d.actAll (.close again) ls).sides = d.sides := by
  induction ls generalizing d with
  | nil => rfl
  | cons leaf ls ih =>
    have htended := d.actOrDefer_tended (.close again) leaf
    rw [Dor.actAll_cons, ih]
    · by_cases hruns : d.runsWith leaf
      · rw [d.actOrDefer_running _ _ hruns]
      · rw [d.actOrDefer_idle _ _ hruns]
        obtain ⟨hopened, hopening⟩ := h leaf List.mem_cons_self hruns
        exact Dor.closeLeaf_sides hopened hopening
    · intro l hl hidle
      rw [htended.state]
      exact h l (List.mem_cons_of_mem leaf hl) (mt (htended.runsWith l).2 hidle)

end Close

/-! ## A release withdrawn (R140) -/

section Withdraw
variable (d : Dor) (side : Side)

/-- What is kept for the end of the exchange once a side's release is withdrawn. -/
def Dor.keptWithout : List (Leaf × DeferredAct) := d.deferred.filter fun x => !(x.1.side == side && x.2 == DeferredAct.release)

theorem Dor.withdraw_eq : d.withdraw side =
    { d with
      sides := d.sides.set side { d.sides.get side with release := none }
      deferred := d.keptWithout side
      slots := d.slots.filter fun s => !(s.1.side == side && s.2.opens) } := rfl

theorem Dor.withdraw_side : (d.withdraw side).sides.get side = { d.sides.get side with release := none } := by
  cases side <;> rfl

theorem Dor.withdraw_other {x : Side} (h : x ≠ side) : (d.withdraw side).sides.get x = d.sides.get x := by
  rw [Dor.withdraw_eq]
  cases side <;> cases x <;> simp [PerSide.get, PerSide.set] at h ⊢

theorem Dor.withdraw_slot_other {l : Leaf} (h : l.side ≠ side) : (d.withdraw side).slot l = d.slot l := by
  have hunplace := Dor.unplace_slot_ne d (f := fun l c => l.side == side && c.opens) l fun cmd => by
    rw [beq_eq_false_iff_ne.2 h]
    rfl
  exact hunplace

/-- A command that does not open stays in its slot. -/
theorem Dor.withdraw_slot {l : Leaf} (h : ∀ cmd, d.slot l = some cmd → cmd.opens = false) :
    (d.withdraw side).slot l = d.slot l := by
  rw [Dor.withdraw_eq]
  unfold Dor.slot at h ⊢
  dsimp only
  generalize d.slots = slots at h ⊢
  induction slots with
  | nil => rfl
  | cons p ps ih =>
    by_cases hp : p.1 = l
    · have hfound (ps : List (Leaf × DoorCommand)) : (p :: ps).find? (fun s => s.1 == l) = some p :=
        List.find?_cons_of_pos (beq_iff_eq.2 hp)
      rw [hfound] at h ⊢
      have hopens := h p.2 rfl
      rw [List.filter_cons_of_pos (by rw [hopens, Bool.and_false]; rfl), hfound]
    · have hpassed (ps : List (Leaf × DoorCommand)) : (p :: ps).find? (fun s => s.1 == l) = ps.find? fun s => s.1 == l :=
        List.find?_cons_of_neg fun hb => hp (beq_iff_eq.1 hb)
      rw [hpassed] at h ⊢
      rw [List.filter_cons]
      split
      · rw [hpassed]
        exact ih h
      · exact ih h

theorem Dor.mem_withdraw {p : Leaf × DoorCommand} (h : p ∈ (d.withdraw side).slots) :
    p ∈ d.slots ∧ (p.1.side = side → p.2.opens = false) := by
  have hkeeps : (!(p.1.side == side && p.2.opens)) = true := (List.mem_filter.1 h).2
  refine ⟨(List.mem_filter.1 h).1, fun hside => ?_⟩
  rw [beq_iff_eq.2 hside, Bool.true_and, Bool.not_eq_true'] at hkeeps
  exact hkeeps

end Withdraw

/-! ## One side closed -/

/-- The doors standing as they stood on one side. -/
structure Dor.SideSame (side : Side) (d e : Dor) : Prop where
  exchange : e.exchange = d.exchange
  leaves : ∀ l : Leaf, l.side = side → e.leaves.get l = d.leaves.get l
  slots : ∀ l : Leaf, l.side = side → e.slot l = d.slot l
  sides : e.sides.get side = d.sides.get side
  placed : ∀ p ∈ e.slots, p.1.side = side → p ∈ d.slots

/-- Whether a DOOR CLOSE finds a side's close step CHIMING or WARNING (R140). -/
def Dor.again (d : Dor) (side : Side) : Bool := (d.sides.get side).step != .none

/-- The doors with one side closed, before they are judged. -/
structure Dor.SideClosed (side : Side) (d e : Dor) : Prop where
  exchange : e.exchange = d.exchange
  release : (e.sides.get side).release = none
  autoOpen : (e.sides.get side).autoOpen = (d.sides.get side).autoOpen
  placed : ∀ p ∈ e.slots, p.1.side = side → p.2.opens = false
  acted : ∀ l : Leaf, l.side = side → ¬ d.runsWith l → ∃ f : Dor, f.leaves.get l = d.leaves.get l ∧
    ((∀ cmd, d.slot l = some cmd → cmd.opens = false) → f.slot l = d.slot l) ∧
    (f.closeLeaf (d.again side) l).StandsAt l e
  running : ∀ l : Leaf, l.side = side → d.runsWith l → e.leaves.get l = d.leaves.get l ∧
    ((∀ cmd, d.slot l = some cmd → cmd.opens = false) → e.slot l = d.slot l)
  returned : (d.sides.get side).step ≠ .none →
    e.sides.get side = { d.sides.get side with release := none, step := .chiming, warning := none }
  still : (d.sides.get side).step = .none → (∀ l : Leaf, l.side = side → ¬ d.runsWith l →
    (d.leaves.get l).state ≠ .opened ∧ (d.leaves.get l).state ≠ .opening) →
    e.sides.get side = { d.sides.get side with release := none }

theorem Dor.runsWith_congr {d e : Dor} (h : e.exchange = d.exchange) (l : Leaf) : e.runsWith l ↔ d.runsWith l := by
  rw [Dor.runsWith, Dor.runsWith, h]

section Transfer
variable {side : Side} {c d e : Dor}

theorem Dor.SideClosed.later (h : c.SideClosed side d) (k : d.SideSame side e) : c.SideClosed side e where
  exchange := k.exchange.trans h.exchange
  release := by rw [k.sides, h.release]
  autoOpen := by rw [k.sides, h.autoOpen]
  placed p hp hside := h.placed p (k.placed p hp hside) hside
  acted l hl hidle := by
    obtain ⟨f, hrecord, hslot, hacted⟩ := h.acted l hl hidle
    exact ⟨f, hrecord, hslot, hacted.trans ⟨k.leaves l hl, k.slots l hl, .inl (by rw [hl, k.sides])⟩⟩
  running l hl hruns := by
    obtain ⟨hrecord, hslot⟩ := h.running l hl hruns
    exact ⟨(k.leaves l hl).trans hrecord, fun hcmd => (k.slots l hl).trans (hslot hcmd)⟩
  returned hstep := by rw [k.sides, h.returned hstep]
  still hstep hleaves := by rw [k.sides, h.still hstep hleaves]

theorem Dor.SideClosed.earlier (h : c.SideSame side d) (k : d.SideClosed side e) : c.SideClosed side e where
  exchange := k.exchange.trans h.exchange
  release := k.release
  autoOpen := by rw [k.autoOpen, h.sides]
  placed := k.placed
  acted l hl hidle := by
    obtain ⟨f, hrecord, hslot, hacted⟩ := k.acted l hl (mt (Dor.runsWith_congr h.exchange l).1 hidle)
    rw [h.leaves l hl] at hrecord
    rw [h.slots l hl] at hslot
    rw [Dor.again, h.sides] at hacted
    exact ⟨f, hrecord, hslot, hacted⟩
  running l hl hruns := by
    obtain ⟨hrecord, hslot⟩ := k.running l hl ((Dor.runsWith_congr h.exchange l).2 hruns)
    rw [h.leaves l hl] at hrecord
    rw [h.slots l hl] at hslot
    exact ⟨hrecord, hslot⟩
  returned hstep := by rw [← h.sides] at hstep ⊢; exact k.returned hstep
  still hstep hleaves := by
    rw [← h.sides] at hstep ⊢
    refine k.still hstep fun l hl hidle => ?_
    rw [h.leaves l hl]
    exact hleaves l hl (mt (Dor.runsWith_congr h.exchange l).2 hidle)

theorem Dor.SideSame.refl (d : Dor) : d.SideSame side d :=
  ⟨rfl, fun _ _ => rfl, fun _ _ => rfl, rfl, fun _ hp _ => hp⟩

theorem Dor.SideSame.trans (h : c.SideSame side d) (k : d.SideSame side e) : c.SideSame side e :=
  ⟨k.exchange.trans h.exchange, fun l hl => (k.leaves l hl).trans (h.leaves l hl), fun l hl => (k.slots l hl).trans (h.slots l hl),
    k.sides.trans h.sides, fun p hp hside => h.placed p (k.placed p hp hside) hside⟩

end Transfer

section CloseSide
variable (d : Dor) (side : Side)

theorem Dor.closeSide_eq : d.closeSide side =
    if d.again side = true then ((d.withdraw side).actAll (.close (d.again side)) side.leaves).chiming side
    else (d.withdraw side).actAll (.close (d.again side)) side.leaves := rfl

theorem Dor.closeSide_tended : (d.withdraw side).Tended side (d.closeSide side) := by
  have hall : (d.withdraw side).Tended side ((d.withdraw side).actAll (.close (d.again side)) side.leaves) :=
    Dor.actAll_tended (fun l hl => (Side.mem_leaves side l).1 hl) _
  rw [d.closeSide_eq]
  split
  · exact hall.trans ⟨rfl, fun _ => rfl, fun _ _ => rfl, fun _ _ => rfl, .inr rfl⟩
  · exact hall

theorem Dor.closeSide_slots : (d.closeSide side).slots = ((d.withdraw side).actAll (.close (d.again side)) side.leaves).slots := by
  rw [d.closeSide_eq]
  split <;> rfl

theorem Dor.closeSide_same {x : Side} (hx : x ≠ side) : d.SideSame x (d.closeSide side) := by
  have htended := d.closeSide_tended side
  refine ⟨htended.exchange, fun l hl => htended.leaves l (hl ▸ hx), fun l hl => ?_, ?_, fun p hp hside => ?_⟩
  · rw [htended.slots l (hl ▸ hx), d.withdraw_slot_other side (hl ▸ hx)]
  · rw [htended.otherSide hx, d.withdraw_other side hx]
  · rw [d.closeSide_slots] at hp
    rcases Dor.mem_closeAll hp with hp | ⟨hp, -⟩
    · exact (d.mem_withdraw side hp).1
    · exact absurd (hside.symm.trans ((Side.mem_leaves side p.1).1 hp)) hx

/-- A leaf of the side stands after the close of the side as it stands when its leaves have been acted on. -/
theorem Dor.closeSide_stands {l : Leaf} (hl : l.side = side) :
    ((d.withdraw side).actAll (.close (d.again side)) side.leaves).StandsAt l (d.closeSide side) := by
  rw [d.closeSide_eq]
  split
  · exact ⟨rfl, rfl, .inr (by rw [hl]; exact Dor.chiming_side ..)⟩
  · exact .refl _

theorem Dor.closeSide_closed : d.SideClosed side (d.closeSide side) := by
  have htended := d.closeSide_tended side
  have hside := htended.ownSide
  rw [d.withdraw_side] at hside
  refine ⟨htended.exchange, ?_, ?_, fun p hp hps => ?_, fun l hl hidle => ?_, fun l hl hruns => ?_, fun hstep => ?_,
    fun hstep hleaves => ?_⟩
  · rcases hside with hs | hs <;> rw [hs]
  · rcases hside with hs | hs <;> rw [hs]
  · rw [d.closeSide_slots] at hp
    rcases Dor.mem_closeAll hp with hp | ⟨-, hcmd⟩
    · exact (d.mem_withdraw side hp).2 hps
    · exact hcmd
  · obtain ⟨f, hf, hacted⟩ := Dor.actAll_acts (what := .close (d.again side)) (Side.leaves_nodup side)
      ((Side.mem_leaves side l).2 hl) (d.withdraw side) hidle
    exact ⟨f, hf.record, fun hcmd => hf.slot.trans (d.withdraw_slot side hcmd), hacted.trans (d.closeSide_stands side hl)⟩
  · have hstands := (Dor.actAll_running (what := .close (d.again side)) (ls := side.leaves) (d.withdraw side) hruns).trans
      (d.closeSide_stands side hl)
    exact ⟨hstands.record, fun hcmd => hstands.slot.trans (d.withdraw_slot side hcmd)⟩
  · have hagain : d.again side = true := bne_iff_ne.2 hstep
    have hall := (Dor.actAll_tended (what := .close (d.again side)) (fun l hl => (Side.mem_leaves side l).1 hl)
      (d.withdraw side)).ownSide
    rw [d.closeSide_eq, if_pos hagain, Dor.chiming_side]
    rw [d.withdraw_side] at hall
    rcases hall with hs | hs <;> rw [hs]
  · have hagain : ¬ d.again side = true := fun h => bne_iff_ne.1 h hstep
    rw [d.closeSide_eq, if_neg hagain, Dor.closeAll_sides (d.withdraw side) fun l hl => hleaves l ((Side.mem_leaves side l).1 hl),
      d.withdraw_side]

theorem Dor.closeSide_deferred_idle (h : ∀ l : Leaf, l.side = side → ¬ d.runsWith l) :
    (d.closeSide side).deferred = d.keptWithout side := by
  have hall : ((d.withdraw side).actAll (.close (d.again side)) side.leaves).deferred = d.keptWithout side :=
    Dor.actAll_deferred_idle (d.withdraw side) fun l hl => h l ((Side.mem_leaves side l).1 hl)
  rw [d.closeSide_eq]
  split <;> exact hall

theorem Dor.closeSide_deferred {l : Leaf} (hl : l.side = side) (hruns : d.runsWith l) :
    (d.closeSide side).deferred = d.keptWithout side ++ [(l, .close (d.again side))] := by
  have hall : ((d.withdraw side).actAll (.close (d.again side)) side.leaves).deferred =
      d.keptWithout side ++ [(l, .close (d.again side))] :=
    Dor.actAll_deferred (Side.leaves_nodup side) ((Side.mem_leaves side l).2 hl) (d.withdraw side) hruns
  rw [d.closeSide_eq]
  split <;> exact hall

end CloseSide

/-! ## The named sides closed -/

/-- The doors with the named sides closed, before they are judged. -/
def Dor.closeSides (sides : List Side) (d : Dor) : Dor := sides.foldl Dor.closeSide d

/-- What is kept for the end of the exchange once the releases of the named sides are withdrawn. -/
def Dor.keptWithoutAll (sides : List Side) (d : Dor) : List (Leaf × DeferredAct) :=
  d.deferred.filter fun a => !(decide (a.2 = .release) && decide (a.1.side ∈ sides))

section Sides
variable {sides : List Side}

theorem Dor.closeSides_same {x : Side} (hx : x ∉ sides) (d : Dor) : d.SideSame x (d.closeSides sides) := by
  induction sides generalizing d with
  | nil => exact .refl d
  | cons y ys ih =>
    obtain ⟨hne, hrest⟩ := List.ne_and_not_mem_of_not_mem_cons hx
    exact (d.closeSide_same y hne).trans (ih hrest _)

theorem Dor.closeSides_closed {x : Side} (hnodup : sides.Nodup) (hx : x ∈ sides) (d : Dor) :
    d.SideClosed x (d.closeSides sides) := by
  induction sides generalizing d with
  | nil => exact absurd hx List.not_mem_nil
  | cons y ys ih =>
    obtain ⟨hnot, hnodup⟩ := List.nodup_cons.1 hnodup
    by_cases hxy : x = y
    · subst hxy
      exact (d.closeSide_closed x).later (Dor.closeSides_same hnot _)
    · exact .earlier (d.closeSide_same y hxy) (ih hnodup ((List.mem_cons.1 hx).resolve_left hxy) _)

/-- What the doors keep whatever sides are closed. -/
theorem Dor.closeSides_rest (d : Dor) : (d.closeSides sides).allSafe = d.allSafe ∧ (d.closeSides sides).proven = d.proven ∧
    (d.closeSides sides).condition = d.condition ∧ (d.closeSides sides).exchange = d.exchange := by
  induction sides generalizing d with
  | nil => exact ⟨rfl, rfl, rfl, rfl⟩
  | cons y ys ih =>
    have htended := d.closeSide_tended y
    obtain ⟨hsafe, hproven, hcondition, hexchange⟩ := ih (d.closeSide y)
    exact ⟨hsafe.trans htended.allSafe, hproven.trans (congrArg Dor.proven htended.frame :),
      hcondition.trans (congrArg Dor.condition htended.frame :), hexchange.trans htended.exchange⟩

theorem Dor.keptWithoutAll_cons {y : Side} {d e : Dor} {last : List (Leaf × DeferredAct)}
    (hkept : e.deferred = d.keptWithout y ++ last) (hlast : ∀ a ∈ last, a.2 ≠ .release) :
    e.keptWithoutAll sides = d.keptWithoutAll (y :: sides) ++ last := by
  have hkeep : last.filter (fun a => !(decide (a.2 = .release) && decide (a.1.side ∈ sides))) = last :=
    List.filter_eq_self.2 fun a ha => by rw [decide_eq_false (hlast a ha)]; rfl
  unfold Dor.keptWithoutAll
  rw [hkept, List.filter_append, hkeep, Dor.keptWithout, List.filter_filter]
  congr 1
  refine List.filter_congr fun a _ => ?_
  by_cases hact : a.2 = .release <;> by_cases hside : a.1.side = y <;> by_cases hmem : a.1.side ∈ sides <;>
    simp [hact, hside, hmem]

theorem Dor.closeSides_deferred_idle (d : Dor) (h : ∀ l : Leaf, l.side ∈ sides → ¬ d.runsWith l) :
    (d.closeSides sides).deferred = d.keptWithoutAll sides := by
  induction sides generalizing d with
  | nil => simp [Dor.closeSides, Dor.keptWithoutAll]
  | cons y ys ih =>
    have hkept := d.closeSide_deferred_idle y fun l hl => h l (hl ▸ List.mem_cons_self)
    have hrest := ih (d.closeSide y) fun l hl =>
      mt (Dor.runsWith_congr (d.closeSide_tended y).exchange l).1 (h l (List.mem_cons_of_mem y hl))
    refine hrest.trans ?_
    rw [Dor.keptWithoutAll_cons (last := []) (hkept.trans (List.append_nil _).symm) nofun, List.append_nil]

theorem Dor.closeSides_deferred {l : Leaf} (hnodup : sides.Nodup) (hl : l.side ∈ sides) (d : Dor) (hruns : d.runsWith l) :
    (d.closeSides sides).deferred = d.keptWithoutAll sides ++ [(l, .close (d.again l.side))] := by
  have honly (k : Leaf) (hk : d.runsWith k) : k = l := by
    obtain ⟨x, hx, rfl⟩ := hruns
    obtain ⟨y, hy, rfl⟩ := hk
    rw [Option.some_inj.1 (hx.symm.trans hy)]
  induction sides generalizing d with
  | nil => exact absurd hl List.not_mem_nil
  | cons y ys ih =>
    obtain ⟨hnot, hnodup⟩ := List.nodup_cons.1 hnodup
    have hsame := Dor.runsWith_congr (d.closeSide_tended y).exchange
    by_cases hside : l.side = y
    · have hidle (k : Leaf) (hk : k.side ∈ ys) : ¬ (d.closeSide y).runsWith k := fun h => by
        rw [honly k ((hsame k).1 h), hside] at hk
        exact hnot hk
      refine (Dor.closeSides_deferred_idle (d.closeSide y) hidle).trans ?_
      rw [Dor.keptWithoutAll_cons (d.closeSide_deferred y hside hruns) (by simp), hside]
    · have hne (k : Leaf) (hk : k.side = y) : ¬ d.runsWith k := fun h => hside ((honly k h) ▸ hk)
      have hagain : (d.closeSide y).again l.side = d.again l.side := by
        rw [Dor.again, (d.closeSide_same y hside).sides, Dor.again]
      have hrest := ih hnodup ((List.mem_cons.1 hl).resolve_left hside) (d.closeSide y) ((hsame l).2 hruns)
        fun k hk => honly k ((hsame k).1 hk)
      refine hrest.trans ?_
      rw [Dor.keptWithoutAll_cons (last := []) ((d.closeSide_deferred_idle y hne).trans (List.append_nil _).symm) nofun,
        List.append_nil, hagain]

end Sides

/-! ## The sides judged -/

theorem Closed.mono {again : Bool} {d f e : Dor} {leaf : Leaf} (hrecord : f.leaves.get leaf = d.leaves.get leaf)
    (hslot : (∀ cmd, d.slot leaf = some cmd → cmd.opens = false) → f.slot leaf = d.slot leaf) (h : Closed again f e leaf) :
    Closed again d e leaf := by
  unfold Closed at h ⊢
  rw [hrecord] at h
  obtain ⟨hunlocked, hopened, hdue, hrest⟩ := h
  refine ⟨hunlocked, hopened, fun hs hclose hagain => ?_, hrest⟩
  obtain ⟨hsame, hkept⟩ := hdue hs hclose hagain
  refine ⟨hsame, fun hcmd => ?_⟩
  rw [← hslot hcmd]
  exact hkept fun cmd hc => hcmd cmd (hslot hcmd ▸ hc)

theorem Dor.chimed_iff_waits (d : Dor) (side : Side) : d.chimed side = true ↔
    ¬ ∃ l : Leaf, l.side = side ∧ (d.leaves.get l).closeDue = true ∧
      (d.slot l = some .chime ∨ ∃ e, d.exchange = some e ∧ e.leaf = l ∧ e.message = .command .chime) := by
  have hruns (l : Leaf) : d.running l (· == .chime) = true ↔
      ∃ e, d.exchange = some e ∧ e.leaf = l ∧ e.message = .command .chime := by
    unfold Dor.running
    cases d.exchange with
    | none => simp
    | some x => cases hm : x.message <;> simp [hm]
  have hslot (l : Leaf) : (d.slot l).any (· == .chime) = true ↔ d.slot l = some .chime := by
    cases d.slot l <;> simp
  rw [Dor.chimed, List.all_eq_true, not_exists]
  refine forall_congr' fun l => ?_
  rw [Side.mem_leaves, Bool.not_eq_true', ← Bool.not_eq_true, Bool.and_eq_true, Dor.waitingOrRunning, Bool.or_eq_true, hruns, hslot,
    not_and, not_and, not_and]

theorem Dor.SideClosed.passed {side : Side} {d e : Dor} (h : d.SideClosed side e) :
    (e.passed side).release = none ∧ (e.passed side).autoOpen = (d.sides.get side).autoOpen := by
  rw [Dor.passed_autoOpen, h.autoOpen]
  refine ⟨?_, rfl⟩
  unfold Dor.passed
  dsimp only
  split <;> exact h.release

/-! ## The telegram -/

theorem exec_doorClose_range {via : Via} {side : Nat} {s : State} (hr : Ready s) (hreach : Reaches via (.doorClose side) s.car)
    (h : closeSides side = none) : exec (.doorClose via side) s = .next ⟨replied via 9 .range [.none] s.car, s.pending⟩ := by
  refine exec_eq_replied_quiet rfl hr hreach (by simp [telegramKind]) hr.unreserved rfl rfl rfl rfl fun n => ?_
  show reply via 9 (doorClose side (s.car.reserving n)) = _
  rw [doorClose, h]
  rfl

theorem exec_doorClose {via : Via} {side : Nat} {s : State} (hr : Ready s) (hreach : Reaches via (.doorClose side) s.car)
    {sides : List Side} (h : closeSides side = some sides) : exec (.doorClose via side) s =
      .next ⟨replied via 9 .accepted [.none] (settle { s.car with dor := s.car.dor.closeSides sides }), s.pending⟩ := by
  refine exec_eq_replied_settle (d := { s.car with dor := s.car.dor.closeSides sides }) rfl hr hreach (by simp [telegramKind])
    hr.unreserved fun n => ?_
  show reply via 9 (doorClose side (s.car.reserving n)) = _
  rw [doorClose, h]
  rfl

/-- The sides that a DOOR CLOSE names. -/
theorem closeSides_spec {side : Nat} (hlow : 1 ≤ side) (hhigh : side ≤ 3) : ∃ sides, closeSides side = some sides ∧ sides.Nodup ∧
    ∀ x : Side, x ∈ sides ↔ (x = .left ∧ side ≠ 2) ∨ (x = .right ∧ side ≠ 1) := by
  have hall (p : Side → Prop) (hleft : p .left) (hright : p .right) (x : Side) : p x := by cases x <;> assumption
  obtain rfl | rfl | rfl : side = 1 ∨ side = 2 ∨ side = 3 := by omega
  · exact ⟨_, rfl, by decide, hall _ (by decide) (by decide)⟩
  · exact ⟨_, rfl, by decide, hall _ (by decide) (by decide)⟩
  · exact ⟨_, rfl, by decide, hall _ (by decide) (by decide)⟩

/-- Settles O40: side by side over the doors with the named sides closed, which the judgement then passes on. -/
theorem doorCloseClosesTheSides : Obligations.DoorCloseClosesTheSides := by
  intro via side s hr hreach
  refine ⟨fun hbad => exec_doorClose_range hr hreach ?range, fun hlow hhigh => ?closes⟩
  case range =>
    unfold closeSides
    split
    case h_4 => rfl
    all_goals omega
  intro named again kept
  obtain ⟨sides, hsides, hnodup, hnamed⟩ := closeSides_spec hlow hhigh
  obtain ⟨hsafe, hproven, hcondition, hexchange⟩ := s.car.dor.closeSides_rest (sides := sides)
  have hcar := hr.settle_hold hsafe hproven hcondition
  have hlif := settle_lif { s.car with dor := s.car.dor.closeSides sides }
  have hdor : (settle { s.car with dor := s.car.dor.closeSides sides }).dor =
      (s.car.dor.closeSides sides).judge s.car.odo.fused := (congrArg Car.dor hcar :)
  have hkept : s.car.dor.keptWithoutAll sides = kept := by
    refine List.filter_congr fun a _ => ?_
    simp only [hnamed]
  have hagain (x : Side) : s.car.dor.again x = again x := by
    show (_ != _) = decide _
    cases (s.car.dor.sides.get x).step <;> rfl
  have hclosed (x : Side) (hx : named x) := Dor.closeSides_closed hnodup ((hnamed x).2 hx) s.car.dor
  have hsame (x : Side) (hx : ¬ named x) := Dor.closeSides_same (mt (hnamed x).1 hx) s.car.dor
  refine ⟨_, exec_doorClose hr hreach hsides, rfl, ?frames, fun x hx => ?sides, fun x hx => ?other, fun leaf hx hidle => ?idle,
    fun leaf hx hruns => ?running, fun hidle => ?unkept, ?exchange, fun x hx => ?steps, (congrArg Car.odo hcar :),
    (congrArg Car.tlf hcar :), (congrArg Car.pst hcar :), (congrArg (·.brk.causes) hcar :), (congrArg Car.evr hcar :),
    (congrArg Car.vrl hcar :)⟩
  case frames =>
    refine (Lif.answered_frames ..).trans ?_
    rw [hlif]
  all_goals
    dsimp only [replied]
    rw [hdor]
  case sides =>
    rw [Dor.judge_side]
    exact ⟨(hclosed x hx).passed.1, (hclosed x hx).passed.2, (hclosed x hx).placed⟩
  case other =>
    have hx' := hsame x hx
    rw [Dor.judge_side, Dor.passed_congr hx'.exchange hx'.sides hx'.leaves hx'.slots, hr.passed]
    exact ⟨rfl, fun leaf hleaf => ⟨hx'.leaves leaf hleaf, hx'.slots leaf hleaf⟩⟩
  case idle =>
    obtain ⟨f, hrecord, hslot, hacted⟩ := (hclosed leaf.side hx).acted leaf rfl hidle
    have hnotruns : ¬ (s.car.dor.closeSides sides).runsWith leaf := mt (Dor.runsWith_congr hexchange leaf).1 hidle
    rw [hagain] at hacted
    exact Closed.mono hrecord hslot (Dor.closed (Dor.running_of_idle hnotruns) (.refl f) hacted)
  case running =>
    obtain ⟨hrecord, hslot⟩ := (hclosed leaf.side hx).running leaf rfl hruns
    refine ⟨hrecord, hslot, ?_⟩
    rw [← hkept, ← hagain]
    exact Dor.closeSides_deferred hnodup ((hnamed _).2 hx) _ hruns
  case unkept =>
    rw [← hkept]
    exact Dor.closeSides_deferred_idle _ fun l hl => hidle l ((hnamed _).1 hl)
  case exchange => exact hexchange
  case steps =>
    have hpassed := Dor.chimed_iff_waits (s.car.dor.closeSides sides) x
    rw [hexchange] at hpassed
    rw [Dor.judge_side, Dor.passed]
    refine ⟨fun hstep hchimes => ?_, fun hstep hchimes => ?_, fun hstep hleaves => ?_⟩
    · rw [(hclosed x hx).returned hstep]
      exact if_neg fun h => hpassed.1 h.2 hchimes
    · rw [(hclosed x hx).returned hstep]
      exact if_pos ⟨rfl, hpassed.2 hchimes⟩
    · rw [(hclosed x hx).still hstep hleaves]
      exact if_neg fun h => absurd (hstep.symm.trans (show (s.car.dor.sides.get x).step = .chiming from h.1)) nofun

end Sys2Proof.Machine
end

section
/-! The check word bit by bit, a record as bytes, and the coverage run (R13, R19). -/

namespace Sys2Proof.Machine

/-! ## The check word bit by bit (R19) -/

/-- One bit of the message taken into the register. -/
def crcStep (v : Check) (bit : Bool) : Check := if v.msb != bit then (v <<< 1) ^^^ 0x1021#16 else v <<< 1

/-- The same on the register's value. -/
def crcStepNat (r : Nat) (bit : Bool) : Nat :=
  if r.testBit 15 != bit then (2 * r % 65536) ^^^ 0x1021 else 2 * r % 65536

/-- Message bits that wait in the register are taken as they come to its top. -/
theorem crcShift_xor (v w : Check) : crcShift (v ^^^ w) = crcStep v w.msb ^^^ (w <<< 1) := by
  unfold crcShift crcStep
  rw [BitVec.msb_xor, BitVec.shiftLeft_xor_distrib]
  have hsame : (v.msb ^^ w.msb) = (v.msb != w.msb) := by cases v.msb <;> cases w.msb <;> rfl
  rw [hsame]
  split
  · rw [BitVec.xor_assoc, BitVec.xor_comm (w <<< 1), BitVec.xor_assoc]
  · rfl

/-- The bits of a byte, most significant first. -/
def byteBits (b : Byte) : List Bool := (List.range 8).map fun k => b.toNat.testBit (7 - k)

theorem crcByte_eq (v : Check) (b : Byte) : crcByte v b = (byteBits b).foldl crcStep v := by
  have hmsb (k : Nat) (hk : k < 8) : ((b.setWidth 16 <<< 8) <<< k).msb = b.toNat.testBit (7 - k) := by
    rw [BitVec.msb_eq_getLsbD_last, BitVec.getLsbD_shiftLeft, BitVec.getLsbD_shiftLeft, BitVec.getLsbD_setWidth,
      BitVec.testBit_toNat]
    have hlast : 16 - 1 - k - 8 = 7 - k := by omega
    have hin : decide (16 - 1 < 16) = true ∧ decide (16 - 1 < k) = false ∧ decide (16 - 1 - k < 16) = true ∧
        decide (16 - 1 - k < 8) = false ∧ decide (7 - k < 16) = true := by
      simp only [decide_eq_true_iff, decide_eq_false_iff_not]
      omega
    obtain ⟨h1, h2, h3, h4, h5⟩ := hin
    rw [hlast, h1, h2, h3, h4, h5]
    rfl
  have hzero : (b.setWidth 16 <<< 8) <<< 8 = 0#16 := by
    apply BitVec.eq_of_toNat_eq
    simp
  have hbits : byteBits b = [b.toNat.testBit 7, b.toNat.testBit 6, b.toNat.testBit 5, b.toNat.testBit 4, b.toNat.testBit 3,
      b.toNat.testBit 2, b.toNat.testBit 1, b.toNat.testBit 0] := rfl
  unfold crcByte
  rw [hbits]
  generalize (b.setWidth 16 <<< 8 : Check) = w at hmsb hzero
  have hfirst : w.msb = b.toNat.testBit 7 := by rw [← hmsb 0 (by decide), BitVec.shiftLeft_zero]
  have hnext (k : Nat) : w <<< k <<< 1 = w <<< (k + 1) := (BitVec.shiftLeft_add w k 1).symm
  simp only [crcShift_xor, hnext, hfirst, hmsb 1 (by decide), hmsb 2 (by decide), hmsb 3 (by decide), hmsb 4 (by decide),
    hmsb 5 (by decide), hmsb 6 (by decide), hmsb 7 (by decide), Nat.reduceAdd, Nat.reduceSub, hzero, BitVec.xor_zero]
  rfl

theorem crcStep_ofNat (r : Nat) (bit : Bool) :
    BitVec.ofNat 16 (crcStepNat r bit) = crcStep (BitVec.ofNat 16 r) bit := by
  have hmsb : (BitVec.ofNat 16 r).msb = r.testBit 15 := by
    rw [BitVec.msb_eq_getLsbD_last, BitVec.getLsbD_ofNat]
    rfl
  have hshift : BitVec.ofNat 16 (2 * r % 65536) = BitVec.ofNat 16 r <<< 1 := by
    apply BitVec.eq_of_toNat_eq
    simp [Nat.shiftLeft_eq]
    omega
  unfold crcStepNat crcStep
  rw [hmsb]
  split
  · rw [BitVec.ofNat_xor, hshift]
  · exact hshift

theorem crcStepNat_lt (r : Nat) (bit : Bool) : crcStepNat r bit < 65536 := by
  unfold crcStepNat
  split
  · exact Nat.xor_lt_two_pow (n := 16) (Nat.mod_lt _ (by decide)) (by decide)
  · exact Nat.mod_lt _ (by decide)

theorem foldl_crcStep_ofNat (l : List Bool) (r : Nat) (h : r < 65536) :
    BitVec.ofNat 16 (l.foldl crcStepNat r) = l.foldl crcStep (BitVec.ofNat 16 r) := by
  induction l generalizing r with
  | nil => rfl
  | cons bit l ih => rw [List.foldl_cons, List.foldl_cons, ih _ (crcStepNat_lt r bit), crcStep_ofNat r bit]

theorem crc_eq_bits (l : List Byte) : crc l = BitVec.ofNat 16 ((l.flatMap byteBits).foldl crcStepNat 65535) := by
  rw [foldl_crcStep_ofNat _ _ (by decide), List.foldl_flatMap]
  exact congrArg (fun f => List.foldl f _ l) (funext fun v => funext fun b => crcByte_eq v b)

/-! ## A record as bytes (R19) -/

theorem beBytes_toNat (k n : Nat) : (beBytes k n).map BitVec.toNat = (List.range k).map fun i => n / 256 ^ (k - 1 - i) % 256 := by
  induction k with
  | zero => rfl
  | succ k ih =>
    rw [beBytes, List.map_cons, ih, List.range_succ_eq_map, List.map_cons, List.map_map]
    refine congrArg₂ List.cons (by simp [Byte.ofNat]) (List.map_congr_left fun i _ => ?_)
    simp only [Function.comp, Nat.succ_eq_add_one]
    congr 3
    omega

theorem byteOfNat_toNat (n : Nat) : (Byte.ofNat n).toNat = n % 256 := BitVec.toNat_ofNat ..

theorem flagByte_toNat (b : Bool) : (flagByte b).toNat = if b = true then 1 else 0 := by cases b <;> rfl

theorem Segment.bytes_toNat (x : Segment) (hlow : -480 ≤ x.gradient) (hhigh : x.gradient ≤ 480) :
    let bytes (k n : Nat) : List Nat := (List.range k).map fun i => n / 256 ^ (k - 1 - i) % 256
    let flag (b : Bool) : Nat := if b = true then 1 else 0
    x.bytes.map BitVec.toNat = bytes 2 x.id ++ bytes 4 x.low ++ bytes 4 x.length ++ [x.kind.code] ++
      bytes 2 (if 0 ≤ x.gradient then x.gradient.toNat else (65536 + x.gradient).toNat) ++
      [x.upLimit % 256, x.downLimit % 256, flag x.shadow] ++
      (x.platform.elim [0] fun q => [1, q.side.code] ++ bytes 4 q.low ++ bytes 4 q.high) ++
      [x.markers.length % 256] ++ (x.markers.flatMap fun m => bytes 2 m.id ++ bytes 4 m.offset) ++ [flag x.pinned] := by
  intro bytes flag
  have hgradient : (x.gradient % 65536).toNat = if 0 ≤ x.gradient then x.gradient.toNat else (65536 + x.gradient).toNat := by
    split <;> omega
  have hbytes (k n : Nat) : (beBytes k n).map BitVec.toNat = bytes k n := beBytes_toNat k n
  have hplatform : (platformBytes x.platform).map BitVec.toNat =
      x.platform.elim [0] fun q => [1, q.side.code] ++ bytes 4 q.low ++ bytes 4 q.high := by
    cases x.platform with
    | none => rfl
    | some q =>
      have hside : q.side.code % 256 = q.side.code := by cases q.side <;> rfl
      simp only [platformBytes, List.map_append, List.map_cons, List.map_nil, hbytes, byteOfNat_toNat, hside, Option.elim_some]
      rfl
  have hkind : x.kind.code % 256 = x.kind.code := by cases x.kind <;> rfl
  have hmarkers : (x.markers.flatMap fun m => beBytes 2 m.id ++ beBytes 4 m.offset).map BitVec.toNat =
      x.markers.flatMap fun m => bytes 2 m.id ++ bytes 4 m.offset := by
    simp only [List.map_flatMap, List.map_append, hbytes]
  simp only [Segment.bytes, List.map_append, hbytes, hplatform, hmarkers, signedBytes, hgradient, List.map_cons, List.map_nil,
    byteOfNat_toNat, hkind, flagByte_toNat, flag]

/-! ## Runs of records that abut (R13) -/

section Run
variable {α : Type} (near far : α → Int)

/-- The far edge of a run, extended through a record whose near edge it is. -/
def extendRun (edge : Int) (x : α) : Int := if near x = edge then far x else edge

/-- A run of records each of which abuts the one before, and whose last none abuts. -/
structure IsRun (l run : List α) (first last : α) : Prop where
  head : run.head? = some first
  getLast : run.getLast? = some last
  abuts : ∀ (n : Nat) x y, run[n]? = some x → run[n + 1]? = some y → near y = far x
  ends : ∀ x ∈ l, near x ≠ far last

variable {near far}

theorem IsRun.cons {l run : List α} {y last first : α} (h : IsRun near far l run y last) (hy : near y = far first) :
    IsRun near far l (first :: run) first last := by
  refine ⟨rfl, ?_, fun n a b ha hb => ?_, h.ends⟩
  · rw [List.getLast?_cons, h.getLast]
    rfl
  · rw [List.getElem?_cons_succ] at hb
    cases n with
    | zero =>
      rw [List.getElem?_cons_zero, Option.some_inj] at ha
      rw [← List.head?_eq_getElem?, h.head, Option.some_inj] at hb
      rw [← ha, ← hb, hy]
    | succ n =>
      rw [List.getElem?_cons_succ] at ha
      exact h.abuts n a b ha hb

/-- The run from a record that lies behind all the others, in their order. -/
theorem exists_run_ahead {l : List α} (hlength : ∀ x ∈ l, near x < far x) (horder : l.Pairwise fun a b => far a ≤ near b)
    (first : α) (hahead : ∀ x ∈ l, far first ≤ near x) : ∃ run last, IsRun near far l run first last ∧
      (∀ x ∈ run, x = first ∨ x ∈ l) ∧ (last = first ∨ last ∈ l) ∧ l.foldl (extendRun near far) (far first) = far last := by
  induction l generalizing first with
  | nil =>
    refine ⟨[first], first, ⟨rfl, rfl, fun n x y hx hy => ?_, nofun⟩, fun x hx => .inl (List.mem_singleton.1 hx), .inl rfl, rfl⟩
    rw [List.getElem?_cons_succ] at hy
    cases hy
  | cons y ys ih =>
    obtain ⟨hyahead, horder⟩ := List.pairwise_cons.1 horder
    have hylength := hlength y List.mem_cons_self
    have hlength' := fun x hx => hlength x (List.mem_cons_of_mem y hx)
    by_cases hy : near y = far first
    · obtain ⟨run, last, hrun, hmem, hlast, hfold⟩ := ih hlength' horder y hyahead
      have hfar : far y ≤ far last := by
        rcases hlast with rfl | hl
        · exact le_refl _
        · exact (hyahead last hl).trans (hlength' last hl).le
      have hrun' : IsRun near far (y :: ys) run y last :=
        ⟨hrun.head, hrun.getLast, hrun.abuts, List.forall_mem_cons.2 ⟨by omega, hrun.ends⟩⟩
      refine ⟨first :: run, last, hrun'.cons hy, fun x hx => ?_, .inr ?_, ?_⟩
      · exact (List.mem_cons.1 hx).imp_right fun hx => List.mem_cons.2 (hmem x hx)
      · exact List.mem_cons.2 hlast
      · rw [List.foldl_cons, extendRun, if_pos hy, hfold]
    · obtain ⟨run, last, hrun, hmem, hlast, hfold⟩ := ih hlength' horder first fun x hx => hahead x (List.mem_cons_of_mem y hx)
      have hends : near y ≠ far last := by
        rcases hlast with rfl | hl
        · exact hy
        · have h1 := hyahead last hl
          have h2 := hlength' last hl
          omega
      refine ⟨run, last, ⟨hrun.head, hrun.getLast, hrun.abuts, List.forall_mem_cons.2 ⟨hends, hrun.ends⟩⟩,
        fun x hx => (hmem x hx).imp_right (List.mem_cons_of_mem y), hlast.imp_right (List.mem_cons_of_mem y), ?_⟩
      rw [List.foldl_cons, extendRun, if_neg hy, hfold]

/-- The run from a record of a list in order: what lies behind it is passed over. -/
theorem exists_run {l : List α} (hlength : ∀ x ∈ l, near x < far x) (horder : l.Pairwise fun a b => far a ≤ near b)
    {first : α} (hfirst : first ∈ l) : ∃ run last, IsRun near far l run first last ∧ (∀ x ∈ run, x ∈ l) ∧
      l.foldl (extendRun near far) (far first) = far last := by
  induction l with
  | nil => exact absurd hfirst List.not_mem_nil
  | cons y ys ih =>
    obtain ⟨hyahead, hrest⟩ := List.pairwise_cons.1 horder
    have hylength := hlength y List.mem_cons_self
    have hlength' := fun x hx => hlength x (List.mem_cons_of_mem y hx)
    rcases List.mem_cons.1 hfirst with rfl | hmem
    · obtain ⟨run, last, hrun, hmem, hlast, hfold⟩ := exists_run_ahead hlength' hrest first hyahead
      have hfar : far first ≤ far last := by
        rcases hlast with rfl | hl
        · exact le_refl _
        · exact (hyahead last hl).trans (hlength' last hl).le
      refine ⟨run, last, ⟨hrun.head, hrun.getLast, hrun.abuts, List.forall_mem_cons.2 ⟨by omega, hrun.ends⟩⟩,
        fun x hx => List.mem_cons.2 (hmem x hx), ?_⟩
      rw [List.foldl_cons, extendRun, if_neg (by omega), hfold]
    · obtain ⟨run, last, hrun, hmem', hfold⟩ := ih hlength' hrest hmem
      have hbehind := hyahead first hmem
      have hlastmem : last ∈ ys := hmem' last (List.mem_of_getLast? hrun.getLast)
      have hends : near y ≠ far last := by
        have h1 := hyahead last hlastmem
        have h2 := hlength' last hlastmem
        omega
      refine ⟨run, last, ⟨hrun.head, hrun.getLast, hrun.abuts, List.forall_mem_cons.2 ⟨hends, hrun.ends⟩⟩,
        fun x hx => List.mem_cons_of_mem y (hmem' x hx), ?_⟩
      have h2 := hlength' first hmem
      rw [List.foldl_cons, extendRun, if_neg (by omega), hfold]

end Run

/-! ## The coverage (R13) -/

section Coverage
variable {t : List Segment} {p : PositionRecord} {carLength : Nat}

theorem foldl_abutUp (l : List Segment) (edge : Nat) : ((l.foldl abutUp edge : Nat) : Int) =
    l.foldl (extendRun (fun x => (x.low : Int)) fun x => (x.low : Int) + x.length) edge := by
  induction l generalizing edge with
  | nil => rfl
  | cons x l ih =>
    rw [List.foldl_cons, List.foldl_cons, ih, abutUp, extendRun]
    congr 1
    split <;> split <;> omega

theorem foldl_abutDown (l : List Segment) (edge : Nat) : -((l.foldl abutDown edge : Nat) : Int) =
    l.foldl (extendRun (fun x => -((x.low : Int) + x.length)) fun x => -(x.low : Int)) (-edge) := by
  induction l generalizing edge with
  | nil => rfl
  | cons x l ih =>
    rw [List.foldl_cons, List.foldl_cons, ih, abutDown, extendRun]
    congr 1
    split <;> split <;> omega

theorem coverageOf_unknown (h : p.state ≠ .known) (ahead : Option Sense) : coverageOf t p carLength ahead = none := by
  unfold coverageOf
  cases hs : p.state with
  | known => exact absurd hs h
  | unknown => cases ahead <;> rfl
  | lost => cases ahead <;> rfl

variable (hknown : p.state = .known) {dir : Sense}
include hknown

theorem coverageOf_unheld (h : ∀ x ∈ t, x.overlaps (rearMin p carLength dir) (rearMin p carLength dir) = false) :
    coverageOf t p carLength (some dir) = none := by
  have hfind : (t.find? fun s => s.overlaps (rearMin p carLength dir) (rearMin p carLength dir)) = none :=
    List.find?_eq_none.2 fun x hx => ne_true_of_eq_false (h x hx)
  simp only [coverageOf, hknown, hfind]

theorem coverageOf_held_up {first : Segment}
    (h : (t.find? fun s => s.overlaps (rearMin p carLength .up) (rearMin p carLength .up)) = some first) :
    coverageOf t p carLength (some .up) = some (t.foldl abutUp (first.low + first.length)) := by
  simp only [coverageOf, hknown, h]

theorem coverageOf_held_down {first : Segment}
    (h : (t.find? fun s => s.overlaps (rearMin p carLength .down) (rearMin p carLength .down)) = some first) :
    coverageOf t p carLength (some .down) = some (t.reverse.foldl abutDown first.low) := by
  simp only [coverageOf, hknown, h]

end Coverage

/-- Records in order hold a position at most once. -/
theorem find_holder {t : List Segment} (horder : t.Pairwise fun a b => a.low + a.length ≤ b.low) {at' : Int} {first : Segment}
    (hmem : first ∈ t) (hholds : first.overlaps at' at' = true) : (t.find? fun s => s.overlaps at' at') = some first := by
  induction t with
  | nil => exact absurd hmem List.not_mem_nil
  | cons y ys ih =>
    obtain ⟨hahead, horder⟩ := List.pairwise_cons.1 horder
    rcases List.mem_cons.1 hmem with rfl | hmem
    · exact List.find?_cons_of_pos hholds
    · rw [List.find?_cons_of_neg, ih horder hmem]
      intro hy
      have hnext := hahead first hmem
      rw [Segment.overlaps, decide_eq_true_iff, Segment.high] at hholds hy
      omega

end Sys2Proof.Machine
end

section
/-! The run that a coverage is (R13), in each direction. -/

namespace Sys2Proof.Machine

section Covered
variable {t : List Segment} {p : PositionRecord} {carLength : Nat}

theorem holds_iff (x : Segment) (rear : Int) :
    x.overlaps rear rear = true ↔ (x.low : Int) ≤ rear ∧ rear ≤ (x.low : Int) + x.length - 1 := by
  rw [Segment.overlaps, decide_eq_true_iff, Segment.high]

theorem coverageOf_empty (hknown : p.state = .known) {dir : Sense}
    (h : ∀ x ∈ t, ¬((x.low : Int) ≤ rearMin p carLength dir ∧ rearMin p carLength dir ≤ (x.low : Int) + x.length - 1)) :
    coverageOf t p carLength (some dir) = none :=
  coverageOf_unheld hknown fun x hx => Bool.eq_false_iff.2 fun hheld => h x hx ((holds_iff x _).1 hheld)

variable (hknown : p.state = .known) (horder : t.Pairwise fun a b => a.low + a.length ≤ b.low)
  (hlength : ∀ x ∈ t, 0 < x.length) {first : Segment} (hfirst : first ∈ t)
include hknown horder hlength hfirst

theorem coverageOf_run_up (hheld : first.overlaps (rearMin p carLength .up) (rearMin p carLength .up) = true) :
    ∃ (run : List Segment) (last : Segment), (∀ x ∈ run, x ∈ t) ∧ run.head? = some first ∧ run.getLast? = some last ∧
      (∀ (n : Nat) x y, run[n]? = some x → run[n + 1]? = some y → y.low = x.low + x.length) ∧
      (∀ x ∈ t, ¬x.low = last.low + last.length) ∧
      coverageOf t p carLength (some .up) = some (last.low + last.length) := by
  obtain ⟨run, last, hrun, hmem, hfold⟩ := exists_run (near := fun x : Segment => (x.low : Int))
    (far := fun x : Segment => (x.low : Int) + x.length) (fun x hx => by have := hlength x hx; omega)
    (horder.imp fun h => by omega) hfirst
  refine ⟨run, last, hmem, hrun.head, hrun.getLast, fun n x y hx hy => ?_, fun x hx h => hrun.ends x hx (by omega), ?_⟩
  · have := hrun.abuts n x y hx hy
    omega
  · rw [coverageOf_held_up hknown (find_holder horder hfirst hheld)]
    have := foldl_abutUp t (first.low + first.length)
    rw [Nat.cast_add, hfold] at this
    exact congrArg some (by omega)

theorem coverageOf_run_down (hheld : first.overlaps (rearMin p carLength .down) (rearMin p carLength .down) = true) :
    ∃ (run : List Segment) (last : Segment), (∀ x ∈ run, x ∈ t) ∧ run.head? = some first ∧ run.getLast? = some last ∧
      (∀ (n : Nat) x y, run[n]? = some x → run[n + 1]? = some y → y.low + y.length = x.low) ∧
      (∀ x ∈ t, ¬x.low + x.length = last.low) ∧ coverageOf t p carLength (some .down) = some last.low := by
  obtain ⟨run, last, hrun, hmem, hfold⟩ := exists_run (near := fun x : Segment => -((x.low : Int) + x.length))
    (far := fun x : Segment => -(x.low : Int)) (l := t.reverse)
    (fun x hx => by have := hlength x (List.mem_reverse.1 hx); omega)
    (List.pairwise_reverse.2 (horder.imp fun h => by omega)) (List.mem_reverse.2 hfirst)
  refine ⟨run, last, fun x hx => List.mem_reverse.1 (hmem x hx), hrun.head, hrun.getLast, fun n x y hx hy => ?_,
    fun x hx h => hrun.ends x (List.mem_reverse.2 hx) (by omega), ?_⟩
  · have := hrun.abuts n x y hx hy
    omega
  · rw [coverageOf_held_down hknown (find_holder horder hfirst hheld)]
    have := foldl_abutDown t.reverse first.low
    rw [hfold] at this
    exact congrArg some (by omega)

end Covered

end Sys2Proof.Machine
end

section
/-! Segment arrival (R2 to R9), SEGMENT REMOVE (R12) and PIN WINDOW SET (R11) over a table whose records pass their check. -/

namespace Sys2Proof.Machine

/-! ## The arriving record (R3) -/

theorem kindOfBits_eq_none_iff {n : Nat} (h : n < 4) : kindOfBits n = none ↔ n = 3 := by
  interval_cases n <;> simp [kindOfBits]

theorem platformOfBits_eq_none_iff {n : Nat} (h : n < 4) : platformOfBits n = none ↔ n = 0 := by
  interval_cases n <;> simp [platformOfBits]

theorem bodyPlatformFits_iff (b : SegmentBody) : bodyPlatformFits b = true ↔
    (b.kindByte / 8 % 4 ≠ 0 → b.platformLow ≤ b.platformHigh ∧ b.platformHigh < b.length) := by
  have hside := platformOfBits_eq_none_iff (n := b.kindByte / 8 % 4) (Nat.mod_lt _ (by decide))
  rw [ne_eq, ← hside]
  unfold bodyPlatformFits bodySide
  cases platformOfBits (b.kindByte / 8 % 4) with
  | none => simp
  | some side => simp

/-- What R3 asks of an arriving body. -/
def BodyFits (b : SegmentBody) : Prop :=
  b.id ≤ 1023 ∧ b.low ≤ 1999999 ∧ 100 ≤ b.length ∧ b.length ≤ 200000 ∧ b.low + b.length ≤ 2000000 ∧
    b.kindByte < 32 ∧ b.kindByte % 4 ≠ 3 ∧ -480 ≤ b.gradient ∧ b.gradient ≤ 480 ∧ b.upLimit ≤ 40 ∧ b.downLimit ≤ 40 ∧
    (b.kindByte / 8 % 4 ≠ 0 → b.platformLow ≤ b.platformHigh ∧ b.platformHigh < b.length) ∧ b.markers.length ≤ 4 ∧
    (∀ m ∈ b.markers, 1 ≤ m.id ∧ m.id ≤ 4095 ∧ m.offset < b.length) ∧ (b.markers.map MarkerField.offset).Nodup

theorem bodyMarkers_iff (b : SegmentBody) : (b.markers.all (·.fits b.length)) = true ↔
    ∀ m ∈ b.markers, 1 ≤ m.id ∧ m.id ≤ 4095 ∧ m.offset < b.length := by
  simp only [List.all_eq_true, MarkerField.fits, Bool.and_eq_true, decide_eq_true_iff, and_assoc]

/-- The record of a body, as it is before it is pinned and written. -/
structure RecordOf (b : SegmentBody) (x : Segment) : Prop where
  id : x.id = b.id
  low : x.low = b.low
  length : x.length = b.length
  gradient : x.gradient = b.gradient
  upLimit : x.upLimit = b.upLimit
  downLimit : x.downLimit = b.downLimit
  markers : x.markers = b.markers
  shadow : x.shadow = b.kindByte.testBit 2
  kind : kindOfBits (b.kindByte % 4) = some x.kind
  platform : x.platform = (platformOfBits (b.kindByte / 8 % 4)).map fun side =>
    ⟨side, b.low + b.platformLow, b.low + b.platformHigh⟩

theorem bodySegment_none {b : SegmentBody} (h : ¬BodyFits b) : bodySegment b = none := by
  have hkind := kindOfBits_eq_none_iff (n := b.kindByte % 4) (Nat.mod_lt _ (by decide))
  unfold bodySegment bodyKind
  split
  · rfl
  · next kind hk =>
    refine if_neg fun hfits => h ?_
    obtain ⟨h1, h2, h3, h4, h5, h6, h8, h9, h10, h11, hplatform, h13, hmarkers, hoffsets⟩ := hfits
    exact ⟨h1, h2, h3, h4, h5, h6, fun h3 => absurd (hk.symm.trans (hkind.2 h3)) nofun, h8, h9, h10, h11,
      (bodyPlatformFits_iff b).1 hplatform, h13, (bodyMarkers_iff b).1 hmarkers, of_decide_eq_true hoffsets⟩

theorem bodySegment_some {b : SegmentBody} (h : BodyFits b) : ∃ x, bodySegment b = some x ∧ RecordOf b x := by
  obtain ⟨h1, h2, h3, h4, h5, h6, hk, h8, h9, h10, h11, hplatform, h13, hmarkers, hoffsets⟩ := h
  have hkind := kindOfBits_eq_none_iff (n := b.kindByte % 4) (Nat.mod_lt _ (by decide))
  obtain ⟨kind, hkind⟩ := Option.ne_none_iff_exists'.1 (mt hkind.1 hk)
  have hbody : bodyKind b = some kind := hkind
  unfold bodySegment
  rw [hbody]
  refine ⟨_, if_pos ⟨h1, h2, h3, h4, h5, h6, h8, h9, h10, h11, (bodyPlatformFits_iff b).2 hplatform, h13,
    (bodyMarkers_iff b).2 hmarkers, decide_eq_true hoffsets⟩, ?_⟩
  exact ⟨rfl, rfl, rfl, rfl, rfl, rfl, rfl, rfl, hkind, rfl⟩

/-! ## Eviction (R6) -/

section Eviction
variable {rear : Int} {dir : Sense} {l : List Segment}

theorem furthest_none (h : furthest rear dir l = none) : l = [] := by
  cases l with
  | nil => rfl
  | cons u l =>
    unfold furthest at h
    split at h
    · split at h <;> cases h
    · cases h

theorem behind_le_of_furthest {s : Segment} (h : furthest rear dir l = some s) :
    ∀ u ∈ l, u.behind rear dir ≤ s.behind rear dir := by
  induction l generalizing s with
  | nil => nofun
  | cons u l ih =>
    unfold furthest at h
    split at h
    · next v hv =>
      have hrest := ih hv
      split at h
      · next hfurther =>
        cases h
        exact List.forall_mem_cons.2 ⟨le_refl _, fun w hw => (hrest w hw).trans hfurther.le⟩
      · next hnear =>
        cases h
        exact List.forall_mem_cons.2 ⟨not_lt.1 hnear, hrest⟩
    · next hnone =>
      cases h
      rw [furthest_none hnone]
      exact List.forall_mem_cons.2 ⟨le_refl _, nofun⟩

/-- How far a record lies behind a car whose position is KNOWN and whose direction has been seen. -/
def behindRear (p : PositionRecord) (carLength : Nat) (ahead : Option Sense) (x : Segment) : Option Int :=
  if p.state = .known then ahead.map fun dir => x.behind (rearMin p carLength dir) dir else none

variable {t : List Segment} {p : PositionRecord} {params : Params} {ahead : Option Sense}

/-- A record that may be evicted. -/
def Evictable (t : List Segment) (p : PositionRecord) (params : Params) (ahead : Option Sense) (x : Segment) : Prop :=
  x ∈ t ∧ x.pinned = false ∧ ∃ d, behindRear p params.carLength ahead x = some d ∧ (params.uMax + 1000 : Nat) < d

theorem mem_evictable (hknown : p.state = .known) (dir : Sense) (x : Segment) : Evictable t p params (some dir) x ↔
    x ∈ t.filter (·.evictable (rearMin p params.carLength dir) dir (params.uMax + 1000)) := by
  rw [Evictable, behindRear, if_pos hknown, List.mem_filter, Segment.evictable, Bool.and_eq_true, decide_eq_true_iff,
    Bool.not_eq_true']
  simp only [Option.map_some, Option.some.injEq, exists_eq_left']

theorem evictee_of_unseen (h : p.state = .known → ahead = none) : evictee t p params ahead = none := by
  unfold evictee
  cases hs : p.state with
  | known =>
    rw [h hs]
  | unknown => cases ahead <;> rfl
  | lost => cases ahead <;> rfl

theorem not_evictable_of_unseen (h : p.state = .known → ahead = none) (x : Segment) : ¬Evictable t p params ahead x := by
  rintro ⟨-, -, d, hd, -⟩
  unfold behindRear at hd
  split at hd
  · next hs =>
    rw [h hs] at hd
    cases hd
  · cases hd

theorem evictee_of_known (hknown : p.state = .known) (dir : Sense) : evictee t p params (some dir) =
    furthest (rearMin p params.carLength dir) dir
      (t.filter (·.evictable (rearMin p params.carLength dir) dir (params.uMax + 1000))) := by
  simp only [evictee, hknown]

theorem evictee_none_of (h : ¬∃ x, Evictable t p params ahead x) : evictee t p params ahead = none := by
  by_cases hseen : p.state = .known → ahead = none
  · exact evictee_of_unseen hseen
  · obtain ⟨hknown, hahead⟩ := Classical.not_imp.1 hseen
    obtain ⟨dir, rfl⟩ := Option.ne_none_iff_exists'.1 hahead
    rw [evictee_of_known hknown, List.eq_nil_iff_forall_not_mem.2 fun x hx => h ⟨x, (mem_evictable hknown dir x).2 hx⟩]
    rfl

/-- A record that may be evicted is there, and the one that is lies at least as far behind as any other. -/
theorem evictee_some_of (h : ∃ x, Evictable t p params ahead x) : ∃ old, evictee t p params ahead = some old ∧
    Evictable t p params ahead old ∧ ∀ x d e, Evictable t p params ahead x →
      behindRear p params.carLength ahead x = some d → behindRear p params.carLength ahead old = some e → d ≤ e := by
  obtain ⟨x, hx⟩ := h
  have hseen : ¬(p.state = .known → ahead = none) := fun hunseen => not_evictable_of_unseen hunseen x hx
  obtain ⟨hknown, hahead⟩ := Classical.not_imp.1 hseen
  obtain ⟨dir, rfl⟩ := Option.ne_none_iff_exists'.1 hahead
  rw [evictee_of_known hknown]
  have hmem := (mem_evictable hknown dir x).1 hx
  cases hold : furthest (rearMin p params.carLength dir) dir
      (t.filter (·.evictable (rearMin p params.carLength dir) dir (params.uMax + 1000))) with
  | none => exact absurd (furthest_none hold ▸ hmem) List.not_mem_nil
  | some old =>
    refine ⟨old, rfl, (mem_evictable hknown dir old).2 (furthest_mem hold), fun y d e hy hd he => ?_⟩
    have hle := behind_le_of_furthest hold y ((mem_evictable hknown dir y).1 hy)
    rw [behindRear, if_pos hknown, Option.map_some, Option.some_inj] at hd he
    rwa [hd, he] at hle

end Eviction

/-! ## The store written (R8, R9) -/

theorem write_mismatch (x : Segment) : x.write.mismatch = false := by
  have hbytes : x.write.bytes = x.bytes := rfl
  have hcheck : x.write.check = crc x.bytes := by dsimp only [Segment.write]
  rw [Segment.mismatch, hbytes, hcheck, decide_eq_true rfl]
  exact Bool.and_false _

/-- The part with a new table, its coverage computed afresh and the supervisor told (R9). -/
def Car.withTable (c : Car) (table : List Segment) : Car := { c with
  pst := { c.pst with
    table := table
    coverage := coverageOf (table.filter fun y => !y.checkFailed) c.odo.position c.lif.params.carLength c.odo.travelRef }
  ssv := c.ssv.profileChange }

theorem refreshStore_table (c : Car) {table : List Segment} (h : ∀ y ∈ table, y.mismatch = false) :
    refreshStore { c with pst := { c.pst with table := table } } = c.withTable table := by
  have hintact : Intact { c with pst := { c.pst with table := table } } := h
  rw [refreshStore, hintact.refreshCoverage, hintact.readable]
  rfl

/-- An arriving record as it is stored: pinned when its windows ask for it and there is room, and written. -/
def Car.keeps (c : Car) (x : Segment) (kept : List Segment) : Segment :=
  { x with pinned := pinMatch c.pst.windows x.id && decide (pinnedCount kept < 48) }.write

/-- PIN_FULL of a record whose windows ask for a pin that has no room. -/
def Car.pinning (c : Car) (x : Segment) (kept : List Segment) : Car :=
  if pinMatch c.pst.windows x.id && !decide (pinnedCount kept < 48) then occur .pinFull x.id c else c

theorem storeSegment_eq {c : Car} (hi : Intact c) (x : Segment) {kept : List Segment} (hsub : ∀ y ∈ kept, y ∈ c.pst.table) :
    storeSegment x kept c = (c.pinning x kept).withTable (insertSegment (c.keeps x kept) kept) := by
  have htable : ∀ y ∈ insertSegment (c.keeps x kept) kept, y.mismatch = false := fun y hy => by
    rcases (mem_insertBy ..).1 hy with rfl | hy
    · exact write_mismatch _
    · exact hi y (hsub y hy)
  exact refreshStore_table _ htable

section WithLif
variable {c : Car} {l : Lif} (h : c.lif.SameCar l)
include h

theorem withTable_withLif (table : List Segment) : (c.withLif l).withTable table = (c.withTable table).withLif l := by
  have hlength : (c.withLif l).lif.params = c.lif.params := h.params
  rw [Car.withTable, hlength]
  rfl

theorem pinning_withLif (x : Segment) (kept : List Segment) : (c.withLif l).pinning x kept = (c.pinning x kept).withLif l := by
  rw [Car.pinning, Car.pinning, occur_withLif h, show (c.withLif l).pst = c.pst from rfl]
  split <;> rfl

variable (hi : Intact c)
include hi

theorem Intact.storeSegment_withLif (x : Segment) {kept : List Segment} (hsub : ∀ y ∈ kept, y ∈ c.pst.table) :
    storeSegment x kept (c.withLif l) = (storeSegment x kept c).withLif l := by
  have hi' : Intact (c.withLif l) := hi
  have hsame : (c.pinning x kept).lif.SameCar l := by
    have hlif : (c.pinning x kept).lif = c.lif := by
      unfold Car.pinning
      split <;> rfl
    exact hlif ▸ h
  rw [storeSegment_eq hi' x hsub, storeSegment_eq hi x hsub, pinning_withLif h, withTable_withLif hsame]
  rfl

theorem Intact.judgeArrival_withLif (x : Segment) :
    judgeArrival x (c.withLif l) = ((judgeArrival x c).1, (judgeArrival x c).2.withLif l) := by
  have hsub : ∀ y ∈ c.pst.table.filter fun t => !(t.id == x.id), y ∈ c.pst.table := fun y hy => List.mem_of_mem_filter hy
  have hevictee (t : List Segment) : evictee t c.odo.position l.params c.odo.travelRef =
      evictee t c.odo.position c.lif.params c.odo.travelRef := by rw [h.params]
  simp only [judgeArrival, show (c.withLif l).pst = c.pst from rfl, show (c.withLif l).odo = c.odo from rfl,
    show (c.withLif l).lif = l from rfl, hevictee, hi.storeSegment_withLif h x hsub, occur_withLif h]
  split_ifs
  · rfl
  · rfl
  · rfl
  · split
    · rw [hi.storeSegment_withLif h x fun y hy => hsub y (List.mem_of_mem_filter hy)]
    · rfl

theorem Intact.segmentArrival_withLif (b : SegmentBody) :
    segmentArrival b (c.withLif l) = ((segmentArrival b c).1, (segmentArrival b c).2.withLif l) := by
  unfold segmentArrival
  rw [show (c.withLif l).pst = c.pst from rfl, hi.failures]
  split
  · rfl
  · split
    · rw [if_pos rfl, if_pos rfl, hi.judgeArrival_withLif h]
    · rfl

end WithLif

end Sys2Proof.Machine
end

section
/-! O53: SEGMENT LOAD, SEGMENT REMOVE and PIN WINDOW SET, the coverage and the check word. -/

namespace Sys2Proof.Machine

/-! ## The arrival, case by case (R3 to R7) -/

section Arrival
variable {b : SegmentBody} {x : Segment} {c : Car}

/-- The records beside the one of an arriving record's id. -/
def Pst.others (p : Pst) (id : Nat) : List Segment := p.table.filter fun t => !(t.id == id)

/-- Whether a stored record holds a position of an arriving one. -/
def OverlapsBody (t : List Segment) (b : SegmentBody) : Prop :=
  ∃ x ∈ t, x.low < b.low + b.length ∧ b.low < x.low + x.length

/-- Whether a stored record carries a marker of an arriving one. -/
def SharesMarker (t : List Segment) (b : SegmentBody) : Prop := ∃ x ∈ t, ∃ m ∈ x.markers, ∃ n ∈ b.markers, n.id = m.id

theorem RecordOf.overlaps_iff (h : RecordOf b x) (t : List Segment) :
    (t.any fun y => y.overlaps x.low x.high) = true ↔ OverlapsBody t b := by
  simp only [List.any_eq_true, OverlapsBody, Segment.overlaps, Segment.high, decide_eq_true_iff, h.low, h.length]
  refine exists_congr fun y => and_congr_right fun _ => ?_
  omega

theorem RecordOf.shares_iff (h : RecordOf b x) (t : List Segment) :
    (t.any fun y => y.markers.any fun m => x.markers.any fun n => n.id == m.id) = true ↔ SharesMarker t b := by
  simp only [List.any_eq_true, SharesMarker, h.markers, beq_iff_eq]

theorem segmentArrival_range (h : ¬BodyFits b) : segmentArrival b c = (.range, c) := by
  rw [segmentArrival, bodySegment_none h]

variable (hb : bodySegment b = some x) (hx : RecordOf b x)
include hb hx

theorem segmentArrival_sharedIds (h : ¬(b.markers.map MarkerField.id).Nodup) : segmentArrival b c = (.dupMarker, c) := by
  rw [segmentArrival, hb]
  exact if_neg (by rwa [distinct, decide_eq_true_iff, hx.markers])

variable (hi : Intact c)
include hi

theorem segmentArrival_judged (h : (b.markers.map MarkerField.id).Nodup) : segmentArrival b c = judgeArrival x c := by
  rw [segmentArrival, hb]
  dsimp only
  rw [if_pos (by rwa [distinct, decide_eq_true_iff, hx.markers]), if_pos hi.failures]

theorem segmentArrival_overlap (hids : (b.markers.map MarkerField.id).Nodup) (h : OverlapsBody (c.pst.others b.id) b) :
    segmentArrival b c = (.overlap, c) := by
  rw [segmentArrival_judged hb hx hi hids]
  exact if_pos ((hx.overlaps_iff _).2 (by rw [hx.id]; exact h))

variable (hids : (b.markers.map MarkerField.id).Nodup) (hclear : ¬OverlapsBody (c.pst.others b.id) b)
include hids hclear

theorem segmentArrival_dupMarker (h : SharesMarker (c.pst.others b.id) b) : segmentArrival b c = (.dupMarker, c) := by
  rw [segmentArrival_judged hb hx hi hids]
  unfold judgeArrival
  rw [hx.id]
  exact (if_neg (mt (hx.overlaps_iff (c.pst.others b.id)).1 hclear)).trans (if_pos ((hx.shares_iff (c.pst.others b.id)).2 h))

variable (hnew : ¬SharesMarker (c.pst.others b.id) b)
include hnew

theorem segmentArrival_room (h : (c.pst.others b.id).length < 64) :
    segmentArrival b c = (.accepted, storeSegment x (c.pst.others b.id) c) := by
  rw [segmentArrival_judged hb hx hi hids]
  unfold judgeArrival
  rw [hx.id]
  exact (if_neg (mt (hx.overlaps_iff (c.pst.others b.id)).1 hclear)).trans
    ((if_neg (mt (hx.shares_iff (c.pst.others b.id)).1 hnew)).trans (if_pos h))

variable (hfull : 64 ≤ (c.pst.others b.id).length)
include hfull

theorem segmentArrival_full (h : evictee (c.pst.others b.id) c.odo.position c.lif.params c.odo.travelRef = none) :
    segmentArrival b c = (.storeFull, occur .storeFull b.id c) := by
  rw [segmentArrival_judged hb hx hi hids]
  unfold judgeArrival
  rw [hx.id]
  refine (if_neg (mt (hx.overlaps_iff (c.pst.others b.id)).1 hclear)).trans
    ((if_neg (mt (hx.shares_iff (c.pst.others b.id)).1 hnew)).trans ((if_neg (not_lt.2 hfull)).trans ?_))
  rw [show evictee (c.pst.table.filter fun t => !(t.id == b.id)) c.odo.position c.lif.params c.odo.travelRef = none from h]

theorem segmentArrival_evicts {old : Segment}
    (h : evictee (c.pst.others b.id) c.odo.position c.lif.params c.odo.travelRef = some old) :
    segmentArrival b c = (.accepted, storeSegment x ((c.pst.others b.id).filter fun y => !(y.id == old.id)) c) := by
  rw [segmentArrival_judged hb hx hi hids]
  unfold judgeArrival
  rw [hx.id]
  refine (if_neg (mt (hx.overlaps_iff (c.pst.others b.id)).1 hclear)).trans
    ((if_neg (mt (hx.shares_iff (c.pst.others b.id)).1 hnew)).trans ((if_neg (not_lt.2 hfull)).trans ?_))
  rw [show evictee (c.pst.table.filter fun t => !(t.id == b.id)) c.odo.position c.lif.params c.odo.travelRef = some old from h]
  rfl

end Arrival

/-! ## What a store telegram changes -/

/-- A block that changes the store, the supervisor's evaluations, and what an occurrence changes. -/
def Car.StoreOnly (c d : Car) : Prop :=
  d = { c with pst := d.pst, ssv := d.ssv, evr := d.evr, vrl := d.vrl } ∧ d.ssv.record = c.ssv.record

section StoreOnly
variable {c : Car}

theorem Car.storeOnly_refl (c : Car) : c.StoreOnly c := ⟨rfl, rfl⟩

theorem occur_storeOnly (c : Car) (src : Source) (detail : Nat) : c.StoreOnly (occur src detail c) := ⟨rfl, rfl⟩

theorem pinning_storeOnly (c : Car) (x : Segment) (kept : List Segment) : c.StoreOnly (c.pinning x kept) := by
  unfold Car.pinning
  split
  · exact ⟨rfl, rfl⟩
  · exact ⟨rfl, rfl⟩

theorem Car.StoreOnly.withTable {d : Car} (h : c.StoreOnly d) (table : List Segment) : c.StoreOnly (d.withTable table) := by
  obtain ⟨h, hrecord⟩ := h
  rw [h]
  exact ⟨rfl, hrecord⟩

end StoreOnly

section Telegrams
variable {via : Via} {s : State} (hr : Ready s)
include hr

/-- A store telegram places the result of its block, which leaves the outputs alone. -/
theorem Ready.exec_stored {i : Instr} {t : Telegram} (hi : i.telegram = some (via, t)) (h : Reaches via t s.car)
    (hp : telegramKind t ≠ 40) {kind : Nat} {f : Car → Result × Car} (hdeliver : ∀ c, deliver via t c = reply via kind (f c))
    (hlif : ∀ l, s.car.lif.SameCar l → f (s.car.withLif l) = ((f s.car).1, (f s.car).2.withLif l)) {result : Result} {d : Car}
    (hf : f s.car = (result, d)) (hframe : s.car.StoreOnly d) :
    exec i s = .next ⟨replied via kind result [.none] d, s.pending⟩ := by
  obtain ⟨hframe, hrecord⟩ := hframe
  refine exec_eq_replied_quiet hi hr h hp (by rw [hframe]; exact hr.unreserved) (by rw [hframe]) (by rw [hframe])
    (by rw [hframe]) (congrArg Supervision.hold hrecord) fun n => ?_
  have hreserved := hlif { s.car.lif with reservedReplies := n } ⟨rfl, rfl⟩
  have hreserving : d.reserving n = d.withLif { s.car.lif with reservedReplies := n } := by
    rw [hframe]
    rfl
  rw [hf] at hreserved
  rw [hdeliver, hreserving]
  exact congrArg (reply via kind) hreserved

variable (hi : Intact s.car)
include hi

theorem Ready.exec_segmentLoad {b : SegmentBody} (h : Reaches via (.segmentLoad b) s.car) {result : Result} {d : Car}
    (hf : segmentArrival b s.car = (result, d)) (hframe : s.car.StoreOnly d) :
    exec (.segmentLoad via b) s = .next ⟨replied via 20 result [.none] d, s.pending⟩ :=
  hr.exec_stored rfl h (by simp [telegramKind]) (fun _ => rfl) (fun _ hl => hi.segmentArrival_withLif hl b) hf hframe

end Telegrams

end Sys2Proof.Machine
end

section
/-! O53: SEGMENT REMOVE and PIN WINDOW SET, and the obligation put together. -/

namespace Sys2Proof.Machine

/-! ## SEGMENT REMOVE (R12) -/

section Remove
variable {id : Nat} {c : Car}

/-- Whether a stored record lies under the extent of a KNOWN position. -/
def Car.standsOn (c : Car) (x : Segment) : Prop :=
  c.odo.position.state = .known ∧ (x.low : Int) ≤ extentHigh c.odo.position c.lif.params.carLength ∧
    extentLow c.odo.position c.lif.params.carLength ≤ (x.low : Int) + x.length - 1

theorem standsOn_iff (x : Segment) : c.standsOn x ↔ c.odo.position.state = .known ∧
    x.overlaps (extentLow c.odo.position c.lif.params.carLength) (extentHigh c.odo.position c.lif.params.carLength) = true := by
  rw [Car.standsOn, Segment.overlaps, decide_eq_true_iff, Segment.high]

theorem segmentRemove_range (h : 1023 < id) : segmentRemove id c = (.range, c) := if_pos h

theorem Intact.withTable_eq (hi : Intact c) (p : Segment → Bool) :
    refreshStore { c with pst := { c.pst with table := c.pst.table.filter p } } = c.withTable (c.pst.table.filter p) :=
  refreshStore_table c fun y hy => hi y (List.mem_of_mem_filter hy)

variable (hi : Intact c)
include hi

theorem Intact.segmentRemove_withLif {l : Lif} (h : c.lif.SameCar l) :
    segmentRemove id (c.withLif l) = ((segmentRemove id c).1, (segmentRemove id c).2.withLif l) := by
  have hi' : Intact (c.withLif l) := hi
  have hrefresh := (hi'.withTable_eq fun s => !(s.id == id)).trans ((withTable_withLif h _).trans
    (congrArg (fun d : Car => d.withLif l) (hi.withTable_eq _).symm))
  have hparams : (c.withLif l).lif.params = c.lif.params := h.params
  unfold segmentRemove
  rw [hparams, if_neg (not_not_intro hi'.failures), if_neg (not_not_intro hi.failures)]
  split_ifs
  · rfl
  · rw [show (c.withLif l).pst = c.pst from rfl]
    split
    · rfl
    · dsimp only
      rw [show (c.withLif l).odo = c.odo from rfl]
      split
      · rfl
      · exact congrArg (Prod.mk Result.accepted) hrefresh

variable (hid : id ≤ 1023)
include hid

theorem segmentRemove_notFound (h : ∀ x ∈ c.pst.table, x.id ≠ id) : segmentRemove id c = (.notFound, c) := by
  have hfind : (c.pst.table.find? fun s => s.id == id) = none :=
    List.find?_eq_none.2 fun x hx => by rw [beq_iff_eq]; exact h x hx
  rw [segmentRemove, if_neg (not_lt.2 hid), if_neg (not_not_intro hi.failures), hfind]

variable {x : Segment} (hx : (c.pst.table.find? fun y => y.id == id) = some x)
include hx

theorem segmentRemove_found : segmentRemove id c = if c.odo.position.state = .known ∧
    x.overlaps (extentLow c.odo.position c.lif.params.carLength) (extentHigh c.odo.position c.lif.params.carLength) then (.inUse, c)
    else (.accepted, c.withTable (c.pst.table.filter fun s => !(s.id == id))) := by
  rw [segmentRemove, if_neg (not_lt.2 hid), if_neg (not_not_intro hi.failures), hx, ← hi.withTable_eq]

theorem segmentRemove_inUse (h : c.standsOn x) : segmentRemove id c = (.inUse, c) := by
  rw [segmentRemove_found hi hid hx]
  exact if_pos ((standsOn_iff x).1 h)

theorem segmentRemove_accepted (h : ¬c.standsOn x) :
    segmentRemove id c = (.accepted, c.withTable (c.pst.table.filter fun s => !(s.id == id))) := by
  rw [segmentRemove_found hi hid hx]
  exact if_neg (mt (standsOn_iff x).2 h)

end Remove

/-! ## PIN WINDOW SET (R10, R11) -/

theorem pinMatch_eq (ws : List Window) (n : Nat) :
    pinMatch ws n = ws.any fun w => w.valid && (n &&& w.mask == w.value &&& w.mask) := rfl

theorem repin_eq (ws : List Window) (x : Segment) : x.repin ws = if x.pinned = pinMatch ws x.id then x else
    { x with
      pinned := pinMatch ws x.id
      check := crc { x with pinned := pinMatch ws x.id }.bytes
      checkFailed := false } := by
  rw [Segment.repin, Segment.write]
  by_cases h : pinMatch ws x.id = x.pinned
  · rw [if_pos h, if_pos h.symm]
  · rw [if_neg h, if_neg (Ne.symm h)]

section Pin
variable {window value mask : Nat} {valid : Bool} {c : Car}

theorem pinWindowSet_range (h : window < 1 ∨ 4 < window ∨ 1023 < value ∨ 1023 < mask) :
    pinWindowSet window valid value mask c = (.range, c) := if_pos h

variable (hi : Intact c)
include hi

theorem Intact.pinWindowSet_withLif (l : Lif) : pinWindowSet window valid value mask (c.withLif l) =
    ((pinWindowSet window valid value mask c).1, (pinWindowSet window valid value mask c).2.withLif l) := by
  have hi' : Intact (c.withLif l) := hi
  unfold pinWindowSet
  rw [if_neg (not_not_intro hi'.failures), if_neg (not_not_intro hi.failures), show (c.withLif l).pst = c.pst from rfl]
  dsimp only
  split_ifs <;> rfl

variable (h1 : 1 ≤ window) (h4 : window ≤ 4) (hvalue : value ≤ 1023) (hmask : mask ≤ 1023)
include h1 h4 hvalue hmask

/-- The windows with one of them set. -/
def Pst.windowSet (p : Pst) (window : Nat) (valid : Bool) (value mask : Nat) : List Window :=
  p.windows.set (window - 1) ⟨valid, value, mask⟩

theorem pinWindowSet_limit
    (h : 48 < (c.pst.table.filter fun s => pinMatch (c.pst.windowSet window valid value mask) s.id).length) :
    pinWindowSet window valid value mask c = (.pinLimit, c) := by
  rw [pinWindowSet, if_neg (by omega), hi.failures]
  exact if_pos h

theorem pinWindowSet_accepted
    (h : (c.pst.table.filter fun s => pinMatch (c.pst.windowSet window valid value mask) s.id).length ≤ 48) :
    pinWindowSet window valid value mask c = (.accepted, { c with
      pst := { c.pst with
        windows := c.pst.windowSet window valid value mask
        table := c.pst.table.map (·.repin (c.pst.windowSet window valid value mask)) } }) := by
  rw [pinWindowSet, if_neg (by omega), hi.failures]
  exact if_neg (not_lt.2 h)

end Pin

end Sys2Proof.Machine
end

section
/-! O53: the stored record, and the obligation put together. -/

namespace Sys2Proof.Machine

/-! ## The record that an arrival leaves stored (R8) -/

theorem RecordOf.keeps {b : SegmentBody} {x : Segment} (h : RecordOf b x) (c : Car) (kept : List Segment) :
    RecordOf b (c.keeps x kept) :=
  ⟨h.id, h.low, h.length, h.gradient, h.upLimit, h.downLimit, h.markers, h.shadow, h.kind, h.platform⟩

theorem keeps_check (c : Car) (x : Segment) (kept : List Segment) : (c.keeps x kept).check = crc (c.keeps x kept).bytes := by
  have hbytes : (c.keeps x kept).bytes = { x with pinned := pinMatch c.pst.windows x.id && decide (pinnedCount kept < 48) }.bytes :=
    rfl
  rw [hbytes]
  dsimp only [Car.keeps, Segment.write]

theorem keeps_pinned_iff (c : Car) (x : Segment) (kept : List Segment) : (c.keeps x kept).pinned = true ↔
    pinMatch c.pst.windows x.id = true ∧ pinnedCount kept < 48 := by
  rw [← decide_eq_true_iff (p := pinnedCount kept < 48), ← Bool.and_eq_true]
  rfl

theorem pinning_evr (c : Car) (x : Segment) (kept : List Segment) : (c.pinning x kept).evr =
    if pinMatch c.pst.windows x.id = true ∧ ¬pinnedCount kept < 48 then c.evr.take c.now .pinFull x.id else c.evr := by
  have hiff : (pinMatch c.pst.windows x.id && !decide (pinnedCount kept < 48)) = true ↔
      pinMatch c.pst.windows x.id = true ∧ ¬pinnedCount kept < 48 := by
    rw [Bool.and_eq_true, Bool.not_eq_true', decide_eq_false_iff_not]
  unfold Car.pinning
  by_cases h : pinMatch c.pst.windows x.id = true ∧ ¬pinnedCount kept < 48
  · rw [if_pos (hiff.2 h), if_pos h]
    rfl
  · rw [if_neg (mt hiff.1 h), if_neg h]

theorem pinning_link (c : Car) (x : Segment) (kept : List Segment) : (c.pinning x kept).vrl.link = c.vrl.link := by
  unfold Car.pinning
  split
  · exact (occur_sameLink ..).link
  · rfl

theorem pinning_frame (c : Car) (x : Segment) (kept : List Segment) :
    c.pinning x kept = { c with evr := (c.pinning x kept).evr, vrl := (c.pinning x kept).vrl } := by
  unfold Car.pinning
  split
  · rfl
  · rfl

/-- A record takes its place in a table in increasing order of low (R1). -/
theorem insertSegment_ordered (x : Segment) {t : List Segment} (h : t.Pairwise fun a b => a.low ≤ b.low) :
    (insertSegment x t).Pairwise fun a b => a.low ≤ b.low :=
  insertBy_pairwise (fun _ _ _ => le_trans) (fun _ _ h => of_decide_eq_true h)
    (fun _ _ h => (not_le.1 (of_decide_eq_false h)).le) h

theorem insertSegment_length (x : Segment) (t : List Segment) : (insertSegment x t).length = t.length + 1 :=
  (insertBy_perm ..).length_eq

/-- How far a record lies behind, written out. -/
theorem behindRear_known {p : PositionRecord} (h : p.state = .known) (carLength : Nat) (ahead : Option Sense) (x : Segment) :
    behindRear p carLength ahead x = ahead.map fun dir => x.behind (rearMin p carLength dir) dir := if_pos h

theorem behindRear_unknown {p : PositionRecord} (h : p.state ≠ .known) (carLength : Nat) (ahead : Option Sense) (x : Segment) :
    behindRear p carLength ahead x = none := if_neg h

section Telegrams
variable {via : Via} {s : State} (hr : Ready s) (hi : Intact s.car) {result : Result} {d : Car} (hframe : s.car.StoreOnly d)
include hr hi hframe

theorem Ready.exec_segmentRemove {id : Nat} (h : Reaches via (.segmentRemove id) s.car)
    (hf : segmentRemove id s.car = (result, d)) :
    exec (.segmentRemove via id) s = .next ⟨replied via 21 result [.none] d, s.pending⟩ :=
  hr.exec_stored rfl h (by simp [telegramKind]) (fun _ => rfl) (fun _ hl => hi.segmentRemove_withLif hl) hf hframe

theorem Ready.exec_pinWindowSet {window value mask : Nat} {valid : Bool}
    (h : Reaches via (.pinWindowSet window valid value mask) s.car)
    (hf : pinWindowSet window valid value mask s.car = (result, d)) :
    exec (.pinWindowSet via window valid value mask) s = .next ⟨replied via 22 result [.none] d, s.pending⟩ :=
  hr.exec_stored rfl h (by simp [telegramKind]) (fun _ => rfl) (fun l _ => hi.pinWindowSet_withLif l) hf hframe

end Telegrams

/-- Settles O53: the coverage is a run of abutting records, the check word is taken bit by bit, and each store telegram is the
result of its block on a table whose records pass their check. -/
theorem storeTakesSegments : Obligations.StoreTakesSegments := by
  refine ⟨fun t p carLength dir => ⟨?_, fun h => coverageOf_unknown h _, fun hknown horder hlength => ?_⟩, crc_eq_bits,
    fun x hlow hhigh => ?_, fun via b id window value mask valid s hr hi => ?_⟩
  · cases hs : p.state <;> simp only [coverageOf, hs]
  · intro rear holds abuts
    cases dir with
    | up =>
      exact ⟨coverageOf_empty (carLength := carLength) (dir := .up) hknown, fun first hfirst hheld =>
        coverageOf_run_up hknown horder hlength hfirst ((holds_iff first _).2 hheld)⟩
    | down =>
      exact ⟨coverageOf_empty (carLength := carLength) (dir := .down) hknown, fun first hfirst hheld =>
        coverageOf_run_down hknown horder hlength hfirst ((holds_iff first _).2 hheld)⟩
  · intro bytes flag
    refine (x.bytes_toNat hlow hhigh).trans ?_
    cases x.kind <;> rcases x.platform with _ | ⟨_ | _ | _, _, _⟩ <;> rfl
  · intro p params half refused fits others overlaps dup behind candidate hits taken
    have hbehind (x : Segment) : behind x = behindRear p params.carLength s.car.odo.travelRef x := by
      unfold behind
      cases hs : p.state with
      | known =>
        rw [behindRear_known hs]
        rcases s.car.odo.travelRef with _ | _ | _ <;> rfl
      | unknown => rw [behindRear_unknown (by rw [hs]; nofun)]
      | lost => rw [behindRear_unknown (by rw [hs]; nofun)]
    have htaken (kept : List Segment) (x : Segment) (hx : RecordOf b x) (hsub : kept.Sublist s.car.pst.table)
        (h : Reaches via (.segmentLoad b) s.car)
        (hf : segmentArrival b s.car = (.accepted, storeSegment x kept s.car)) : taken kept := by
      rw [storeSegment_eq hi x fun y hy => hsub.subset hy] at hf
      have hexec := hr.exec_segmentLoad hi h hf ((pinning_storeOnly ..).withTable _)
      have hx' := hx.keeps s.car kept
      have hpinned := keeps_pinned_iff s.car x kept
      have hevr := pinning_evr s.car x kept
      have hlink := pinning_link s.car x kept
      rw [hx.id] at hpinned hevr
      rw [pinning_frame] at hexec
      refine ⟨_, s.car.keeps x kept, hexec, rfl, fun y => mem_insertBy .., insertSegment_length ..,
        fun horder => insertSegment_ordered _ (horder.sublist hsub), hx'.id, hx'.low, hx'.length, hx'.gradient, hx'.upLimit,
        hx'.downLimit, hx'.markers, hx'.shadow, ?_, ?_, hpinned, keeps_check .., rfl, rfl, ?_, rfl, rfl, rfl, ?_, hevr, rfl, rfl,
        rfl, rfl⟩
      · have hkind := hx'.kind
        have hlt : b.kindByte % 4 < 4 := Nat.mod_lt _ (by decide)
        generalize b.kindByte % 4 = n at hkind hlt
        interval_cases n
        · exact (Option.some.inj hkind).symm
        · exact (Option.some.inj hkind).symm
        · exact (Option.some.inj hkind).symm
        · cases hkind
      · have hplatform := hx'.platform
        have hlt : b.kindByte / 8 % 4 < 4 := Nat.mod_lt _ (by decide)
        rw [hplatform]
        generalize b.kindByte / 8 % 4 = n at hlt
        interval_cases n <;> rfl
      · have hintact : Intact ((s.car.pinning x kept).withTable (insertSegment (s.car.keeps x kept) kept)) := fun y hy => by
          rcases (mem_insertBy ..).1 hy with rfl | hy
          · exact write_mismatch _
          · exact hi y (hsub.subset hy)
        rw [pinning_frame] at hintact
        exact congrArg (fun t => coverageOf t p params.carLength s.car.odo.travelRef) hintact.readable.symm
      · exact congrArg (fun link => s.car.lif.answered link via 20 .accepted [.none]) hlink
    have hsub : others.Sublist s.car.pst.table := List.filter_sublist
    refine ⟨fun h => ⟨fun hbad => ?_, fun hfits hids => ?_, fun hfits hids hover => ?_, fun hfits hids hclear hdup => ?_,
      fun hfits hids hclear hnew => ⟨fun hroom => ?_, fun hfull hno => ?_, fun hfull hsome => ?_⟩⟩,
      fun h => ⟨fun hid => ?_, fun hid hnone => ?_, fun x hid hx => ?_⟩, fun h => ?_⟩
    · exact hr.exec_segmentLoad hi h (segmentArrival_range hbad) (Car.storeOnly_refl _)
    · obtain ⟨x, hb, hx⟩ := bodySegment_some hfits
      exact hr.exec_segmentLoad hi h (segmentArrival_sharedIds hb hx hids) (Car.storeOnly_refl _)
    · obtain ⟨x, hb, hx⟩ := bodySegment_some hfits
      exact hr.exec_segmentLoad hi h (segmentArrival_overlap hb hx hi hids hover) (Car.storeOnly_refl _)
    · obtain ⟨x, hb, hx⟩ := bodySegment_some hfits
      exact hr.exec_segmentLoad hi h (segmentArrival_dupMarker hb hx hi hids hclear hdup) (Car.storeOnly_refl _)
    · obtain ⟨x, hb, hx⟩ := bodySegment_some hfits
      exact htaken others x hx hsub h (segmentArrival_room hb hx hi hids hclear hnew hroom)
    · obtain ⟨x, hb, hx⟩ := bodySegment_some hfits
      refine hr.exec_segmentLoad hi h (segmentArrival_full hb hx hi hids hclear hnew hfull (evictee_none_of fun ⟨y, hy⟩ => hno ?_))
        (occur_storeOnly ..)
      obtain ⟨hmem, hpin, hdist⟩ := hy
      exact ⟨y, hmem, hpin, by rwa [hbehind]⟩
    · obtain ⟨x, hb, hx⟩ := bodySegment_some hfits
      have hcandidate (y : Segment) : candidate y ↔ Evictable others p params s.car.odo.travelRef y := by
        unfold candidate
        rw [hbehind]
        exact Iff.rfl
      obtain ⟨old, hold, hmay, hmost⟩ := evictee_some_of (hsome.imp fun y hy => (hcandidate y).1 hy)
      refine ⟨old, (hcandidate old).2 hmay, fun y d e hy hd he => ?_, ?_⟩
      · exact hmost y d e ((hcandidate y).1 hy) ((hbehind y).symm.trans hd) ((hbehind old).symm.trans he)
      · exact htaken _ x hx (List.filter_sublist.trans hsub) h (segmentArrival_evicts hb hx hi hids hclear hnew hfull hold)
    · exact hr.exec_segmentRemove hi (Car.storeOnly_refl _) h (segmentRemove_range hid)
    · exact hr.exec_segmentRemove hi (Car.storeOnly_refl _) h (segmentRemove_notFound hi hid hnone)
    · intro stands
      refine ⟨fun hstands => ?_, fun hclear => ⟨_, rfl, ?_⟩⟩
      · exact hr.exec_segmentRemove hi (Car.storeOnly_refl _) h (segmentRemove_inUse hi hid hx hstands)
      · exact hr.exec_segmentRemove hi ((Car.storeOnly_refl _).withTable _) h (segmentRemove_accepted hi hid hx hclear)
    · intro i ws matching pinnedAs
      refine ⟨fun hbad => ?_, fun h1 h4 hvalue hmask => ⟨fun hlimit => ?_, fun hlimit => ?_⟩⟩
      · exact hr.exec_pinWindowSet hi (Car.storeOnly_refl _) h (pinWindowSet_range hbad)
      · exact hr.exec_pinWindowSet hi (Car.storeOnly_refl _) h (pinWindowSet_limit hi h1 h4 hvalue hmask hlimit)
      · have htable : s.car.pst.table.map (·.repin ws) = s.car.pst.table.map fun x => if x.pinned = matching x.id then x
            else { pinnedAs x with check := crc (pinnedAs x).bytes, checkFailed := false } :=
          List.map_congr_left fun x _ => repin_eq ws x
        rw [← htable]
        have hf := pinWindowSet_accepted (valid := valid) hi h1 h4 hvalue hmask hlimit
        refine hr.exec_pinWindowSet hi ?_ h hf
        exact ⟨rfl, rfl⟩

end Sys2Proof.Machine
end

section
/-! What a few occurrences do to the radio record: in a follower nothing, in the radio car at most one more report each. -/

namespace Sys2Proof.Machine

/-! ## Event sources that differ in their pending flags alone -/

/-- Two event records whose sources report alike: level, enable and route of each are the same. -/
def Evr.SameSources (e f : Evr) : Prop := e.sources.length = f.sources.length ∧
  ∀ n, (f.source n).level = (e.source n).level ∧ (f.source n).enable = (e.source n).enable ∧ (f.source n).route = (e.source n).route

theorem Evr.SameSources.refl (e : Evr) : e.SameSources e := ⟨rfl, fun _ => ⟨rfl, rfl, rfl⟩⟩

theorem Evr.SameSources.trans {e f g : Evr} (h : e.SameSources f) (k : f.SameSources g) : e.SameSources g := by
  obtain ⟨hlength, hsource⟩ := h
  obtain ⟨klength, ksource⟩ := k
  refine ⟨hlength.trans klength, fun n => ?_⟩
  obtain ⟨h1, h2, h3⟩ := hsource n
  obtain ⟨k1, k2, k3⟩ := ksource n
  exact ⟨k1.trans h1, k2.trans h2, k3.trans h3⟩

theorem Evr.modify_pending_sameSources (e : Evr) (k : Nat) (b : Bool) :
    e.SameSources (e.modify k fun r => { r with pending := b }) := by
  refine ⟨(List.length_modify ..).symm, fun n => ?_⟩
  by_cases hn : k = n
  · by_cases hlt : n < e.sources.length
    · rw [hn, Evr.source_modify_self e _ hlt]
      exact ⟨rfl, rfl, rfl⟩
    · have hout : (e.modify k fun r => { r with pending := b }).sources.length ≤ n := by
        rw [show (e.modify k fun r => { r with pending := b }).sources.length = e.sources.length from List.length_modify ..]
        omega
      rw [Evr.source, Evr.source, List.getD_eq_default _ _ hout, List.getD_eq_default _ _ (by omega)]
      exact ⟨rfl, rfl, rfl⟩
  · rw [Evr.source_modify_ne e _ hn]
    exact ⟨rfl, rfl, rfl⟩

theorem Evr.take_sameSources (e : Evr) (now : Stamp) (src : Source) (detail : Nat) : e.SameSources (e.take now src detail) := by
  obtain ⟨-, hsource⟩ := e.modify_pending_sameSources src.number true
  refine ⟨(Evr.take_length ..).symm, fun n => ?_⟩
  rw [Evr.take_source]
  exact hsource n

/-- The alarm of an occurrence depends on the part's number and parameters, the time, and the way its source reports. -/
theorem alarmed_congr {c d : Car} (hvrl : d.vrl = c.vrl) (hlif : c.lif.SameCar d.lif) (hnow : d.now = c.now)
    (hevr : c.evr.SameSources d.evr) (src : Source) (detail : Nat) : alarmed d src detail = alarmed c src detail := by
  obtain ⟨hlevel, henable, hroute⟩ := hevr.2 src.number
  unfold alarmed SourceRecord.reports
  dsimp only
  rw [hvrl, hlif.params, hlif.number, hnow, hlevel, henable, hroute]

/-! ## Alarms in the report queue -/

/-- What at most `k` alarms leave of a report queue while the transmit is busy. -/
def Vrl.Alarmed (k : Nat) (v w : Vrl) : Prop :=
  v.transmit ≠ none → w.transmit = v.transmit ∧ w.reports.length ≤ v.reports.length + k

theorem Vrl.pump_busy {v : Vrl} (h : v.transmit ≠ none) (train : Nat) : v.pump train = v := by
  obtain ⟨t, ht⟩ := Option.ne_none_iff_exists'.1 h
  simp only [Vrl.pump, ht]

theorem Vrl.join_transmit (v : Vrl) (r : Report) : (v.join r).transmit = v.transmit := by
  rw [Vrl.join_frame]

theorem Vrl.join_length_succ (v : Vrl) (r : Report) : (v.join r).reports.length ≤ v.reports.length + 1 := by
  unfold Vrl.join
  split
  · rw [List.length_append, List.length_singleton]
  · cases r with
    | position p =>
      dsimp only
      split
      · next q hq =>
        have := removeFirst_length hq
        rw [List.length_append, List.length_singleton]
        omega
      · exact Nat.le_succ _
    | alarm source level stamp detail car => exact Nat.le_succ _
    | ack number result ok duplicate relay =>
      dsimp only
      split
      · next q hq =>
        have := removeFirst_length hq
        rw [List.length_append, List.length_singleton]
        omega
      · dsimp only
        rw [List.length_append, List.length_singleton, List.length_drop]
        omega

theorem Vrl.queueReport_alarmed (v : Vrl) (train : Nat) (r : Report) : v.Alarmed 1 (v.queueReport train r) := by
  intro hbusy
  unfold Vrl.queueReport
  split
  · rw [Vrl.pump_busy (by rwa [Vrl.join_transmit])]
    exact ⟨Vrl.join_transmit .., Vrl.join_length_succ ..⟩
  · exact ⟨rfl, by omega⟩

/-- What occurrences and conditions handed on leave of the events and of the radio record: at most `k` alarms. -/
structure Alarms (k : Nat) (c d : Car) : Prop where
  now : d.now = c.now
  lif : d.lif = c.lif
  sources : c.evr.SameSources d.evr
  link : c.vrl.SameLink d.vrl
  follower : c.vrl.role = .follower → d.vrl = c.vrl
  reports : c.vrl.Alarmed k d.vrl

section Alarms
variable {k l : Nat} {c d e : Car}

theorem alarms_of {d : Car} (hnow : d.now = c.now) (hlif : d.lif = c.lif) (hevr : d.evr = c.evr) (hvrl : d.vrl = c.vrl) :
    Alarms k c d :=
  ⟨hnow, hlif, by rw [hevr]; exact .refl _, by rw [hvrl]; exact .refl _, fun _ => hvrl,
    fun _ => ⟨by rw [hvrl], by rw [hvrl]; omega⟩⟩

theorem Alarms.refl (k : Nat) (c : Car) : Alarms k c c := alarms_of rfl rfl rfl rfl

theorem Alarms.trans (h : Alarms k c d) (j : Alarms l d e) : Alarms (k + l) c e := by
  have hrole : d.vrl.role = c.vrl.role := by rw [h.link]
  refine ⟨j.now.trans h.now, j.lif.trans h.lif, h.sources.trans j.sources, h.link.trans j.link,
    fun hf => (j.follower (hrole.trans hf)).trans (h.follower hf), fun hbusy => ?_⟩
  obtain ⟨htransmit, hlength⟩ := h.reports hbusy
  obtain ⟨jtransmit, jlength⟩ := j.reports (by rwa [htransmit])
  exact ⟨jtransmit.trans htransmit, by omega⟩

theorem Alarms.mono (h : Alarms k c d) (hle : k ≤ l) : Alarms l c d :=
  ⟨h.now, h.lif, h.sources, h.link, h.follower, fun hbusy => (h.reports hbusy).imp_right fun hl => by omega⟩

/-- What goes before the alarms may change anything but the events, the radio record, the time and the line record. -/
theorem Alarms.of_before (h : Alarms k d e) (hnow : d.now = c.now) (hlif : d.lif = c.lif) (hevr : d.evr = c.evr)
    (hvrl : d.vrl = c.vrl) : Alarms k c e :=
  ((alarms_of (k := 0) hnow hlif hevr hvrl).trans h).mono (Nat.zero_add k).le

theorem occur_alarms (c : Car) (src : Source) (detail : Nat) : Alarms 1 c (occur src detail c) := by
  refine ⟨rfl, rfl, Evr.take_sameSources .., occur_sameLink .., fun h => alarmed_follower h .., ?_⟩
  show c.vrl.Alarmed 1 (alarmed c src detail)
  unfold alarmed
  dsimp only
  split
  · exact Vrl.queueReport_alarmed _ _ _
  · exact fun _ => ⟨rfl, by omega⟩

theorem levelChange_alarms (c : Car) (src : Source) (before after : Bool) (detail : Nat) :
    Alarms 1 c (levelChange src before after detail c) := by
  unfold levelChange
  split
  · exact .refl 1 c
  · split
    · exact occur_alarms ..
    · exact ⟨rfl, rfl, Evr.modify_pending_sameSources .., .refl _, fun _ => rfl,
        fun _ => ⟨rfl, Nat.le_succ _⟩⟩

theorem abortTest_alarms (c : Car) : Alarms 1 c (abortTest c) := by
  unfold abortTest
  split
  · exact .refl 1 c
  · exact (occur_alarms { c with brk := _ } ..).of_before rfl rfl rfl rfl
  · exact (occur_alarms { c with brk := _ } ..).of_before rfl rfl rfl rfl

theorem addCause_alarms (c : Car) (cause : Cause) (present : Bool) : Alarms 2 c (addCause cause present c) := by
  unfold addCause
  split
  · exact alarms_of rfl rfl rfl rfl
  · dsimp only
    split
    · exact ((abortTest_alarms { c with brk := _ }).mono (l := 2) (by decide)).of_before rfl rfl rfl rfl
    · exact ((occur_alarms { c with brk := _ } ..).trans (abortTest_alarms _)).of_before rfl rfl rfl rfl

theorem causeStart_alarms (c : Car) (cause : Cause) : Alarms 2 c (causeStart cause c) :=
  (addCause_alarms { c with brk := _ } ..).of_before rfl rfl rfl rfl

theorem handLists_alarms (c : Car) (before : Ssv) (changed : Bool) : Alarms 1 c (handLists before changed c) := by
  refine (levelChange_alarms ..).of_before ?_ ?_ ?_ ?_ <;> cases changed <;> rfl

end Alarms

end Sys2Proof.Machine
end

section
/-! What an order from the valley does to the car's own blocks (R160 to R162, R165). -/

namespace Sys2Proof.Machine

/-! ## An order executed -/

/-- An order executed: its result, the stop number it leaves, and the part apart from that number. -/
structure Ordered (o : Order) (number : Nat) (c : Car) (result : Result) (stop : Option Nat) (d : Car) : Prop where
  eq : executeOrder o number c = (result, { d with vrl := { d.vrl with stopNumber := stop } })
  alarms : Alarms 2 c d
  tlf : d.tlf = c.tlf
  odo : d.odo = c.odo
  dor : d.dor = c.dor

section Orders
variable (number : Nat) (c : Car)

theorem ordered_remoteStop_again (h : c.brk.conditions.radioStop = true) :
    Ordered .remoteStop number c .accepted (some number) c := by
  refine ⟨?_, .refl 2 c, rfl, rfl, rfl⟩
  rw [executeOrder, remoteStop, h]
  rfl

theorem ordered_remoteStop_new (h : c.brk.conditions.radioStop = false) :
    Ordered .remoteStop number c .accepted (some number) (causeStart .radioStop c) := by
  refine ⟨?_, causeStart_alarms .., causeStart_tlf .., causeStart_odo .., causeStart_dor ..⟩
  rw [executeOrder, remoteStop, h]
  rfl

variable {number c} {named : Nat}

theorem ordered_stopRelease_taken (h : c.brk.conditions.radioStop = true) (hstop : c.vrl.stopNumber = some named) :
    Ordered (.stopRelease named) number c .accepted none (causeEnd .radioStop c) := by
  refine ⟨?_, alarms_of rfl rfl rfl rfl, rfl, rfl, rfl⟩
  rw [executeOrder, stopRelease, if_pos h, if_pos hstop]

theorem ordered_stopRelease_other (h : c.brk.conditions.radioStop = true) (hstop : c.vrl.stopNumber ≠ some named) :
    Ordered (.stopRelease named) number c .state c.vrl.stopNumber c := by
  refine ⟨?_, .refl 2 c, rfl, rfl, rfl⟩
  rw [executeOrder, stopRelease, if_pos h, if_neg hstop]

theorem ordered_stopRelease_unheld (h : c.brk.conditions.radioStop = false) :
    Ordered (.stopRelease named) number c .notFound c.vrl.stopNumber c := by
  refine ⟨?_, .refl 2 c, rfl, rfl, rfl⟩
  rw [executeOrder, stopRelease, if_neg (by rw [h]; nofun)]

theorem Alarms.stopNumber {k : Nat} {d : Car} (h : Alarms k c d) : d.vrl.stopNumber = c.vrl.stopNumber := by rw [h.link]

/-- An order that leaves the stop number as it was. -/
theorem Ordered.of_result {o : Order} {d : Car} {result : Result} (heq : executeOrder o number c = (result, d))
    (halarms : Alarms 2 c d) (htlf : d.tlf = c.tlf) (hodo : d.odo = c.odo) (hdor : d.dor = c.dor) :
    Ordered o number c result c.vrl.stopNumber d := by
  refine ⟨?_, halarms, htlf, hodo, hdor⟩
  rw [heq, ← halarms.stopNumber]

/-! ## The restriction orders -/

section Lists
variable (id low high speed appliesTo : Nat)

theorem restrictionAdd_alarms (origin : Origin) :
    Alarms 1 c (restrictionAdd id low high speed appliesTo origin c).2 := by
  unfold restrictionAdd
  split
  · exact .refl 1 c
  · split
    · exact (handLists_alarms ..).of_before rfl rfl rfl rfl
    · exact (handLists_alarms ..).of_before rfl rfl rfl rfl

theorem restrictionCancel_alarms : Alarms 1 c (restrictionCancel id c).2 := by
  unfold restrictionCancel
  split
  · exact .refl 1 c
  · split
    · exact (handLists_alarms ..).of_before rfl rfl rfl rfl
    · exact .refl 1 c

theorem ordered_restrictionAdd : Ordered (.restrictionAdd id low high speed appliesTo) number c
    (restrictionAdd id low high speed appliesTo (.radio number) c).1 c.vrl.stopNumber
    (restrictionAdd id low high speed appliesTo (.radio number) c).2 := by
  have hframe := restrictionAdd_listsOnly id low high speed appliesTo (.radio number) c
  exact .of_result rfl ((restrictionAdd_alarms ..).mono (by decide)) (congrArg Car.tlf hframe :) (congrArg Car.odo hframe :)
    (congrArg Car.dor hframe :)

theorem ordered_restrictionCancel : Ordered (.restrictionCancel id) number c (restrictionCancel id c).1 c.vrl.stopNumber
    (restrictionCancel id c).2 := by
  have hframe := restrictionCancel_listsOnly id c
  exact .of_result rfl ((restrictionCancel_alarms ..).mono (by decide)) (congrArg Car.tlf hframe :) (congrArg Car.odo hframe :)
    (congrArg Car.dor hframe :)

variable {id low high speed appliesTo}

/-- A request with a field out of range (R85). -/
theorem restrictionAdd_unfit {origin : Origin}
    (h : ¬(1 ≤ id ∧ id ≤ 255 ∧ low ≤ high ∧ high ≤ 1999999 ∧ AppliesTo.ofCode appliesTo ≠ none)) :
    restrictionAdd id low high speed appliesTo origin c = (.range, c) := by
  refine restrictionAdd_range ?_
  by_cases ha : AppliesTo.ofCode appliesTo = none
  · exact .inr ha
  · exact .inl fun ⟨h1, h255, hlow, hhigh, hle⟩ => h ⟨h1, h255, hle, hhigh, ha⟩

section Fit
variable (h : 1 ≤ id ∧ id ≤ 255 ∧ low ≤ high ∧ high ≤ 1999999 ∧ AppliesTo.ofCode appliesTo ≠ none)
include h

/-- A request that takes a place, or that of its id, leaves the radio record as it was (R86, R91). -/
theorem restrictionAdd_listed {origin : Origin} {a : AppliesTo} (ha : AppliesTo.ofCode appliesTo = some a)
    (hroom : c.ssv.restrictions.length < 16 ∨ ∃ r ∈ c.ssv.restrictions, r.id = id) {r : Result × Car}
    (hr : r = restrictionAdd id low high speed appliesTo origin c) :
    r.1 = (if speed ≤ 40 then .accepted else .acceptedClamped) ∧ r.2.vrl = c.vrl ∧
    (∀ x, x ∈ r.2.ssv.restrictions ↔ x = ⟨id, low, high, min 40 speed, a, origin⟩ ∨ (x ∈ c.ssv.restrictions ∧ x.id ≠ id)) ∧
    r.2.ssv.waiting.cause = true := by
  obtain ⟨h1, h255, hle, hhigh, -⟩ := h
  rw [restrictionAdd_taken ⟨h1, h255, hle.trans hhigh, hhigh, hle⟩ ha hroom.symm,
    handLists_shrunk fun hnil => withoutOverflow_of_nil id hnil] at hr
  rw [hr]
  exact ⟨rfl, rfl, fun x => Ssv.mem_acceptRestriction c.ssv ⟨id, low, high, min 40 speed, a⟩ origin x, rfl⟩

/-- A request of a new id that finds the list full leaves its mark in the overflow list (R88). -/
theorem restrictionAdd_refused {origin : Origin} (hfull : 16 ≤ c.ssv.restrictions.length)
    (hnew : ∀ r ∈ c.ssv.restrictions, r.id ≠ id) {r : Result × Car}
    (hr : r = restrictionAdd id low high speed appliesTo origin c) :
    r.1 = .listFull ∧ r.2.ssv.restrictions = c.ssv.restrictions ∧
    ((∃ x ∈ r.2.ssv.overflow, x.id = id ∧ x.speed ≤ min 40 speed) ∨ r.2.ssv.saturated = true) := by
  obtain ⟨h1, h255, hle, hhigh, ha⟩ := h
  obtain ⟨a, ha⟩ := Option.ne_none_iff_exists'.1 ha
  rw [restrictionAdd_full ⟨h1, h255, hle.trans hhigh, hhigh, hle⟩ ha hnew hfull] at hr
  obtain ⟨-, -, hssv⟩ := handLists_refused c id (min 40 speed) (congrArg Prod.snd hr)
  obtain ⟨hrestrictions, hoverflow, hsaturated, -⟩ := Ssv.refused_spec hssv
  obtain ⟨hheld, hnewEntry, hno, -, -⟩ := c.ssv.refuseRestriction_spec id (min 40 speed)
  refine ⟨by rw [hr], hrestrictions, ?_⟩
  rw [hoverflow, hsaturated]
  by_cases hin : ∃ e ∈ c.ssv.overflow, e.id = id
  · rw [hheld hin]
    obtain ⟨e, he, heq⟩ := hin
    refine .inl ⟨⟨e.id, min e.speed (min 40 speed)⟩, List.mem_map.2 ⟨e, he, if_pos heq⟩, heq, min_le_right ..⟩
  · have hother : ∀ e ∈ c.ssv.overflow, e.id ≠ id := fun e he heq => hin ⟨e, he, heq⟩
    by_cases hroom : c.ssv.overflow.length < 4
    · rw [hnewEntry hother hroom]
      exact .inl ⟨⟨id, min 40 speed⟩, List.mem_append_right _ (List.mem_singleton_self _), rfl, le_refl _⟩
    · rw [hno hother (by omega)]
      exact .inr rfl

end Fit

/-- A cancelled id leaves both lists, and the radio record as it was (R89, R91). -/
theorem restrictionCancel_taken (h1 : 1 ≤ id) (h255 : id ≤ 255)
    (hin : (∃ r ∈ c.ssv.restrictions, r.id = id) ∨ ∃ x ∈ c.ssv.overflow, x.id = id) {r : Result × Car}
    (hr : r = restrictionCancel id c) :
    r.1 = .accepted ∧ r.2.vrl = c.vrl ∧ r.2.ssv.waiting.cause = true ∧
    r.2.ssv.restrictions = (c.ssv.restrictions.filter fun r => !(r.id == id)) ∧
    r.2.ssv.overflow = (c.ssv.overflow.filter fun x => !(x.id == id)) := by
  rw [restrictionCancel_found (by omega) hin, handLists_shrunk fun hnil => withoutOverflow_of_nil id hnil] at hr
  rw [hr]
  exact ⟨rfl, rfl, rfl, rfl, rfl⟩

end Lists

/-! ## A segment delivered -/

section Delivery
variable {b : SegmentBody} (hi : Intact c)
include hi

theorem Intact.judgeArrival_alarms (x : Segment) : Alarms 1 c (judgeArrival x c).2 ∧ c.StoreOnly (judgeArrival x c).2 ∧
    (judgeArrival x c).1 ≠ .faultStop := by
  have hstored (kept : List Segment) (hsub : ∀ y ∈ kept, y ∈ c.pst.table) :
      Alarms 1 c (storeSegment x kept c) ∧ c.StoreOnly (storeSegment x kept c) := by
    rw [storeSegment_eq hi x hsub]
    refine ⟨?_, (pinning_storeOnly ..).withTable _⟩
    have hpinning : Alarms 1 c (c.pinning x kept) := by
      unfold Car.pinning
      split
      · exact occur_alarms ..
      · exact .refl 1 c
    have htable (t : List Segment) : Alarms 0 (c.pinning x kept) ((c.pinning x kept).withTable t) := alarms_of rfl rfl rfl rfl
    exact hpinning.trans (htable _)
  have hsub : ∀ y ∈ c.pst.table.filter fun t => !(t.id == x.id), y ∈ c.pst.table := fun y hy => List.mem_of_mem_filter hy
  have hsame : Alarms 1 c c ∧ c.StoreOnly c := ⟨.refl 1 c, Car.storeOnly_refl c⟩
  unfold judgeArrival
  dsimp only
  split
  · exact ⟨hsame.1, hsame.2, nofun⟩
  · split
    · exact ⟨hsame.1, hsame.2, nofun⟩
    · split
      · obtain ⟨h1, h2⟩ := hstored _ hsub
        exact ⟨h1, h2, nofun⟩
      · split
        · obtain ⟨h1, h2⟩ := hstored _ fun y hy => hsub y (List.mem_of_mem_filter hy)
          exact ⟨h1, h2, nofun⟩
        · exact ⟨occur_alarms .., occur_storeOnly .., nofun⟩

theorem Intact.segmentArrival_alarms (b : SegmentBody) : Alarms 1 c (segmentArrival b c).2 ∧
    c.StoreOnly (segmentArrival b c).2 ∧ (segmentArrival b c).1 ≠ .faultStop := by
  unfold segmentArrival
  rw [hi.failures]
  split
  · exact ⟨.refl 1 c, Car.storeOnly_refl c, nofun⟩
  · split
    · exact hi.judgeArrival_alarms _
    · exact ⟨.refl 1 c, Car.storeOnly_refl c, nofun⟩

theorem Intact.ordered_segmentDelivery : Ordered (.segmentDelivery b) number c (segmentArrival b c).1 c.vrl.stopNumber
    (segmentArrival b c).2 := by
  obtain ⟨halarms, ⟨hframe, -⟩, -⟩ := hi.segmentArrival_alarms b
  exact .of_result rfl (halarms.mono (by decide)) (congrArg Car.tlf hframe :) (congrArg Car.odo hframe :)
    (congrArg Car.dor hframe :)

end Delivery

end Orders

end Sys2Proof.Machine
end

section
/-! O59: what a follower hears (R151, R159, R165). -/

namespace Sys2Proof.Machine

/-! ## The two telegrams and the follower timer -/

section Exec
variable {via : Via} {s : State} (hr : Ready s)
include hr

/-- A telegram that no car takes by its number leaves what its block leaves. -/
theorem Ready.exec_unanswered {i : Instr} {t : Telegram} (hi : i.telegram = some (via, t)) (h : Reaches via t s.car)
    (hp : telegramKind t ≠ 40) (hcar : takenByCar (telegramKind t) = false) {d : Car}
    (hdeliver : deliver via t s.car = d) : exec i s = .next ⟨settle d, s.pending⟩ := by
  obtain ⟨n, hexec, hn⟩ := exec_of_reaches hi hr h hp
  have haddressing : via.addressing ≠ .car := fun heq => by
    obtain ⟨-, -, htaken, -⟩ := h
    rw [heq, takenUnder, hcar] at htaken
    cases htaken
  rw [hexec, hn haddressing, show s.car.reserving 0 = s.car by rw [Car.reserving, ← hr.unreserved.1], hdeliver]

theorem Ready.exec_radioRelay {kind number : Nat} {body : List Byte} (h : Reaches via (.radioRelay kind number body) s.car) :
    exec (.radioRelay via kind number body) s = .next ⟨settle (takeRelay kind number body s.car), s.pending⟩ :=
  hr.exec_unanswered rfl h (by simp [telegramKind]) (by simp [telegramKind, takenByCar]) rfl

theorem Ready.exec_radioStatus {link station : Nat} (h : Reaches via (.radioStatus link station) s.car) :
    exec (.radioStatus via link station) s =
      .next ⟨settle (takeRadioStatus (LinkState.ofCode link) station s.car), s.pending⟩ :=
  hr.exec_unanswered rfl h (by simp [telegramKind]) (by simp [telegramKind, takenByCar]) rfl

theorem Ready.exec_followerExpiry : exec .followerTimerExpiry s = .next ⟨settle (followerExpiry s.car), s.pending⟩ :=
  congrArg Host.Outcome.next (hr.run _)

end Exec

/-! ## A relay (R165) -/

section Relay
variable {kind number : Nat} {body : List Byte} {c d : Car} {o : Order} {result : Result} {stop : Option Nat}

/-- A follower `c` with a relay taken, whose order left `d`. -/
def Car.followed (c : Car) (kind number : Nat) (result : Result) (stop : Option Nat) (d : Car) : Car := { d with
  vrl := { c.vrl with
    stopNumber := stop
    recent := (c.vrl.recent ++ [(⟨number, kind, [], result, .none⟩ : OrderEntry)]).drop (c.vrl.recent.length + 1 - 8) }
  evr := d.evr.take c.now .orderExecuted number }

theorem takeRelay_ignored (h : c.vrl.role = .radio ∨ ¬(∀ e ∈ c.vrl.recent, e.number ≠ number) ∨ parseOrder kind body = none ∨
    kind = 6) : takeRelay kind number body c = c := by
  unfold takeRelay
  by_cases hfirst : c.vrl.role = .radio ∨ (c.vrl.recent.any fun e => e.number == number) = true
  · exact if_pos hfirst
  · rw [if_neg hfirst]
    obtain ⟨hradio, hknown⟩ := not_or.1 hfirst
    have hnew : ∀ e ∈ c.vrl.recent, e.number ≠ number := fun e he heq =>
      hknown (List.any_eq_true.2 ⟨e, he, beq_iff_eq.2 heq⟩)
    rcases h with h | h | h | rfl
    · exact absurd h hradio
    · exact absurd hnew h
    · rw [h]
    · rcases body with _ | ⟨b, body⟩
      · rfl
      · rfl

theorem takeRelay_new (hrole : c.vrl.role = .follower) (hnew : ∀ e ∈ c.vrl.recent, e.number ≠ number)
    (hparse : parseOrder kind body = some o) (hpoll : o ≠ .positionPoll) (ho : Ordered o number c result stop d) :
    takeRelay kind number body c = c.followed kind number result stop d := by
  have hfirst : ¬(c.vrl.role = .radio ∨ (c.vrl.recent.any fun e => e.number == number) = true) := by
    rw [hrole]
    rintro (h | h)
    · cases h
    · obtain ⟨e, he, heq⟩ := List.any_eq_true.1 h
      exact hnew e he (beq_iff_eq.1 heq)
  have hvrl := ho.alarms.follower hrole
  have htake : takeRelay kind number body c = occur .orderExecuted number (enter ⟨number, kind, [], result, .none⟩
      { d with vrl := { d.vrl with stopNumber := stop } }) := by
    unfold takeRelay
    rw [if_neg hfirst, hparse]
    cases o with
    | positionPoll => exact absurd rfl hpoll
    | restrictionAdd | restrictionCancel | remoteStop | stopRelease | segmentDelivery =>
      dsimp only
      rw [ho.eq]
  rw [htake, Car.followed, ← ho.alarms.now, occur, alarmed_follower (by show d.vrl.role = _; rw [hvrl, hrole]), enter, hvrl]
  rfl

/-- ORDER_EXECUTED stands after a relay that is executed. -/
theorem Ordered.executed_pending (ho : Ordered o number c result stop d) (now : Stamp) :
    ((d.evr.take now .orderExecuted number).source 23).pending = true ∨ c.evr.sources.length ≤ 23 := by
  rw [ho.alarms.sources.1]
  exact Evr.take_pending ..

end Relay

end Sys2Proof.Machine
end

section
/-! O59: what a follower hears (R151, R159, R165), put together. -/

namespace Sys2Proof.Machine

/-! ## RADIO STATUS and the follower timer (R159) -/

section Status
variable {link : LinkState} {station : Nat} {c : Car} (hrole : c.vrl.role = .follower)

theorem setLink_eq (link : LinkState) (c : Car) : setLink link c = { c with
    vrl := { c.vrl with link := link }
    ssv := if c.vrl.link = .lost ↔ link = .lost then c.ssv else c.ssv.cause } := by
  have hiff : (c.vrl.link == LinkState.lost) = (link == LinkState.lost) ↔ (c.vrl.link = .lost ↔ link = .lost) := by
    rw [Bool.eq_iff_iff, beq_iff_eq, beq_iff_eq]
  unfold setLink
  dsimp only
  by_cases h : c.vrl.link = .lost ↔ link = .lost
  · rw [if_pos (hiff.2 h), if_pos h]
  · rw [if_neg (mt hiff.1 h), if_neg h]
    rfl

include hrole

/-- An occurrence in a follower queues no report. -/
theorem occur_follower (src : Source) (detail : Nat) : occur src detail c = { c with evr := c.evr.take c.now src detail } := by
  rw [occur, alarmed_follower hrole]

theorem takeRadioStatus_follower : takeRadioStatus link station c = { c with
    vrl := { c.vrl with link := link, station := station, follower := some 0 }
    ssv := if c.vrl.link = .lost ↔ link = .lost then c.ssv else c.ssv.cause
    evr := if link = .lost ∧ c.vrl.link ≠ .lost then c.evr.take c.now .radioLost 5
      else if link = .linked ∧ (c.vrl.link = .lost ∨ c.vrl.link = .linking) then c.evr.take c.now .radioLinked station
      else c.evr } := by
  unfold takeRadioStatus
  rw [if_pos hrole, setLink_eq]
  dsimp only
  split
  · exact occur_follower (by exact hrole) ..
  · split
    · exact occur_follower (by exact hrole) ..
    · rfl

end Status

section Expiry
variable {c : Car}

theorem followerExpiry_quiet (h : Timer.reached 300 c.vrl.follower = false) : followerExpiry c = c :=
  if_neg (by rw [show Limit.follower = 300 from rfl, h]; nofun)

/-- The part with its link lost by the follower timer. -/
def Car.unheard (c : Car) : Car := { c with
  vrl := { c.vrl with link := .lost, follower := none }
  ssv := if c.vrl.link = .lost then c.ssv else c.ssv.cause }

theorem followerExpiry_reached (h : Timer.reached 300 c.vrl.follower = true) :
    followerExpiry c = if c.vrl.link = .lost then c.unheard else occur .radioLost 4 c.unheard := by
  have hset : setLink .lost { c with vrl := { c.vrl with follower := none } } = c.unheard := by
    rw [setLink_eq]
    simp only [Car.unheard, iff_true]
  unfold followerExpiry
  rw [if_pos h, hset]

end Expiry

section Commands
variable {via : Via} {s : State} (hr : Ready s)
include hr

/-- A command that leaves the blocks that the outputs are decided from leaves a part whose outputs are decided. -/
theorem Ready.settle_kept {d : Car} (hdor : d.dor = s.car.dor) (hbrk : d.brk = s.car.brk) (hodo : d.odo = s.car.odo)
    (hrecord : d.ssv.record = s.car.ssv.record) : settle d = d :=
  hr.settle_quiet hdor hbrk (congrArg Odo.fused hodo) (congrArg Supervision.hold hrecord)

/-- A stop condition taken or released decides the brakes anew and nothing else. -/
theorem Ready.settle_stop {d : Car} (hdor : d.dor = s.car.dor) (hodo : d.odo = s.car.odo)
    (hproven : d.brk.doorsProven = s.car.brk.doorsProven) (hhold : d.brk.doorHold = s.car.brk.doorHold)
    (hcondition : d.brk.conditions.door = s.car.brk.conditions.door) (hcause : d.brk.causes.door = s.car.brk.causes.door) :
    settle d = brkJudge d :=
  hr.settle_brakes hdor (congrArg Odo.fused hodo) hproven hhold hcondition hcause

theorem Ready.radioStatus_taken {link : LinkState} {station : Nat} (hrole : s.car.vrl.role = .follower) :
    settle (takeRadioStatus link station s.car) = takeRadioStatus link station s.car ∧
    Ready ⟨takeRadioStatus link station s.car, s.pending⟩ := by
  have hsettle : settle (takeRadioStatus link station s.car) = takeRadioStatus link station s.car := by
    rw [takeRadioStatus_follower hrole]
    refine hr.settle_kept rfl rfl rfl ?_
    dsimp only
    split <;> rfl
  refine ⟨hsettle, ?_, hsettle, ?_⟩
  · rw [takeRadioStatus_follower hrole]
    exact hr.1
  · rw [takeRadioStatus_follower hrole]
    exact hr.unreserved

end Commands

/-- Settles O59: a relay of a new number does what its order does, a RADIO STATUS gives the link state and the station, and the
follower timer ends the link. -/
theorem followersFollowTheRadioCar : Obligations.FollowersFollowTheRadioCar := by
  intro via kind number link station body s hr hi v
  refine ⟨fun hreach => ?_, fun hreach => ⟨fun hrole => ?_, fun hrole => ?_⟩, fun hshort => ?_, fun hreached => ?_⟩
  · intro i new entered framed
    have hexec := hr.exec_radioRelay hreach
    have htake (hrole : v.role = .follower) (hnew : new) {o : Order} (hparse : parseOrder kind body = some o)
        (hpoll : o ≠ .positionPoll) {result : Result} {stop : Option Nat} {d : Car}
        (ho : Ordered o number s.car result stop d) :
        exec i s = .next ⟨settle (s.car.followed kind number result stop d), s.pending⟩ := by
      rw [← takeRelay_new hrole hnew hparse hpoll ho]
      exact hexec
    have hframed {o : Order} {result : Result} {stop : Option Nat} {d : Car} (ho : Ordered o number s.car result stop d)
        (hpst : d.pst = s.car.pst) : framed ⟨s.car.followed kind number result stop d, s.pending⟩ :=
      ⟨rfl, ho.alarms.lif, ho.tlf, ho.odo, hpst, ho.dor, rfl, ho.executed_pending s.car.now⟩
    have hkept {o : Order} {result : Result} {stop : Option Nat} {d : Car} (ho : Ordered o number s.car result stop d)
        (hbrk : d.brk = s.car.brk) (hrecord : d.ssv.record = s.car.ssv.record) :
        settle (s.car.followed kind number result stop d) = s.car.followed kind number result stop d :=
      hr.settle_kept (d := s.car.followed kind number result stop d) ho.dor hbrk ho.odo hrecord
    refine ⟨fun h => ?_, fun hrole hnew hkind hbody => ?_, fun n hrole hnew hkind hn hbody => ?_,
      fun id low high speed appliesTo hrole hnew hkind hparse => ?_, fun id hrole hnew hkind hparse => ?_,
      fun b hrole hnew hkind hparse => ?_⟩
    · rw [takeRelay_ignored h, hr.settled] at hexec
      exact hexec
    · have hparse : parseOrder kind body = some .remoteStop := by
        rw [hkind, hbody]
        rfl
      cases hcond : s.car.brk.conditions.radioStop with
      | true =>
        have ho := ordered_remoteStop_again number s.car hcond
        have hstep := htake hrole hnew hparse nofun ho
        rw [hkept ho rfl rfl] at hstep
        exact ⟨_, hstep, hframed ho rfl, rfl, hcond, nofun⟩
      | false =>
        have ho := ordered_remoteStop_new number s.car hcond
        have hstep := htake hrole hnew hparse nofun ho
        have hsettle : settle (s.car.followed kind number .accepted (some number) (causeStart .radioStop s.car)) =
            brkJudge (s.car.followed kind number .accepted (some number) (causeStart .radioStop s.car)) :=
          hr.settle_stop (causeStart_dor ..) (causeStart_odo ..) (causeStart_doorsProven ..) (causeStart_doorHold ..)
            (congrArg PerCause.door (causeStart_conditions .radioStop s.car) :)
            (congrArg PerCause.door (causeStart_causes (cause := .radioStop) (c := s.car)) :)
        obtain ⟨r, hr', hpresent⟩ := causeStart_record .radioStop s.car
        have happly := settle_apply (c := s.car.followed kind number .accepted (some number) (causeStart .radioStop s.car))
          (cause := .radioStop) nofun hr'
        rw [hsettle] at hstep happly
        refine ⟨_, hstep, hframed ho (causeStart_pst ..), rfl, ?_, fun _ => ⟨?_, happly⟩⟩
        · exact congrArg PerCause.radioStop (causeStart_conditions ..)
        · exact (congrArg (Option.map CauseRecord.present) hr').trans (congrArg some hpresent)
    · have hparse : parseOrder kind body = some (.stopRelease n) := by
        rw [hkind, hbody]
        exact congrArg (fun k => some (Order.stopRelease k)) (be_beBytes_of_lt (k := 2) hn)
      by_cases hcond : s.car.brk.conditions.radioStop = true
      · by_cases hstop : v.stopNumber = some n
        · have ho := ordered_stopRelease_taken (number := number) hcond hstop
          have hstep := htake hrole hnew hparse nofun ho
          rw [hr.settle_stop (d := s.car.followed kind number .accepted none (causeEnd .radioStop s.car)) rfl rfl rfl rfl rfl rfl]
            at hstep
          exact ⟨_, hstep, hframed ho rfl, fun _ => ⟨rfl, rfl, rfl⟩, fun h => absurd hstop h.2,
            fun h => absurd (hcond.symm.trans h) nofun⟩
        · have ho := ordered_stopRelease_other (number := number) hcond hstop
          have hstep := htake hrole hnew hparse nofun ho
          rw [hkept ho rfl rfl] at hstep
          exact ⟨_, hstep, hframed ho rfl, fun h => absurd h.2 hstop, fun _ => ⟨rfl, rfl⟩,
            fun h => absurd (hcond.symm.trans h) nofun⟩
      · have hcond := Bool.not_eq_true _ ▸ hcond
        have ho := ordered_stopRelease_unheld (number := number) (named := n) hcond
        have hstep := htake hrole hnew hparse nofun ho
        rw [hkept ho rfl rfl] at hstep
        exact ⟨_, hstep, hframed ho rfl, fun h => absurd (hcond.symm.trans h.1) nofun,
          fun h => absurd (hcond.symm.trans h.1) nofun, fun _ => ⟨rfl, rfl⟩⟩
    · intro fits
      rw [← hkind] at hparse
      have ho := ordered_restrictionAdd (number := number) (c := s.car) id low high speed appliesTo
      have hlists := restrictionAdd_listsOnly id low high speed appliesTo (.radio number) s.car
      have hbrk := (congrArg Car.brk hlists :)
      have hstep := htake hrole hnew hparse nofun ho
      rw [hkept ho hbrk (congrArg (fun c : Car => c.ssv.record) hlists :)] at hstep
      refine ⟨_, hstep, hframed ho (congrArg Car.pst hlists :), hbrk, fun hunfit => ?_, fun a hfit ha hroom => ?_,
        fun hfit hfull hother => ?_⟩
      · rw [restrictionAdd_unfit hunfit]
        exact ⟨rfl, rfl⟩
      · obtain ⟨hresult, -, hmem, hcause⟩ := restrictionAdd_listed (c := s.car) (origin := .radio number)
          (speed := speed) hfit ha hroom rfl
        exact ⟨by rw [hresult]; rfl, hmem, hcause⟩
      · obtain ⟨hresult, hsame, hmark⟩ := restrictionAdd_refused (c := s.car) (origin := .radio number)
          (speed := speed) hfit hfull hother rfl
        exact ⟨by rw [hresult]; rfl, hsame, hmark⟩
    · intro held
      rw [← hkind] at hparse
      have hbyte : id ≤ 255 := by
        rw [hkind] at hparse
        rcases body with _ | ⟨b, _ | ⟨_, _⟩⟩
        · cases hparse
        · cases hparse
          exact Nat.le_of_lt_succ b.isLt
        · cases hparse
      have ho := ordered_restrictionCancel (number := number) (c := s.car) id
      have hlists := restrictionCancel_listsOnly id s.car
      have hbrk := (congrArg Car.brk hlists :)
      have hstep := htake hrole hnew hparse nofun ho
      rw [hkept ho hbrk (congrArg (fun c : Car => c.ssv.record) hlists :)] at hstep
      refine ⟨_, hstep, hframed ho (congrArg Car.pst hlists :), hbrk, fun hzero => ?_, fun hid hnone => ?_, fun hid hin => ?_⟩
      · rw [restrictionCancel_range (by omega)]
        exact ⟨rfl, rfl⟩
      · obtain ⟨hr, he⟩ := not_or.1 hnone
        rw [restrictionCancel_absent (by omega) (fun r hm heq => hr ⟨r, hm, heq⟩) fun x hm heq => he ⟨x, hm, heq⟩]
        exact ⟨rfl, rfl⟩
      · obtain ⟨hresult, -, hcause, hrest, hover⟩ := restrictionCancel_taken (by omega) hbyte hin (c := s.car) rfl
        exact ⟨by rw [hresult]; rfl, hcause, hrest, hover⟩
    · intro arrival
      rw [← hkind] at hparse
      have ho := hi.ordered_segmentDelivery (number := number) (b := b)
      obtain ⟨-, ⟨hstore, hrecord⟩, -⟩ := hi.segmentArrival_alarms b
      have hbrk := (congrArg Car.brk hstore :)
      have hstep := htake hrole hnew hparse nofun ho
      rw [hkept ho hbrk hrecord] at hstep
      exact ⟨_, hstep, rfl, rfl, rfl, rfl, ho.alarms.lif, ho.odo, ho.tlf, hbrk, ho.dor, ho.executed_pending s.car.now⟩
  · have hsame : takeRadioStatus (LinkState.ofCode link) station s.car = s.car :=
      if_neg (by rw [show s.car.vrl.role = _ from hrole]; nofun)
    rw [hr.exec_radioStatus hreach, hsame, hr.settled]
  · obtain ⟨hsettle, hready⟩ := hr.radioStatus_taken (link := LinkState.ofCode link) (station := station) hrole
    have hexec := hr.exec_radioStatus hreach
    have hexpiry := hready.exec_followerExpiry
    rw [followerExpiry_quiet (by rw [takeRadioStatus_follower hrole]; rfl)] at hexpiry
    rw [hsettle] at hexec hexpiry
    refine ⟨_, hexec, rfl, ?_, ?_, ?_, ?_, ?_, ?_, ?_, ?_, ?_, hexpiry⟩
    all_goals rw [takeRadioStatus_follower hrole]
    all_goals rfl
  · rw [hr.exec_followerExpiry, followerExpiry_quiet hshort, hr.settled]
  · have hexec := hr.exec_followerExpiry
    rw [followerExpiry_reached hreached] at hexec
    have hssv : s.car.unheard.ssv.record = s.car.ssv.record := by
      unfold Car.unheard
      dsimp only
      split <;> rfl
    by_cases hlost : v.link = .lost
    · rw [if_pos hlost, hr.settle_kept (d := s.car.unheard) rfl rfl rfl hssv] at hexec
      exact ⟨_, hexec, rfl, rfl, rfl, rfl, fun _ => ⟨rfl, if_pos hlost⟩, fun h => absurd hlost h, rfl, rfl, rfl, rfl, rfl, rfl⟩
    · rw [if_neg hlost, hr.settle_kept (d := occur .radioLost 4 s.car.unheard) rfl rfl rfl hssv] at hexec
      have hlink := occur_sameLink s.car.unheard .radioLost 4
      refine ⟨_, hexec, rfl, ?_, ?_, ?_, fun h => absurd h hlost, fun _ => ⟨rfl, if_neg hlost⟩, rfl, rfl, rfl, rfl, rfl, rfl⟩
      · exact (congrArg Vrl.link hlink :)
      · exact (congrArg Vrl.follower hlink :)
      · exact (congrArg Vrl.station hlink :)

end Sys2Proof.Machine
end

section
/-! O60: the report queue and the modem, and the timers of the link (R153, R155 to R158, R166 to R168). -/

namespace Sys2Proof.Machine

/-! ## The report queue (R166, R167) -/

theorem removeFirst_none {α : Type} {f : α → Bool} {l : List α} (h : ∀ x ∈ l, f x = false) : removeFirst f l = none := by
  induction l with
  | nil => rfl
  | cons x xs ih =>
    rw [removeFirst, h x List.mem_cons_self, ih fun y hy => h y (List.mem_cons_of_mem x hy)]
    rfl

section Join
variable {v : Vrl} {r : Report}

theorem Vrl.join_room (h : v.reports.length < 8) : v.join r = { v with reports := v.reports ++ [r] } := if_pos h

variable (hfull : v.reports.length = 8)
include hfull

/-- A report that meets a full queue, by its kind: only a position and an acknowledgement displace another. -/
theorem Vrl.join_discarded (hack : r.isAck = false)
    (h : r.isPosition = false ∨ ∀ q ∈ v.reports, q.isPosition = false) :
    v.join r = { v with lostReports := bump v.lostReports } := by
  unfold Vrl.join
  rw [if_neg (by omega)]
  cases r with
  | ack number result ok duplicate relay => cases hack
  | alarm source level stamp detail car => rfl
  | position p =>
    dsimp only
    rw [removeFirst_none (h.resolve_left nofun)]

variable {a b : List Report} {q : Report} (hq : v.reports = a ++ q :: b)
include hq

theorem Vrl.join_position (hr : r.isPosition = true) (hposition : q.isPosition = true) (ha : ∀ x ∈ a, x.isPosition = false) :
    v.join r = { v with reports := a ++ b ++ [r], lostReports := bump v.lostReports } := by
  unfold Vrl.join
  rw [if_neg (by omega), hq]
  cases r with
  | ack number result ok duplicate relay => cases hr
  | alarm source level stamp detail car => cases hr
  | position p =>
    dsimp only
    rw [removeFirst_append ha hposition]

theorem Vrl.join_ack (hr : r.isAck = true) (hother : q.isAck = false) (ha : ∀ x ∈ a, x.isAck = true) :
    v.join r = { v with reports := a ++ b ++ [r], lostReports := bump v.lostReports } := by
  unfold Vrl.join
  rw [if_neg (by omega), hq]
  cases r with
  | position p => cases hr
  | alarm source level stamp detail car => cases hr
  | ack number result ok duplicate relay =>
    dsimp only
    rw [removeFirst_append (f := fun x : Report => !x.isAck) (fun x hx => by rw [ha x hx]; rfl) (by rw [hother]; rfl)]

omit hq in
theorem Vrl.join_oldest (hr : r.isAck = true) (hacks : ∀ q ∈ v.reports, q.isAck = true) :
    v.join r = { v with reports := v.reports.drop 1 ++ [r], lostReports := bump v.lostReports } := by
  unfold Vrl.join
  rw [if_neg (by omega)]
  cases r with
  | position p => cases hr
  | alarm source level stamp detail car => cases hr
  | ack number result ok duplicate relay =>
    dsimp only
    rw [removeFirst_none fun x hx => by rw [hacks x hx]; rfl]

end Join

section Queue
variable {v : Vrl} (hrole : v.role = .radio) (train : Nat)
include hrole

theorem Vrl.queueReport_radio (r : Report) : v.queueReport train r = (v.join r).pump train := if_pos hrole

theorem Vrl.queueReport_busy (h : v.transmit ≠ none) (r : Report) : v.queueReport train r = v.join r := by
  rw [Vrl.queueReport_radio hrole, Vrl.pump_busy (by rwa [Vrl.join_transmit])]

theorem Vrl.queueReport_written (h : v.transmit = none) (hroom : v.reports.length < 8) {r first : Report} {rest : List Report}
    (hfirst : v.reports ++ [r] = first :: rest) : v.queueReport train r =
      { v with reports := rest, transmit := some ⟨radioBytes (reportFrame v.station train first), 0⟩ } := by
  rw [Vrl.queueReport_radio hrole, Vrl.join_room hroom, hfirst]
  simp only [Vrl.pump, h]

end Queue

/-! ## The modem (R153) -/

section Modem
variable {c : Car}

theorem Vrl.pump_free {v : Vrl} (h : v.transmit = none) (train : Nat) : v.pump train = { v with
    reports := v.reports.drop 1
    transmit := v.reports.head?.map fun r => ⟨radioBytes (reportFrame v.station train r), 0⟩ } := by
  cases hr : v.reports with
  | nil =>
    have hsame : v = { v with reports := [], transmit := none } := by rw [← h, ← hr]
    simp only [Vrl.pump, h, hr]
    exact hsame
  | cons r rest =>
    simp only [Vrl.pump, h, hr]
    rfl

theorem freeTransmit_eq (c : Car) : freeTransmit c = { c with vrl := { c.vrl with
    reports := c.vrl.reports.drop 1
    transmit := c.vrl.reports.head?.map fun r => ⟨radioBytes (reportFrame c.vrl.station c.lif.params.trainId r), 0⟩ } } := by
  unfold freeTransmit
  rw [Vrl.pump_free rfl]

theorem sendConfirmed_ignored {stale : Bool} (h : stale = true ∨ c.vrl.transmit = none) : sendConfirmed stale c = c :=
  if_pos (h.imp_right Option.isNone_iff_eq_none.2)

theorem sendConfirmed_freed (h : c.vrl.transmit ≠ none) : sendConfirmed false c = freeTransmit c :=
  if_neg (not_or.2 ⟨nofun, fun hnone => h (Option.isNone_iff_eq_none.1 hnone)⟩)

theorem modemTimeout_early (h : ∀ x, c.vrl.transmit = some x → x.elapsed < 200) : modemTimeout c = c := by
  unfold modemTimeout
  cases hx : c.vrl.transmit with
  | none => rfl
  | some x => exact if_neg (not_le.2 (h x hx))

theorem modemTimeout_freed {x : Transmit} (hx : c.vrl.transmit = some x) (h : 200 ≤ x.elapsed) :
    modemTimeout c = freeTransmit { c with vrl := { c.vrl with modemTimeouts := bump c.vrl.modemTimeouts } } := by
  unfold modemTimeout
  rw [hx]
  exact if_pos h

end Modem

/-! ## The timers of the link (R155 to R158, R166) -/

section Timers
variable {c : Car}

theorem supervisionExpiry_quiet (h : (∀ x, c.vrl.supervision = some x → x.elapsed < x.limit * 100) ∨ c.vrl.link = .lost ∨
    c.vrl.link = .shadow) : supervisionExpiry c = c := by
  unfold supervisionExpiry
  split
  · next hany =>
    obtain ⟨x, hx, hreached⟩ := (Option.any_eq_true _ _).1 hany
    rw [LimitedTimer.reached, decide_eq_true_iff] at hreached
    rcases h with h | h | h
    · exact absurd (h x hx) (not_lt.2 hreached)
    · rw [h]
    · rw [h]
  · rfl

theorem supervisionExpiry_lost {x : LimitedTimer} (hx : c.vrl.supervision = some x) (h : x.limit * 100 ≤ x.elapsed)
    (hlink : c.vrl.link = .linking ∨ c.vrl.link = .linked) : supervisionExpiry c =
      occur .radioLost (if c.vrl.link = .linked then 1 else 3) { c with
        vrl := { c.vrl with link := .lost, supervision := none }
        ssv := c.ssv.cause } := by
  have hreached : x.reached = true := decide_eq_true h
  unfold supervisionExpiry
  rw [hx, Option.any_some, if_pos hreached, setLink_eq]
  rcases hlink with hlink | hlink
  · rw [hlink]
    rfl
  · rw [hlink]
    rfl

theorem shadowExpiry_quiet (h : (∀ x, c.vrl.shadow = some x → x.elapsed < x.limit * 100) ∨ c.vrl.link ≠ .shadow) :
    shadowExpiry c = c := by
  unfold shadowExpiry
  split
  · next x hx hlink =>
    refine if_neg ?_
    rw [LimitedTimer.reached, decide_eq_true_iff]
    exact not_le.2 (h.resolve_right (fun hne => hne hlink) x hx)
  · rfl

theorem shadowExpiry_lost {x : LimitedTimer} (hx : c.vrl.shadow = some x) (h : x.limit * 100 ≤ x.elapsed)
    (hlink : c.vrl.link = .shadow) : shadowExpiry c = occur .radioLost 2 (occur .shadowExceeded x.limit { c with
      vrl := { c.vrl with link := .lost, shadow := none }
      ssv := c.ssv.cause }) := by
  have hreached : x.reached = true := decide_eq_true h
  unfold shadowExpiry
  rw [hx, hlink]
  dsimp only
  rw [if_pos hreached, setLink_eq]
  simp only [hlink]
  rfl

theorem statusExpiry_quiet (h : c.vrl.role = .follower ∨ Timer.reached 100 c.vrl.statusTimer = false) : statusExpiry c = c := by
  refine if_neg fun ⟨hrole, hreached⟩ => ?_
  rcases h with h | h
  · rw [h] at hrole
    cases hrole
  · exact absurd (h.symm.trans hreached) nofun

theorem statusExpiry_reached (hrole : c.vrl.role = .radio) (h : Timer.reached 100 c.vrl.statusTimer = true) :
    statusExpiry c = if c.brk.faultStop = true ∨ (c.lif.queue.any fun q => q.frame.isRadioStatus) = true then
        { c with vrl := { c.vrl with statusTimer := some 0 } }
      else placeNonReply (.radioStatus c.vrl.station) { c with vrl := { c.vrl with statusTimer := some 0 } } :=
  if_pos ⟨hrole, h⟩

theorem reportExpiry_quiet (h : c.vrl.role = .follower ∨ Timer.reached 1000 c.vrl.reportTimer = false) : reportExpiry c = c := by
  refine if_neg fun ⟨hrole, hreached⟩ => ?_
  rcases h with h | h
  · rw [h] at hrole
    cases hrole
  · exact absurd (h.symm.trans hreached) nofun

theorem reportExpiry_reached (hrole : c.vrl.role = .radio) (h : Timer.reached 1000 c.vrl.reportTimer = true) :
    reportExpiry c = reportPosition 0 { c with vrl := { c.vrl with reportTimer := some 0 } } := if_pos ⟨hrole, h⟩

theorem Intact.reportPosition (hi : Intact c) (number : Nat) :
    reportPosition number c = sendReport (.position (positionNow number c)) c := by
  unfold Machine.reportPosition
  rw [hi.readForExtent]

theorem placeNonReply_room (f : Frame) (h : c.lif.nonReplyRoom = true) :
    placeNonReply f c = { c with lif := c.lif.append c.vrl.link [f] } := if_pos h

theorem placeNonReply_full (f : Frame) (h : c.lif.nonReplyRoom = false) :
    placeNonReply f c = occur .originateFull (512 + f.kind) c := if_neg (by rw [h]; nofun)

end Timers

end Sys2Proof.Machine
end

section
/-! O60: the report queue and the modem, and the timers of the link. -/

namespace Sys2Proof.Machine

/-- A timer of the link or of the modem leaves what the outputs are decided from alone. -/
theorem Ready.exec_link {s : State} (hr : Ready s) {i : Instr} {f : Car → Car} (hexec : exec i s = .next (s.run f)) {d : Car}
    (hf : f s.car = d) (hframe : d = { s.car with lif := d.lif, ssv := d.ssv, evr := d.evr, vrl := d.vrl })
    (hrecord : d.ssv.record = s.car.ssv.record) : exec i s = .next ⟨d, s.pending⟩ := by
  rw [hexec, hr.run, hf, hr.settle_kept (congrArg Car.dor hframe :) (congrArg Car.brk hframe :) (congrArg Car.odo hframe :) hrecord]

/-- Settles O60: each timer and each confirmation has its effect at its limit alone, and a report joins, displaces or is lost by
its kind. -/
theorem radioTimersAndModem : Obligations.RadioTimersAndModem := by
  refine ⟨fun s hr hi => ?_, fun v train r => ?_⟩
  · intro v same waiting freed
    refine ⟨fun stale h => ?_, fun h => ?_, fun h => ?_, fun x hx h => ?_, fun h => ?_, fun x hx h hlink => ?_, fun h => ?_,
      fun x hx h hlink => ?_, fun h => ?_, fun h => ?_, fun hrole h => ?_, fun hrole h => ?_⟩
    · exact hr.exec_link rfl (sendConfirmed_ignored h) rfl rfl
    · exact hr.exec_link rfl ((sendConfirmed_freed h).trans (freeTransmit_eq _)) rfl rfl
    · exact hr.exec_link rfl (modemTimeout_early h) rfl rfl
    · exact hr.exec_link rfl ((modemTimeout_freed hx h).trans (freeTransmit_eq _)) rfl rfl
    · exact hr.exec_link rfl (supervisionExpiry_quiet h) rfl rfl
    · have hstep := hr.exec_link (i := .supervisionTimerExpiry) rfl (supervisionExpiry_lost hx h hlink) rfl rfl
      have hsame := occur_sameLink { s.car with vrl := { v with link := .lost, supervision := none }, ssv := s.car.ssv.cause }
        .radioLost (if v.link = .linked then 1 else 3)
      exact ⟨_, hstep, ⟨rfl, rfl, rfl, rfl, rfl, rfl, rfl⟩, (congrArg Vrl.link hsame :), (congrArg Vrl.supervision hsame :),
        rfl, rfl⟩
    · exact hr.exec_link rfl (shadowExpiry_quiet h) rfl rfl
    · have hstep := hr.exec_link (i := .shadowTimerExpiry) rfl (shadowExpiry_lost hx h hlink) rfl rfl
      have hsame := (occur_sameLink { s.car with vrl := { v with link := .lost, shadow := none }, ssv := s.car.ssv.cause }
        .shadowExceeded x.limit).trans (occur_sameLink _ .radioLost 2)
      exact ⟨_, hstep, ⟨rfl, rfl, rfl, rfl, rfl, rfl, rfl⟩, (congrArg Vrl.link hsame :), (congrArg Vrl.shadow hsame :), rfl, rfl⟩
    · exact hr.exec_link rfl (statusExpiry_quiet h) rfl rfl
    · exact hr.exec_link rfl (reportExpiry_quiet h) rfl rfl
    · intro restarted waits
      have hreached := statusExpiry_reached hrole h
      refine ⟨fun hno => ?_, fun hstop hwaits hroom => ?_, fun hstop hwaits hroom => ?_⟩
      · exact hr.exec_link rfl (hreached.trans (if_pos hno)) rfl rfl
      · have hplaced : ¬(s.car.brk.faultStop = true ∨ waits = true) := by
          rw [hstop, hwaits]
          decide
        exact hr.exec_link rfl ((hreached.trans (if_neg hplaced)).trans (placeNonReply_room _ hroom)) rfl rfl
      · have hplaced : ¬(s.car.brk.faultStop = true ∨ waits = true) := by
          rw [hstop, hwaits]
          decide
        exact hr.exec_link rfl ((hreached.trans (if_neg hplaced)).trans (placeNonReply_full _ hroom)) rfl rfl
    · intro timed reported
      have hintact : Intact { s.car with vrl := timed } := hi
      exact hr.exec_link rfl ((reportExpiry_reached hrole h).trans (hintact.reportPosition 0)) rfl rfl
  · intro after full lost
    refine ⟨fun hrole => Vrl.queueReport_follower hrole train r, fun hrole hbusy hroom => ?_,
      fun first rest hrole hfree hroom hfirst => Vrl.queueReport_written hrole train hfree hroom hfirst,
      fun hrole hbusy hfull hack h => ?_, fun a q b hrole hbusy hfull hq hr hposition ha => ?_,
      fun a q b hrole hbusy hfull hq hr hother ha => ?_, fun hrole hbusy hfull hr hacks => ?_⟩
    · exact (Vrl.queueReport_busy hrole train hbusy r).trans (Vrl.join_room hroom)
    · exact (Vrl.queueReport_busy hrole train hbusy r).trans (Vrl.join_discarded hfull hack h)
    · exact (Vrl.queueReport_busy hrole train hbusy r).trans (Vrl.join_position hfull hq hr hposition ha)
    · exact (Vrl.queueReport_busy hrole train hbusy r).trans (Vrl.join_ack hfull hq hr hother ha)
    · exact (Vrl.queueReport_busy hrole train hbusy r).trans (Vrl.join_oldest hfull hr hacks)

end Sys2Proof.Machine
end

section
/-! What a valid frame does to link supervision (R155, R156), and a report queue apart from the stop number. -/

namespace Sys2Proof.Machine

theorem Evr.SameSources.symm {e f : Evr} (h : e.SameSources f) : f.SameSources e := by
  obtain ⟨hlength, hsource⟩ := h
  refine ⟨hlength.symm, fun n => ?_⟩
  obtain ⟨hlevel, henable, hroute⟩ := hsource n
  exact ⟨hlevel.symm, henable.symm, hroute.symm⟩

/-! ## A frame heard -/

/-- The part with a valid frame of a station taken by link supervision. -/
def Car.heard (c : Car) (station : Nat) : Car := hearFrame { c with vrl := { c.vrl with station := station } }

/-- The supervision timer of a link that has just been heard. -/
def Car.supervised (c : Car) : Option LimitedTimer := some ⟨0, c.lif.params.tRs⟩

/-- A link passing from LINKING to LINKED, with RADIO_LINKED. -/
def Car.linked (c : Car) (station : Nat) : Car := occur .radioLinked station
  { c with vrl := { c.vrl with station := station, link := .linked, supervision := c.supervised } }

section Heard
variable {c : Car} (station : Nat)

theorem heard_lost (h : c.vrl.link = .lost) : c.heard station = { c with
    vrl := { c.vrl with station := station, link := .linking, supervision := c.supervised }
    ssv := c.ssv.cause } := by
  unfold Car.heard hearFrame
  simp only [h, setLink_eq, startSupervision]
  rfl

theorem heard_linked (h : c.vrl.link = .linked) : c.heard station = { c with
    vrl := { c.vrl with station := station, supervision := c.supervised } } := by
  unfold Car.heard hearFrame
  simp only [h, startSupervision]
  rfl

theorem heard_shadow (h : c.vrl.link = .shadow) : c.heard station = { c with vrl := { c.vrl with station := station } } := by
  unfold Car.heard hearFrame
  simp only [h]

theorem heard_linking (h : c.vrl.link = .linking) : c.heard station =
    if c.vrl.shadowStands = false then c.linked station
    else { c.linked station with vrl := { (c.linked station).vrl with
      link := .shadow, supervision := none, shadow := some ⟨0, c.lif.params.tShadowMax⟩ } } := by
  have hstands : (c.linked station).vrl.shadowStands = c.vrl.shadowStands := by
    rw [show (c.linked station).vrl = _ from occur_sameLink ..]
  have hlink : (c.linked station).vrl.link = .linked := by
    rw [show (c.linked station).vrl = _ from occur_sameLink ..]
  have hfirst : c.heard station =
      if (c.linked station).vrl.shadowStands = true then enterShadow (c.linked station) else c.linked station := by
    unfold Car.heard hearFrame
    simp only [h]
    rfl
  rw [hfirst, hstands]
  cases c.vrl.shadowStands with
  | false => rfl
  | true =>
    rw [if_pos rfl, if_neg nofun, enterShadow, setLink_eq]
    simp only [hlink]
    rfl

/-- What a frame heard leaves: the blocks the outputs are decided from and the orders stay, and at most one alarm is queued. -/
structure Hears (c d : Car) : Prop where
  frame : d = { c with ssv := { c.ssv with waiting := d.ssv.waiting }, evr := d.evr, vrl := d.vrl }
  sources : c.evr.SameSources d.evr
  role : d.vrl.role = c.vrl.role
  recent : d.vrl.recent = c.vrl.recent
  stopNumber : d.vrl.stopNumber = c.vrl.stopNumber
  reports : c.vrl.Alarmed 1 d.vrl

theorem linked_hears (c : Car) : Hears c (c.linked station) := by
  have halarms := occur_alarms { c with vrl := { c.vrl with station := station, link := .linked, supervision := c.supervised } }
    .radioLinked station
  have hvrl : (c.linked station).vrl = _ := halarms.link
  exact ⟨rfl, halarms.sources, (congrArg Vrl.role hvrl :), (congrArg Vrl.recent hvrl :), (congrArg Vrl.stopNumber hvrl :),
    halarms.reports⟩

theorem heard_hears (c : Car) : Hears c (c.heard station) := by
  cases h : c.vrl.link with
  | lost =>
    rw [heard_lost station h]
    exact ⟨rfl, .refl _, rfl, rfl, rfl, fun _ => ⟨rfl, Nat.le_succ _⟩⟩
  | linked =>
    rw [heard_linked station h]
    exact ⟨rfl, .refl _, rfl, rfl, rfl, fun _ => ⟨rfl, Nat.le_succ _⟩⟩
  | shadow =>
    rw [heard_shadow station h]
    exact ⟨rfl, .refl _, rfl, rfl, rfl, fun _ => ⟨rfl, Nat.le_succ _⟩⟩
  | linking =>
    obtain ⟨-, hsources, hrole, hrecent, hstop, hreports⟩ := linked_hears station c
    rw [heard_linking station h]
    split
    · exact ⟨rfl, hsources, hrole, hrecent, hstop, hreports⟩
    · exact ⟨rfl, hsources, hrole, hrecent, hstop, hreports⟩

end Heard

/-! ## The report queue apart from the orders -/

/-- The radio record with another stop number and another list of recent orders. -/
def Vrl.withOrders (v : Vrl) (stop : Option Nat) (recent : List OrderEntry) : Vrl := { v with stopNumber := stop, recent := recent }

section Orders
variable (v : Vrl) (stop : Option Nat) (recent : List OrderEntry)

theorem Vrl.join_withOrders (r : Report) : (v.withOrders stop recent).join r = (v.join r).withOrders stop recent := by
  unfold Vrl.join
  rw [show (v.withOrders stop recent).reports = v.reports from rfl]
  split
  · rfl
  · cases r with
    | position p =>
      dsimp only
      split <;> rfl
    | alarm source level stamp detail car => rfl
    | ack number result ok duplicate relay =>
      dsimp only
      split <;> rfl

theorem Vrl.pump_withOrders (train : Nat) : (v.withOrders stop recent).pump train = (v.pump train).withOrders stop recent := by
  unfold Vrl.pump
  rw [show (v.withOrders stop recent).reports = v.reports from rfl,
    show (v.withOrders stop recent).transmit = v.transmit from rfl]
  split <;> rfl

theorem Vrl.queueReport_withOrders (train : Nat) (r : Report) :
    (v.withOrders stop recent).queueReport train r = (v.queueReport train r).withOrders stop recent := by
  unfold Vrl.queueReport
  rw [show (v.withOrders stop recent).role = v.role from rfl]
  split
  · rw [Vrl.join_withOrders, Vrl.pump_withOrders]
  · rfl

theorem alarmed_withOrders (c : Car) (src : Source) (detail : Nat) :
    alarmed { c with vrl := c.vrl.withOrders stop recent } src detail = (alarmed c src detail).withOrders stop recent := by
  unfold alarmed
  dsimp only
  split
  · exact Vrl.queueReport_withOrders ..
  · rfl

end Orders

/-- A report that waits stays when an alarm joins it. -/
theorem alarmed_mem {c : Car} {r : Report} (hbusy : c.vrl.transmit ≠ none) (h : r ∈ c.vrl.reports) (src : Source) (detail : Nat) :
    r ∈ (alarmed c src detail).reports := by
  unfold alarmed
  dsimp only
  split
  · unfold Vrl.queueReport
    split
    · rw [Vrl.pump_busy (by rwa [Vrl.join_transmit])]
      unfold Vrl.join
      split
      · exact List.mem_append_left _ h
      · exact h
    · exact h
  · exact h

end Sys2Proof.Machine
end

section
/-! An order handled in the radio car: executed, relayed, entered and acknowledged (R160, R163, R164). -/

namespace Sys2Proof.Machine

/-! ## Acknowledgements -/

theorem outcomeOf_eq (kind : Nat) (r : Result) : outcomeOf kind r =
    decide (r = .accepted ∨ r = .acceptedClamped ∨ (r = .notFound ∧ (kind = 2 ∨ kind = 4))) := by
  rw [Bool.eq_iff_iff, decide_eq_true_iff, outcomeOf]
  simp only [Bool.or_eq_true, Bool.and_eq_true, beq_iff_eq, or_assoc]

/-! ## The relay (R164) -/

/-- Whether the originate queue takes a relay. -/
def Car.relayState (c : Car) : RelayState := if c.lif.nonReplyRoom = true then .placed else .dropped

/-- The part with a relay placed, or refused with ORIGINATE_FULL. -/
def Car.relays (c : Car) (kind number : Nat) (body : List Byte) : Car := placeNonReply (.radioRelay kind number body) c

section Relays
variable (c : Car) (kind number : Nat) (body : List Byte)

theorem placeRelay_eq : placeRelay kind number body c = (c.relayState, c.relays kind number body) := rfl

theorem relays_eq : c.relays kind number body = if c.lif.nonReplyRoom = true then
    { c with lif := c.lif.append c.vrl.link [.radioRelay kind number body] } else occur .originateFull 556 c := rfl

/-- What a relay leaves: the queue of the line or the events and the reports. -/
theorem relays_frame : c.relays kind number body = { c with
    lif := (c.relays kind number body).lif, evr := (c.relays kind number body).evr, vrl := (c.relays kind number body).vrl } := by
  rw [relays_eq]
  split
  · rfl
  · rfl

theorem relays_sameCar : c.lif.SameCar (c.relays kind number body).lif := by
  rw [relays_eq]
  split
  · exact Lif.append_sameCar ..
  · exact ⟨rfl, rfl⟩

theorem relays_sources : c.evr.SameSources (c.relays kind number body).evr := by
  rw [relays_eq]
  split
  · exact .refl _
  · exact Evr.take_sameSources ..

theorem relays_sameLink : c.vrl.SameLink (c.relays kind number body).vrl := by
  rw [relays_eq]
  split
  · exact .refl _
  · exact occur_sameLink ..

theorem relays_alarmed : c.vrl.Alarmed 1 (c.relays kind number body).vrl := by
  rw [relays_eq]
  split
  · exact fun _ => ⟨rfl, Nat.le_succ _⟩
  · exact (occur_alarms ..).reports

variable {c kind number body}

/-- The queue of the line after a relay depends on the queue before and the link state alone. -/
theorem relays_lif_congr {d : Car} (hlif : d.lif = c.lif) (hlink : d.vrl.link = c.vrl.link) :
    (d.relays kind number body).lif = (c.relays kind number body).lif := by
  rw [relays_eq, relays_eq, hlif, hlink]
  split
  · rfl
  · exact hlif

/-- The reports after a relay, of two parts that differ in their orders and pending flags alone. -/
theorem relays_vrl_congr {d : Car} {stop : Option Nat} {recent : List OrderEntry} (hvrl : d.vrl = c.vrl.withOrders stop recent)
    (hlif : d.lif = c.lif) (hnow : d.now = c.now) (hevr : c.evr.SameSources d.evr) :
    (d.relays kind number body).vrl = (c.relays kind number body).vrl.withOrders stop recent := by
  have halarm : alarmed d .originateFull 556 = (alarmed c .originateFull 556).withOrders stop recent := by
    rw [← alarmed_withOrders]
    exact alarmed_congr (c := { c with vrl := c.vrl.withOrders stop recent }) hvrl (by rw [hlif]; exact ⟨rfl, rfl⟩) hnow hevr ..
  rw [relays_eq, relays_eq, hlif]
  split
  · exact hvrl
  · exact halarm

/-- ORIGINATE_FULL stands after a relay that is refused. -/
theorem relays_pending (h : c.lif.nonReplyRoom = false) :
    ((c.relays kind number body).evr.source 30).pending = true ∨ c.evr.sources.length ≤ 30 := by
  rw [relays_eq, h]
  exact Evr.take_pending ..

end Relays

/-! ## A new order handled (R160) -/

/-- The entry of an order executed in the radio car. -/
def Car.entryOf (c : Car) (kind number : Nat) (body : List Byte) (result : Result) : OrderEntry :=
  ⟨number, kind, body, result, c.relayState⟩

/-- The part `d` that an order left, with its stop number, relayed. -/
def Car.relaying (d : Car) (kind number : Nat) (body : List Byte) (stop : Option Nat) : Car :=
  Car.relays { d with vrl := { d.vrl with stopNumber := stop } } kind number body

/-- A relayed part with an order entered and acknowledged and with ORDER_EXECUTED. -/
def Car.closed (x : Car) (e : OrderEntry) : Car :=
  occur .orderExecuted e.number (acknowledge e.number e.kind e.result false e.relay (enter e x))

/-- The part `d` that an order left, relayed, entered, acknowledged and with ORDER_EXECUTED. -/
def Car.finished (d : Car) (kind number : Nat) (body : List Byte) (result : Result) (stop : Option Nat) : Car :=
  (d.relaying kind number body stop).closed (d.entryOf kind number body result)

theorem closed_frame (x : Car) (e : OrderEntry) : x.closed e = { x with vrl := (x.closed e).vrl, evr := (x.closed e).evr } := rfl

theorem runOrder_eq {o : Order} {number : Nat} {body : List Byte} {c d : Car} {result : Result} {stop : Option Nat}
    (ho : Ordered o number c result stop d) (hpoll : orderCode o ≠ 6) (hstop : result ≠ .faultStop) :
    runOrder o number body c = d.finished (orderCode o) number body result stop := by
  unfold runOrder
  rw [ho.eq]
  dsimp only
  rw [if_neg (not_or.2 ⟨hpoll, hstop⟩)]
  rfl

/-- What an order finished leaves of the part that the order left. -/
theorem finished_blocks (d : Car) (kind number : Nat) (body : List Byte) (result : Result) (stop : Option Nat) :
    d.finished kind number body result stop = { d with
      lif := (d.finished kind number body result stop).lif
      evr := (d.finished kind number body result stop).evr
      vrl := (d.finished kind number body result stop).vrl } := by
  rw [Car.finished, closed_frame]
  generalize ((d.relaying kind number body stop).closed (d.entryOf kind number body result)).vrl = v
  generalize ((d.relaying kind number body stop).closed (d.entryOf kind number body result)).evr = e
  rw [Car.relaying, relays_frame]

section Finished
variable {o : Order} {c d : Car} {kind number : Nat} {body : List Byte} {result : Result} {stop : Option Nat}

/-- The radio record of a part `c` whose order, relay and entry have left `w`: the acknowledgement and ORDER_EXECUTED follow. -/
def Car.acknowledged (c : Car) (w : Vrl) (number : Nat) (r : Report) : Vrl :=
  (occur .orderExecuted number (sendReport r { c with vrl := w })).vrl

/-- The radio record that the relay and the entry leave. -/
def Car.entering (d : Car) (kind number : Nat) (body : List Byte) (result : Result) (stop : Option Nat) : Vrl :=
  (enter (d.entryOf kind number body result) (d.relaying kind number body stop)).vrl

variable (ho : Ordered o number c result stop d)
include ho

theorem Ordered.finished_lif : (d.finished kind number body result stop).lif = (c.relays kind number body).lif := by
  have hlink : d.vrl.link = c.vrl.link := ho.alarms.link.link
  have hlif : (d.relaying kind number body stop).lif = (c.relays kind number body).lif := relays_lif_congr ho.alarms.lif hlink
  rw [Car.finished, closed_frame]
  exact hlif

theorem Ordered.relayState : d.relayState = c.relayState := by rw [Car.relayState, Car.relayState, ho.alarms.lif]

theorem Ordered.relaying_sources : c.evr.SameSources (d.relaying kind number body stop).evr :=
  ho.alarms.sources.trans (relays_sources { d with vrl := { d.vrl with stopNumber := stop } } ..)

theorem Ordered.relaying_now : (d.relaying kind number body stop).now = c.now := by
  rw [Car.relaying, relays_frame]
  exact ho.alarms.now

theorem Ordered.finished_vrl : (d.finished kind number body result stop).vrl =
    (c.relays kind number body).acknowledged (d.entering kind number body result stop) number
      (.ack number result (outcomeOf kind result) false c.relayState) := by
  have hlif : (d.relaying kind number body stop).lif = (c.relays kind number body).lif := by
    have hfinished := ho.finished_lif (kind := kind) (body := body)
    rwa [Car.finished, closed_frame] at hfinished
  have hnow : (c.relays kind number body).now = c.now := by rw [relays_frame]
  refine alarmed_congr (c := sendReport (.ack number result (outcomeOf kind result) false c.relayState)
    { c.relays kind number body with vrl := d.entering kind number body result stop })
    (d := acknowledge number kind result false d.relayState
      (enter (d.entryOf kind number body result) (d.relaying kind number body stop))) ?_ ?_
    (ho.relaying_now.trans hnow.symm) ((relays_sources ..).symm.trans ho.relaying_sources) ..
  · show (d.entering kind number body result stop).queueReport (d.relaying kind number body stop).lif.params.trainId
      (.ack number result (outcomeOf kind result) false d.relayState) = _
    rw [hlif, ho.relayState]
    rfl
  · show (c.relays kind number body).lif.SameCar (d.relaying kind number body stop).lif
    rw [hlif]
    exact ⟨rfl, rfl⟩

theorem Ordered.relaying_sameLink : ({ c.vrl with stopNumber := stop } : Vrl).SameLink (d.relaying kind number body stop).vrl := by
  have hlink := relays_sameLink { d with vrl := { d.vrl with stopNumber := stop } } kind number body
  have horder : ({ c.vrl with stopNumber := stop } : Vrl).SameLink { d.vrl with stopNumber := stop } := by
    rw [ho.alarms.link]
    rfl
  exact horder.trans hlink

/-- What the relay and the entry leave of the radio record, apart from the report queue. -/
theorem Ordered.entering_fields : (d.entering kind number body result stop).role = c.vrl.role ∧
    (d.entering kind number body result stop).link = c.vrl.link ∧
    (d.entering kind number body result stop).stopNumber = stop ∧
    (d.entering kind number body result stop).recent = enterOrder (c.entryOf kind number body result) c.vrl.recent := by
  have hlink := ho.relaying_sameLink (kind := kind) (body := body)
  have hrecent : (d.relaying kind number body stop).vrl.recent = c.vrl.recent := (congrArg Vrl.recent hlink :)
  refine ⟨(congrArg Vrl.role hlink :), (congrArg Vrl.link hlink :), (congrArg Vrl.stopNumber hlink :), ?_⟩
  show enterOrder (d.entryOf kind number body result) (d.relaying kind number body stop).vrl.recent = _
  rw [hrecent, Car.entryOf, ho.relayState]
  rfl

/-- An order that makes no occurrence: the radio record after the relay and the entry. -/
theorem Ordered.entering_quiet (hvrl : d.vrl = c.vrl) : d.entering kind number body result stop =
    { (c.relays kind number body).vrl with
      recent := enterOrder (c.entryOf kind number body result) c.vrl.recent
      stopNumber := stop } := by
  have horders : ({ d.vrl with stopNumber := stop } : Vrl) = c.vrl.withOrders stop c.vrl.recent := by
    rw [hvrl]
    rfl
  have hrelay : (d.relaying kind number body stop).vrl = (c.relays kind number body).vrl.withOrders stop c.vrl.recent :=
    relays_vrl_congr horders ho.alarms.lif ho.alarms.now ho.alarms.sources
  show ({ (d.relaying kind number body stop).vrl with
    recent := enterOrder (d.entryOf kind number body result) (d.relaying kind number body stop).vrl.recent } : Vrl) = _
  rw [hrelay, Car.entryOf, ho.relayState]
  rfl

theorem Ordered.finished_link : (d.finished kind number body result stop).vrl.link = c.vrl.link := by
  obtain ⟨-, hlink, -, -⟩ := ho.entering_fields (kind := kind) (body := body)
  rw [ho.finished_vrl]
  refine (occur_sameLink (sendReport _ { c.relays kind number body with vrl := d.entering kind number body result stop })
    .orderExecuted number).link.trans ((Vrl.queueReport_sameLink ..).link.trans hlink)

/-- The acknowledgement waits in the report queue when the modem is busy and there is room for what else the order reports. -/
theorem Ordered.finished_mem (hrole : c.vrl.role = .radio) (hbusy : c.vrl.transmit ≠ none) (hroom : c.vrl.reports.length ≤ 4) :
    .ack number result (outcomeOf kind result) false c.relayState ∈ (d.finished kind number body result stop).vrl.reports := by
  obtain ⟨hrole', -, -, -⟩ := ho.entering_fields (kind := kind) (body := body)
  obtain ⟨hd, hdlength⟩ := ho.alarms.reports hbusy
  have hdbusy : ({ d.vrl with stopNumber := stop } : Vrl).transmit ≠ none := by
    rw [show ({ d.vrl with stopNumber := stop } : Vrl).transmit = d.vrl.transmit from rfl, hd]
    exact hbusy
  obtain ⟨hx, hxlength⟩ := relays_alarmed { d with vrl := { d.vrl with stopNumber := stop } } kind number body hdbusy
  have hebusy : (d.entering kind number body result stop).transmit ≠ none := by
    rw [show (d.entering kind number body result stop).transmit = _ from hx]
    exact hdbusy
  have helength : (d.entering kind number body result stop).reports.length < 8 := by
    have hle : (d.entering kind number body result stop).reports.length ≤ d.vrl.reports.length + 1 := hxlength
    omega
  have hqueue (train : Nat) (r : Report) : (d.entering kind number body result stop).queueReport train r =
      { d.entering kind number body result stop with reports := (d.entering kind number body result stop).reports ++ [r] } :=
    (Vrl.queueReport_busy (hrole'.trans hrole) train hebusy r).trans (Vrl.join_room helength)
  rw [ho.finished_vrl]
  refine alarmed_mem (c := sendReport _ { c.relays kind number body with vrl := d.entering kind number body result stop })
    ?_ ?_ .orderExecuted number
  · show ((d.entering kind number body result stop).queueReport _ _).transmit ≠ none
    rw [hqueue]
    exact hebusy
  · show _ ∈ ((d.entering kind number body result stop).queueReport _ _).reports
    rw [hqueue]
    exact List.mem_append_right _ (List.mem_singleton_self _)

/-- ORDER_EXECUTED stands, and with a relay refused ORIGINATE_FULL does. -/
theorem Ordered.finished_pending :
    (((d.finished kind number body result stop).evr.source 23).pending = true ∨ c.evr.sources.length ≤ 23) ∧
    (c.lif.nonReplyRoom = false →
      ((d.finished kind number body result stop).evr.source 30).pending = true ∨ c.evr.sources.length ≤ 30) := by
  have hevr : (d.finished kind number body result stop).evr = (d.relaying kind number body stop).evr.take
      (d.relaying kind number body stop).now .orderExecuted number := rfl
  obtain ⟨hlength, -⟩ := ho.relaying_sources (kind := kind) (body := body)
  rw [hevr]
  refine ⟨?_, fun hfull => ?_⟩
  · rw [hlength]
    exact Evr.take_pending ..
  · have hrefused : ({ d with vrl := { d.vrl with stopNumber := stop } } : Car).lif.nonReplyRoom = false := by
      show d.lif.nonReplyRoom = false
      rw [ho.alarms.lif, hfull]
    rw [ho.alarms.sources.1]
    exact (relays_pending hrefused).imp_left ((Evr.raises_take ..).pending 30)

end Finished

end Sys2Proof.Machine
end

section
/-! Radio frames and orders, case by case (R152, R160, R163). -/

namespace Sys2Proof.Machine

/-! ## Frames -/

section Frames
variable {bytes : List Byte} {c : Car} {f : RadioFrame}

theorem radioReceived_follower (h : c.vrl.role = .follower) : radioReceived bytes c = c := if_pos h

theorem radioReceived_invalid (hrole : c.vrl.role = .radio) (h : parseRadio bytes = none ∨ ∃ f, parseRadio bytes = some f ∧
    (f.train ≠ c.lif.params.trainId ∨ c.lif.params.trainId = 0 ∨ f.station < 1 ∨ 4 < f.station)) :
    radioReceived bytes c = { c with vrl := { c.vrl with invalidFrames := bump c.vrl.invalidFrames } } := by
  have hvalid : validFrame c.lif.params.trainId bytes = none := by
    unfold validFrame
    rcases h with h | ⟨f, hf, hbad⟩
    · rw [h]
    · rw [hf]
      exact if_neg (by omega)
  unfold radioReceived
  rw [if_neg (by rw [hrole]; nofun), hvalid]

theorem radioReceived_valid (hrole : c.vrl.role = .radio) (hf : parseRadio bytes = some f)
    (htrain : f.train = c.lif.params.trainId) (hzero : c.lif.params.trainId ≠ 0) (h1 : 1 ≤ f.station) (h4 : f.station ≤ 4) :
    radioReceived bytes c = if plainKind f.kind then c.heard f.station else handleOrder f (c.heard f.station) := by
  have hvalid : validFrame c.lif.params.trainId bytes = some f := by
    unfold validFrame
    rw [hf]
    exact if_pos ⟨htrain, hzero, h1, h4⟩
  unfold radioReceived
  rw [if_neg (by rw [hrole]; nofun), hvalid]
  rfl

/-! ## Orders -/

theorem orderCode_bounds (o : Order) : 1 ≤ orderCode o ∧ orderCode o ≤ 6 := by
  cases o <;> exact ⟨Nat.le_of_ble_eq_true rfl, Nat.le_of_ble_eq_true rfl⟩

theorem find_new {number : Nat} (hnew : ∀ e ∈ c.vrl.recent, e.number ≠ number) :
    (c.vrl.recent.find? fun e => e.number == number) = none :=
  List.find?_eq_none.2 fun e he => by rw [beq_iff_eq]; exact hnew e he

variable (hstop : c.brk.faultStop = false) (hnumber : f.number ≠ 0)

theorem handleOrder_ignored (h : f.number = 0 ∨ c.brk.faultStop = true) : handleOrder f c = c := if_pos h.symm

include hstop hnumber

theorem handleOrder_unknown (h : ¬(1 ≤ f.kind ∧ f.kind ≤ 6)) :
    handleOrder f c = acknowledge f.number f.kind .unknownKind false .none c := by
  have hkind : orderKind f.kind = false := decide_eq_false h
  unfold handleOrder
  rw [if_neg (by rw [hstop]; simpa using hnumber), hkind]
  rfl

variable (h1 : 1 ≤ f.kind) (h6 : f.kind ≤ 6)
include h1 h6

theorem handleOrder_order : handleOrder f c =
    ((c.vrl.recent.find? fun e => e.number == f.number).elim
      ((parseOrder f.kind f.body).elim
        (acknowledge f.number f.kind .range false .none (enter ⟨f.number, f.kind, f.body, .range, .none⟩ c))
        fun o => runOrder o f.number f.body c)
      fun e => repeatOrder e c) := by
  have hkind : orderKind f.kind = true := decide_eq_true ⟨h1, h6⟩
  unfold handleOrder
  rw [if_neg (by rw [hstop]; simpa using hnumber), hkind, if_neg (by decide)]
  cases (c.vrl.recent.find? fun e => e.number == f.number) with
  | some e => rfl
  | none => cases parseOrder f.kind f.body <;> rfl

theorem handleOrder_known {e : OrderEntry} (hmem : e ∈ c.vrl.recent) (he : e.number = f.number)
    (honly : ∀ x ∈ c.vrl.recent, x.number = f.number → x = e) : handleOrder f c = repeatOrder e c := by
  have hfind : (c.vrl.recent.find? fun e => e.number == f.number) = some e := by
    cases hfind : c.vrl.recent.find? fun e => e.number == f.number with
    | none => exact absurd (beq_iff_eq.2 he) (List.find?_eq_none.1 hfind e hmem)
    | some x =>
      have hnumber : (x.number == f.number) = true := List.find?_some (p := fun e : OrderEntry => e.number == f.number) hfind
      rw [honly x (List.mem_of_find?_eq_some hfind) (beq_iff_eq.1 hnumber)]
  rw [handleOrder_order hstop hnumber h1 h6, hfind]
  rfl

variable (hnew : ∀ e ∈ c.vrl.recent, e.number ≠ f.number)
include hnew

theorem handleOrder_unread (hparse : parseOrder f.kind f.body = none) : handleOrder f c =
    acknowledge f.number f.kind .range false .none (enter ⟨f.number, f.kind, f.body, .range, .none⟩ c) := by
  rw [handleOrder_order hstop hnumber h1 h6, find_new hnew, hparse]
  rfl

theorem handleOrder_new {o : Order} (hparse : parseOrder f.kind f.body = some o) :
    handleOrder f c = runOrder o f.number f.body c := by
  rw [handleOrder_order hstop hnumber h1 h6, find_new hnew, hparse]
  rfl

end Frames

/-! ## Known numbers (R163) -/

section Known
variable {c : Car} {e : OrderEntry}

theorem repeatOrder_answered (h : e.relay ≠ .dropped) (honly : ∀ x ∈ c.vrl.recent, x.number = e.number → x = e) :
    repeatOrder e c = acknowledge e.number e.kind e.result true e.relay c := by
  have hmap : (c.vrl.recent.map fun x => if x.number = e.number then { x with relay := e.relay } else x) = c.vrl.recent := by
    refine (List.map_congr_left fun x hx => ?_).trans (List.map_id _)
    by_cases hnumber : x.number = e.number
    · rw [if_pos hnumber, honly x hx hnumber]
      rfl
    · exact if_neg hnumber
  unfold repeatOrder
  rw [if_neg h]
  dsimp only
  rw [hmap]

theorem repeatOrder_relayed (h : e.relay = .dropped) : repeatOrder e c =
    acknowledge e.number e.kind e.result true c.relayState { c.relays e.kind e.number e.body with
      vrl := { (c.relays e.kind e.number e.body).vrl with
        recent := c.vrl.recent.map fun x => if x.number = e.number then { x with relay := c.relayState } else x } } := by
  have hrecent : (c.relays e.kind e.number e.body).vrl.recent = c.vrl.recent := by
    rw [relays_sameLink c e.kind e.number e.body]
  unfold repeatOrder
  rw [if_pos h, placeRelay_eq]
  dsimp only
  rw [hrecent]

end Known

/-! ## A poll (R161) -/

theorem Intact.runOrder_poll {c : Car} (hi : Intact c) (number : Nat) (body : List Byte) : runOrder .positionPoll number body c =
    occur .orderExecuted number (acknowledge number 6 .accepted false .none (enter ⟨number, 6, body, .accepted, .none⟩
      (sendReport (.position (positionNow number c)) c))) := by
  rw [← hi.reportPosition]
  rfl

end Sys2Proof.Machine
end

section
/-! O58: the orders of a radio frame, each taken to its end. -/

namespace Sys2Proof.Machine

section Exec
variable {s : State} (hr : Ready s)
include hr

theorem Ready.exec_radioFrame (bytes : List Byte) :
    exec (.radioFrameReceived bytes) s = .next ⟨settle (radioReceived bytes s.car), s.pending⟩ :=
  congrArg Host.Outcome.next (hr.run _)

/-- A frame that leaves the blocks that the outputs are decided from leaves a part whose outputs are decided. -/
theorem Ready.exec_radioFrame_kept {bytes : List Byte} {d : Car} (hd : radioReceived bytes s.car = d)
    (hdor : d.dor = s.car.dor) (hbrk : d.brk = s.car.brk) (hodo : d.odo = s.car.odo)
    (hrecord : d.ssv.record = s.car.ssv.record) : exec (.radioFrameReceived bytes) s = .next ⟨d, s.pending⟩ := by
  rw [hr.exec_radioFrame, hd, hr.settle_kept hdor hbrk hodo hrecord]

end Exec

/-! ## What a frame heard leaves alone -/

section Hears
variable {c d : Car} (h : Hears c d)
include h

theorem Hears.dor : d.dor = c.dor := (congrArg Car.dor h.frame :)
theorem Hears.brk : d.brk = c.brk := (congrArg Car.brk h.frame :)
theorem Hears.odo : d.odo = c.odo := (congrArg Car.odo h.frame :)
theorem Hears.pst : d.pst = c.pst := (congrArg Car.pst h.frame :)
theorem Hears.tlf : d.tlf = c.tlf := (congrArg Car.tlf h.frame :)
theorem Hears.lif : d.lif = c.lif := (congrArg Car.lif h.frame :)
theorem Hears.now : d.now = c.now := (congrArg Car.now h.frame :)
theorem Hears.record : d.ssv.record = c.ssv.record := (congrArg (fun c : Car => c.ssv.record) h.frame :)
theorem Hears.restrictions : d.ssv.restrictions = c.ssv.restrictions := (congrArg (fun c : Car => c.ssv.restrictions) h.frame :)
theorem Hears.overflow : d.ssv.overflow = c.ssv.overflow := (congrArg (fun c : Car => c.ssv.overflow) h.frame :)

end Hears

/-! ## The end of an order -/

/-- A frame of the radio car that carries an order, outside fault stop, with the part that link supervision leaves. -/
structure Carries (bytes : List Byte) (f : RadioFrame) (s : State) (heard : Car) : Prop where
  role : s.car.vrl.role = .radio
  hears : Hears s.car heard
  received : radioReceived bytes s.car = if plainKind f.kind then heard else handleOrder f heard
  stop : s.car.brk.faultStop = false
  number : f.number ≠ 0

/-- What an order ends with: its relay, entry, acknowledgement and ORDER_EXECUTED, on the part that the order left. -/
def Car.ended (d : Car) (f : RadioFrame) (result : Result) (stop : Option Nat) : Car :=
  d.finished f.kind f.number f.body result stop

theorem ended_blocks (d : Car) (f : RadioFrame) (result : Result) (stop : Option Nat) : d.ended f result stop = { d with
    lif := (d.ended f result stop).lif, evr := (d.ended f result stop).evr, vrl := (d.ended f result stop).vrl } :=
  finished_blocks ..

/-- The radio record of an order that makes no occurrence of its own. -/
def Car.done (heard : Car) (f : RadioFrame) (result : Result) (stop : Option Nat) : Vrl :=
  (heard.relays f.kind f.number f.body).acknowledged { (heard.relays f.kind f.number f.body).vrl with
    recent := enterOrder (heard.entryOf f.kind f.number f.body result) heard.vrl.recent
    stopNumber := stop } f.number (.ack f.number result (outcomeOf f.kind result) false heard.relayState)

/-- A part left with the line, the radio record and the events that an order ends with, and its other blocks as they were. -/
structure Ends (f : RadioFrame) (s : State) (heard d : Car) (result : Result) (stop : Option Nat) (t : State) : Prop where
  pending : t.pending = s.pending
  lif : t.car.lif = (heard.relays f.kind f.number f.body).lif
  tlf : t.car.tlf = s.car.tlf
  odo : t.car.odo = s.car.odo
  dor : t.car.dor = s.car.dor
  pst : t.car.pst = d.pst
  vrl : t.car.vrl = (d.ended f result stop).vrl
  evr : t.car.evr = (d.ended f result stop).evr

theorem Ordered.quiet {f : RadioFrame} {s : State} {heard d : Car} {o : Order} {result : Result} {stop : Option Nat}
    (ho : Ordered o f.number heard result stop d) {t : State} (he : Ends f s heard d result stop t) (hvrl : d.vrl = heard.vrl) :
    t.car.vrl = heard.done f result stop := by
  rw [he.vrl, Car.ended, ho.finished_vrl, ho.entering_quiet hvrl]
  rfl

/-- A part left with the line, the other blocks and the events as every order but a delivery and a poll leaves them. -/
structure Took (f : RadioFrame) (s : State) (heard : Car) (t : State) : Prop where
  pending : t.pending = s.pending
  lif : t.car.lif = (heard.relays f.kind f.number f.body).lif
  tlf : t.car.tlf = s.car.tlf
  odo : t.car.odo = s.car.odo
  pst : t.car.pst = s.car.pst
  dor : t.car.dor = s.car.dor
  link : t.car.vrl.link = heard.vrl.link
  executed : (t.car.evr.source 23).pending = true ∨ s.car.evr.sources.length ≤ 23
  refused : s.car.lif.nonReplyRoom = false → (t.car.evr.source 30).pending = true ∨ s.car.evr.sources.length ≤ 30

/-- The acknowledgement of an order, whatever it occurs with. -/
def Acknowledges (f : RadioFrame) (s : State) (heard : Car) (result : Result) (stop : Option Nat) (t : State) : Prop :=
  (∃ w : Vrl, w.role = .radio ∧ w.recent = enterOrder (heard.entryOf f.kind f.number f.body result) heard.vrl.recent ∧
    w.stopNumber = stop ∧ t.car.vrl = (heard.relays f.kind f.number f.body).acknowledged w f.number
      (.ack f.number result (outcomeOf f.kind result) false heard.relayState)) ∧
  (s.car.vrl.transmit ≠ none → s.car.vrl.reports.length < 4 →
    .ack f.number result (outcomeOf f.kind result) false heard.relayState ∈ t.car.vrl.reports)

section Carries
variable {bytes : List Byte} {f : RadioFrame} {s : State} {heard : Car} (hc : Carries bytes f s heard)
include hc

theorem Carries.recents (hnew : ∀ e ∈ s.car.vrl.recent, e.number ≠ f.number) : ∀ e ∈ heard.vrl.recent, e.number ≠ f.number := by
  rw [hc.hears.recent]
  exact hnew

theorem Carries.handled (hkind : ¬f.kind ∈ [16, 32, 33, 34]) : radioReceived bytes s.car = handleOrder f heard := by
  rw [hc.received]
  exact if_neg (by rw [plainKind, decide_eq_true_iff]; exact hkind)

theorem Carries.handled_order (h1 : 1 ≤ f.kind) (h6 : f.kind ≤ 6) : radioReceived bytes s.car = handleOrder f heard := by
  refine hc.handled ?_
  simp only [List.mem_cons, List.not_mem_nil, or_false]
  omega

theorem Carries.running : heard.brk.faultStop = false := by rw [hc.hears.brk, hc.stop]

variable {o : Order} {result : Result} {stop : Option Nat} {d : Car}

theorem Carries.run (hkind : orderCode o = f.kind) (hparse : parseOrder f.kind f.body = some o) (hpoll : f.kind ≠ 6)
    (hnew : ∀ e ∈ s.car.vrl.recent, e.number ≠ f.number) (ho : Ordered o f.number heard result stop d)
    (hresult : result ≠ .faultStop) : radioReceived bytes s.car = d.ended f result stop := by
  have hbounds := orderCode_bounds o
  rw [hkind] at hbounds
  obtain ⟨h1, h6⟩ := hbounds
  rw [hc.handled_order h1 h6, handleOrder_new hc.running hc.number h1 h6 (hc.recents hnew) hparse,
    runOrder_eq ho (by rwa [hkind]) hresult, hkind]
  rfl

variable (ho : Ordered o f.number heard result stop d)
include ho

theorem Carries.ends : Ends f s heard d result stop ⟨d.ended f result stop, s.pending⟩ := by
  have hblocks := ended_blocks d f result stop
  exact ⟨rfl, ho.finished_lif, (congrArg Car.tlf hblocks :).trans (ho.tlf.trans hc.hears.tlf),
    (congrArg Car.odo hblocks :).trans (ho.odo.trans hc.hears.odo), (congrArg Car.dor hblocks :).trans (ho.dor.trans hc.hears.dor),
    (congrArg Car.pst hblocks :), rfl, rfl⟩

/-- The events and the link state that an order ends with. -/
theorem Carries.pending {t : State} (he : Ends f s heard d result stop t) : t.car.vrl.link = heard.vrl.link ∧
    ((t.car.evr.source 23).pending = true ∨ s.car.evr.sources.length ≤ 23) ∧
    (s.car.lif.nonReplyRoom = false → (t.car.evr.source 30).pending = true ∨ s.car.evr.sources.length ≤ 30) := by
  obtain ⟨hexecuted, hrefused⟩ := ho.finished_pending (kind := f.kind) (body := f.body)
  rw [← hc.hears.sources.1] at hexecuted hrefused
  rw [hc.hears.lif] at hrefused
  rw [he.vrl, he.evr]
  exact ⟨ho.finished_link, hexecuted, hrefused⟩

theorem Carries.took {t : State} (he : Ends f s heard d result stop t) (hpst : d.pst = s.car.pst) : Took f s heard t := by
  obtain ⟨hlink, hexecuted, hrefused⟩ := hc.pending ho he
  exact ⟨he.pending, he.lif, he.tlf, he.odo, he.pst.trans hpst, he.dor, hlink, hexecuted, hrefused⟩

theorem Carries.after {t : State} (he : Ends f s heard d result stop t) : Acknowledges f s heard result stop t := by
  obtain ⟨hrole, -, hstop, hrecent⟩ := ho.entering_fields (kind := f.kind) (body := f.body)
  unfold Acknowledges
  rw [he.vrl]
  refine ⟨⟨_, hrole.trans (hc.hears.role.trans hc.role), hrecent, hstop, ho.finished_vrl⟩, fun hbusy hroom => ?_⟩
  obtain ⟨htransmit, hlength⟩ := hc.hears.reports hbusy
  exact ho.finished_mem (hc.hears.role.trans hc.role) (by rwa [htransmit]) (hlength.trans (Nat.succ_le_of_lt hroom))

/-- An order that leaves the brakes and the speed supervision as they were. -/
theorem Carries.exec_kept (hr : Ready s) (hrun : radioReceived bytes s.car = d.ended f result stop)
    (hbrk : d.brk = s.car.brk) (hrecord : d.ssv.record = s.car.ssv.record) :
    ∃ t, exec (.radioFrameReceived bytes) s = .next t ∧ Ends f s heard d result stop t ∧ t.car.brk = s.car.brk ∧
      t.car.ssv = d.ssv := by
  have hends := hc.ends ho
  have hblocks := ended_blocks d f result stop
  have hbrakes := (congrArg Car.brk hblocks :).trans hbrk
  have hspeed := (congrArg (fun c : Car => c.ssv.record) hblocks :).trans hrecord
  exact ⟨_, hr.exec_radioFrame_kept hrun hends.dor hbrakes hends.odo hspeed, hends, hbrakes, (congrArg Car.ssv hblocks :)⟩

/-- An order that starts or ends a stop condition decides the brakes anew. -/
theorem Carries.exec_stop (hr : Ready s) (hrun : radioReceived bytes s.car = d.ended f result stop)
    (hproven : d.brk.doorsProven = s.car.brk.doorsProven) (hhold : d.brk.doorHold = s.car.brk.doorHold)
    (hcondition : d.brk.conditions.door = s.car.brk.conditions.door) (hcause : d.brk.causes.door = s.car.brk.causes.door) :
    ∃ t, exec (.radioFrameReceived bytes) s = .next t ∧ Ends f s heard d result stop t ∧
      t.car = brkJudge (d.ended f result stop) ∧ t.car = settle (d.ended f result stop) ∧
      t.car.brk.conditions = d.brk.conditions ∧ t.car.brk.causes = d.brk.causes := by
  have hends := hc.ends ho
  have hblocks := ended_blocks d f result stop
  have hbrk : (d.ended f result stop).brk = d.brk := (congrArg Car.brk hblocks :)
  have hsettle := hr.settle_stop (d := d.ended f result stop) hends.dor hends.odo (by rw [hbrk, hproven]) (by rw [hbrk, hhold])
    (by rw [hbrk, hcondition]) (by rw [hbrk, hcause])
  have hstep := hr.exec_radioFrame bytes
  rw [hrun] at hstep
  refine ⟨_, hstep, ?_, hsettle, rfl, ?_, ?_⟩
  · rw [hsettle]
    exact ⟨hends.pending, hends.lif, hends.tlf, hends.odo, hends.dor, hends.pst, hends.vrl, hends.evr⟩
  · rw [hsettle]
    exact (congrArg Brk.conditions hbrk :)
  · rw [hsettle]
    exact (congrArg Brk.causes hbrk :)

end Carries

end Sys2Proof.Machine
end

section
/-! O58: each kind of order of a radio frame. -/

namespace Sys2Proof.Machine

/-- A RESTRICTION CANCEL carries its id in one byte. -/
theorem restrictionCancel_byte {body : List Byte} {id : Nat} (h : parseOrder 2 body = some (.restrictionCancel id)) : id ≤ 255 := by
  rcases body with _ | ⟨b, _ | ⟨_, _⟩⟩
  · cases h
  · cases h
    exact Nat.le_of_lt_succ b.isLt
  · cases h

section Orders
variable {bytes : List Byte} {f : RadioFrame} {s : State} {heard : Car} (hr : Ready s) (hc : Carries bytes f s heard)
  (hnew : ∀ e ∈ s.car.vrl.recent, e.number ≠ f.number)
include hr hc hnew

theorem Carries.remoteStop (hkind : f.kind = 3) (hbody : f.body = []) : ∃ t, exec (.radioFrameReceived bytes) s = .next t ∧
    Took f s heard t ∧ t.car.brk.conditions.radioStop = true ∧
    (s.car.brk.conditions.radioStop = true →
      t.car.vrl = heard.done f .accepted (some f.number) ∧ t.car.brk = s.car.brk) ∧
    (s.car.brk.conditions.radioStop = false → Acknowledges f s heard .accepted (some f.number) t ∧
      t.car.brk.causes.radioStop.map CauseRecord.present = some true ∧ ∀ ch, (t.car.brk.channels.get ch).command = .apply) := by
  have hparse : parseOrder f.kind f.body = some .remoteStop := by
    rw [hkind, hbody]
    rfl
  cases hcond : s.car.brk.conditions.radioStop with
  | true =>
    have ho := ordered_remoteStop_again f.number heard (by rw [hc.hears.brk, hcond])
    have hrun := hc.run (o := .remoteStop) hkind.symm hparse (by omega) hnew ho nofun
    obtain ⟨t, hstep, hends, hbrk, -⟩ := hc.exec_kept ho hr hrun hc.hears.brk hc.hears.record
    exact ⟨t, hstep, hc.took ho hends hc.hears.pst, by rw [hbrk, hcond], fun _ => ⟨ho.quiet hends rfl, hbrk⟩, nofun⟩
  | false =>
    have ho := ordered_remoteStop_new f.number heard (by rw [hc.hears.brk, hcond])
    have hrun := hc.run (o := .remoteStop) hkind.symm hparse (by omega) hnew ho nofun
    have hconditions := causeStart_conditions .radioStop heard
    have hcauses := causeStart_causes (cause := .radioStop) (c := heard)
    obtain ⟨t, hstep, hends, -, hsettled, hcondition, hcause⟩ := hc.exec_stop ho hr hrun
      ((causeStart_doorsProven ..).trans (congrArg Brk.doorsProven hc.hears.brk))
      ((causeStart_doorHold ..).trans (congrArg Brk.doorHold hc.hears.brk))
      ((congrArg PerCause.door hconditions).trans (congrArg (fun b : Brk => b.conditions.door) hc.hears.brk))
      ((congrArg PerCause.door hcauses).trans (congrArg (fun b : Brk => b.causes.door) hc.hears.brk))
    obtain ⟨r, hheld, hpresent⟩ := causeStart_record .radioStop heard
    have hheld' : t.car.brk.causes.radioStop = some r := (congrArg PerCause.radioStop hcause).trans hheld
    refine ⟨t, hstep, hc.took ho hends ((causeStart_pst ..).trans hc.hears.pst), ?_, nofun, fun _ =>
      ⟨hc.after ho hends, (congrArg (Option.map CauseRecord.present) hheld').trans (congrArg some hpresent), ?_⟩⟩
    · exact (congrArg PerCause.radioStop hcondition).trans (congrArg PerCause.radioStop hconditions)
    · rw [hsettled]
      refine settle_apply (cause := .radioStop) (r := r) nofun ?_
      rw [ended_blocks]
      exact hheld

theorem Carries.stopRelease {n : Nat} (hkind : f.kind = 4) (hn : n < 65536) (hbody : f.body = beBytes 2 n) :
    ∃ t, exec (.radioFrameReceived bytes) s = .next t ∧ Took f s heard t ∧ t.car.ssv = heard.ssv ∧
    (s.car.brk.conditions.radioStop = false →
      t.car.vrl = heard.done f .notFound s.car.vrl.stopNumber ∧ t.car.brk = s.car.brk) ∧
    (s.car.brk.conditions.radioStop = true → s.car.vrl.stopNumber ≠ some n →
      t.car.vrl = heard.done f .state s.car.vrl.stopNumber ∧ t.car.brk = s.car.brk) ∧
    (s.car.brk.conditions.radioStop = true → s.car.vrl.stopNumber = some n → t.car.vrl = heard.done f .accepted none ∧
      t.car.brk.conditions.radioStop = false ∧
      t.car.brk.causes.radioStop = s.car.brk.causes.radioStop.map fun r => { r with present := false }) := by
  have hparse : parseOrder f.kind f.body = some (.stopRelease n) := by
    rw [hkind, hbody]
    exact congrArg (fun k => some (Order.stopRelease k)) (be_beBytes_of_lt (k := 2) hn)
  have hnumber := hc.hears.stopNumber
  cases hcond : s.car.brk.conditions.radioStop with
  | false =>
    have ho := ordered_stopRelease_unheld (number := f.number) (c := heard) (named := n) (by rw [hc.hears.brk, hcond])
    have hrun := hc.run (o := .stopRelease n) hkind.symm hparse (by omega) hnew ho nofun
    obtain ⟨t, hstep, hends, hbrk, hssv⟩ := hc.exec_kept ho hr hrun hc.hears.brk hc.hears.record
    exact ⟨t, hstep, hc.took ho hends hc.hears.pst, hssv, fun _ => ⟨hnumber ▸ ho.quiet hends rfl, hbrk⟩, nofun, nofun⟩
  | true =>
    by_cases hstop : s.car.vrl.stopNumber = some n
    · have ho := ordered_stopRelease_taken (number := f.number) (c := heard) (named := n) (by rw [hc.hears.brk, hcond])
        (hnumber.trans hstop)
      have hrun := hc.run (o := .stopRelease n) hkind.symm hparse (by omega) hnew ho nofun
      have hbrk := hc.hears.brk
      obtain ⟨t, hstep, hends, hjudged, -, hcondition, hcause⟩ := hc.exec_stop ho hr hrun (congrArg Brk.doorsProven hbrk :)
        (congrArg Brk.doorHold hbrk :) (congrArg (fun b : Brk => b.conditions.door) hbrk :)
        (congrArg (fun b : Brk => b.causes.door) hbrk :)
      have hblocks := ended_blocks (causeEnd .radioStop heard) f .accepted none
      have hssv : t.car.ssv = heard.ssv := by
        have havailable := hr.brakes.available
        rw [← hbrk] at havailable
        rw [hjudged, brkJudge_ssv_same]
        · exact (congrArg Car.ssv hblocks :)
        · rw [hblocks]
          exact havailable
      refine ⟨t, hstep, hc.took ho hends hc.hears.pst, hssv, nofun, fun _ h => absurd hstop h,
        fun _ _ => ⟨ho.quiet hends rfl, ?_, ?_⟩⟩
      · rw [hcondition]
        rfl
      · rw [hcause, ← hbrk]
        rfl
    · have ho := ordered_stopRelease_other (number := f.number) (c := heard) (named := n) (by rw [hc.hears.brk, hcond])
        (by rwa [hnumber])
      have hrun := hc.run (o := .stopRelease n) hkind.symm hparse (by omega) hnew ho nofun
      obtain ⟨t, hstep, hends, hbrk, hssv⟩ := hc.exec_kept ho hr hrun hc.hears.brk hc.hears.record
      exact ⟨t, hstep, hc.took ho hends hc.hears.pst, hssv, nofun, fun _ _ => ⟨hnumber ▸ ho.quiet hends rfl, hbrk⟩,
        fun _ h => absurd h hstop⟩

theorem Carries.restrictionAdd {id low high speed appliesTo : Nat} (hkind : f.kind = 1)
    (hparse : parseOrder 1 f.body = some (.restrictionAdd id low high speed appliesTo)) :
    let fits := 1 ≤ id ∧ id ≤ 255 ∧ low ≤ high ∧ high ≤ 1999999 ∧ AppliesTo.ofCode appliesTo ≠ none
    ∃ t, exec (.radioFrameReceived bytes) s = .next t ∧ Took f s heard t ∧ t.car.brk = s.car.brk ∧
      (¬fits → t.car.vrl = heard.done f .range s.car.vrl.stopNumber ∧ t.car.ssv = heard.ssv) ∧
      (∀ a, fits → AppliesTo.ofCode appliesTo = some a →
        s.car.ssv.restrictions.length < 16 ∨ (∃ r ∈ s.car.ssv.restrictions, r.id = id) →
        t.car.vrl = heard.done f (if speed ≤ 40 then .accepted else .acceptedClamped) s.car.vrl.stopNumber ∧
        (∀ r, r ∈ t.car.ssv.restrictions ↔ r = ⟨id, low, high, min 40 speed, a, .radio f.number⟩ ∨
          (r ∈ s.car.ssv.restrictions ∧ r.id ≠ id)) ∧ t.car.ssv.waiting.cause = true) ∧
      (fits → 16 ≤ s.car.ssv.restrictions.length → (∀ r ∈ s.car.ssv.restrictions, r.id ≠ id) →
        Acknowledges f s heard .listFull s.car.vrl.stopNumber t ∧ t.car.ssv.restrictions = s.car.ssv.restrictions ∧
        ((∃ x ∈ t.car.ssv.overflow, x.id = id ∧ x.speed ≤ min 40 speed) ∨ t.car.ssv.saturated = true)) := by
  intro fits
  rw [← hkind] at hparse
  have ho := ordered_restrictionAdd (number := f.number) (c := heard) id low high speed appliesTo
  have hlists := restrictionAdd_listsOnly id low high speed appliesTo (.radio f.number) heard
  have hnumber := hc.hears.stopNumber
  have hsame := hc.hears.restrictions
  have hranged (hunfit : ¬fits) := restrictionAdd_unfit (c := heard) (speed := speed) (origin := .radio f.number) hunfit
  have hresult : (Machine.restrictionAdd id low high speed appliesTo (.radio f.number) heard).1 ≠ .faultStop := by
    unfold Machine.restrictionAdd
    split
    · nofun
    · split
      · dsimp only
        split <;> nofun
      · nofun
  have hrun := hc.run (o := .restrictionAdd id low high speed appliesTo) hkind.symm hparse (by omega) hnew ho hresult
  obtain ⟨t, hstep, hends, hbrk, hssv⟩ := hc.exec_kept ho hr hrun ((congrArg Car.brk hlists :).trans hc.hears.brk)
    ((congrArg (fun c : Car => c.ssv.record) hlists :).trans hc.hears.record)
  refine ⟨t, hstep, hc.took ho hends ((congrArg Car.pst hlists :).trans hc.hears.pst), hbrk, fun hunfit => ?_,
    fun a hfit ha hroom => ?_, fun hfit hfull hother => ?_⟩
  · have hquiet := ho.quiet hends (by rw [hranged hunfit])
    rw [hranged hunfit] at hquiet hssv
    exact ⟨hnumber ▸ hquiet, hssv⟩
  · rw [← hsame] at hroom
    obtain ⟨htaken, hvrl, hmem, hcause⟩ := restrictionAdd_listed (c := heard) (origin := .radio f.number) (speed := speed) hfit ha
      hroom rfl
    have hquiet := ho.quiet hends hvrl
    rw [htaken, hnumber] at hquiet
    rw [hssv, ← hsame]
    exact ⟨hquiet, hmem, hcause⟩
  · rw [← hsame] at hfull hother
    obtain ⟨hrefused, hleft, hmark⟩ := restrictionAdd_refused (c := heard) (origin := .radio f.number) (speed := speed) hfit hfull
      hother rfl
    have hafter := hc.after ho hends
    rw [hrefused, hnumber] at hafter
    rw [hssv, ← hsame]
    exact ⟨hafter, hleft, hmark⟩

theorem Carries.restrictionCancel {id : Nat} (hkind : f.kind = 2) (hparse : parseOrder 2 f.body = some (.restrictionCancel id)) :
    let held := (∃ r ∈ s.car.ssv.restrictions, r.id = id) ∨ ∃ x ∈ s.car.ssv.overflow, x.id = id
    ∃ t, exec (.radioFrameReceived bytes) s = .next t ∧ Took f s heard t ∧ t.car.brk = s.car.brk ∧
      (id = 0 → t.car.vrl = heard.done f .range s.car.vrl.stopNumber ∧ t.car.ssv = heard.ssv) ∧
      (id ≠ 0 → ¬held → t.car.vrl = heard.done f .notFound s.car.vrl.stopNumber ∧ t.car.ssv = heard.ssv) ∧
      (id ≠ 0 → held → t.car.vrl = heard.done f .accepted s.car.vrl.stopNumber ∧ t.car.ssv.waiting.cause = true ∧
        t.car.ssv.restrictions = (s.car.ssv.restrictions.filter fun r => !(r.id == id)) ∧
        t.car.ssv.overflow = (s.car.ssv.overflow.filter fun x => !(x.id == id))) := by
  intro held
  have hbyte : id ≤ 255 := restrictionCancel_byte hparse
  rw [← hkind] at hparse
  have ho := ordered_restrictionCancel (number := f.number) (c := heard) id
  have hlists := restrictionCancel_listsOnly id heard
  have hnumber := hc.hears.stopNumber
  have hsame := hc.hears.restrictions
  have hover := hc.hears.overflow
  have hresult : (Machine.restrictionCancel id heard).1 ≠ .faultStop := by
    unfold Machine.restrictionCancel
    split
    · nofun
    · split
      · nofun
      · nofun
  have hrun := hc.run (o := .restrictionCancel id) hkind.symm hparse (by omega) hnew ho hresult
  obtain ⟨t, hstep, hends, hbrk, hssv⟩ := hc.exec_kept ho hr hrun ((congrArg Car.brk hlists :).trans hc.hears.brk)
    ((congrArg (fun c : Car => c.ssv.record) hlists :).trans hc.hears.record)
  refine ⟨t, hstep, hc.took ho hends ((congrArg Car.pst hlists :).trans hc.hears.pst), hbrk, fun hid => ?_, fun hid hnone => ?_,
    fun hid hin => ?_⟩
  · have hrange := restrictionCancel_range (id := id) (c := heard) (by omega)
    have hquiet := ho.quiet hends (by rw [hrange])
    rw [hrange] at hquiet hssv
    exact ⟨hnumber ▸ hquiet, hssv⟩
  · obtain ⟨hnoRestriction, hnoEntry⟩ := not_or.1 hnone
    have habsent := restrictionCancel_absent (id := id) (c := heard) (by omega)
      (fun r hm heq => hnoRestriction ⟨r, hsame ▸ hm, heq⟩) fun x hm heq => hnoEntry ⟨x, hover ▸ hm, heq⟩
    have hquiet := ho.quiet hends (by rw [habsent])
    rw [habsent] at hquiet hssv
    exact ⟨hnumber ▸ hquiet, hssv⟩
  · unfold held at hin
    rw [← hsame, ← hover] at hin
    obtain ⟨htaken, hvrl, hcause, hleft, hentries⟩ := restrictionCancel_taken (c := heard) (by omega) hbyte hin rfl
    have hquiet := ho.quiet hends hvrl
    rw [htaken, hnumber] at hquiet
    rw [hssv, ← hsame, ← hover]
    exact ⟨hquiet, hcause, hleft, hentries⟩

theorem Carries.segmentDelivery {b : SegmentBody} (hi : Intact s.car) (hkind : f.kind = 5)
    (hparse : parseOrder 5 f.body = some (.segmentDelivery b)) :
    ∃ t, exec (.radioFrameReceived bytes) s = .next t ∧
      Ends f s heard (segmentArrival b heard).2 (segmentArrival b heard).1 s.car.vrl.stopNumber t ∧
      Acknowledges f s heard (segmentArrival b heard).1 s.car.vrl.stopNumber t ∧ t.car.ssv = (segmentArrival b heard).2.ssv ∧
      t.car.brk = s.car.brk ∧ t.car.vrl.link = heard.vrl.link ∧
      ((t.car.evr.source 23).pending = true ∨ s.car.evr.sources.length ≤ 23) := by
  rw [← hkind] at hparse
  have hintact : Intact heard := fun x hx => hi x (hc.hears.pst ▸ hx)
  have ho := hintact.ordered_segmentDelivery (number := f.number) (b := b)
  obtain ⟨-, ⟨hstore, hrecord⟩, hresult⟩ := hintact.segmentArrival_alarms b
  have hrun := hc.run (o := .segmentDelivery b) hkind.symm hparse (by omega) hnew ho hresult
  obtain ⟨t, hstep, hends, hbrk, hssv⟩ := hc.exec_kept ho hr hrun ((congrArg Car.brk hstore :).trans hc.hears.brk)
    (hrecord.trans hc.hears.record)
  obtain ⟨hlink, hexecuted, -⟩ := hc.pending ho hends
  have hafter := hc.after ho hends
  rw [hc.hears.stopNumber] at hends hafter
  exact ⟨t, hstep, hends, hafter, hssv, hbrk, hlink, hexecuted⟩

end Orders

end Sys2Proof.Machine
end

section
/-! O58: the radio car's frames and orders, put together. -/

namespace Sys2Proof.Machine

section Known
variable {bytes : List Byte} {f : RadioFrame} {s : State} {heard : Car} (hr : Ready s) (hc : Carries bytes f s heard)
include hr hc

/-- A report queued by a frame that does nothing else. -/
theorem Carries.exec_sent (r : Report) {c : Car} (hframe : c = { heard with lif := c.lif, evr := c.evr, vrl := c.vrl })
    (hline : heard.lif.SameCar c.lif) (hrun : radioReceived bytes s.car = sendReport r c) :
    exec (.radioFrameReceived bytes) s =
      .next ⟨{ c with vrl := c.vrl.queueReport s.car.lif.params.trainId r }, s.pending⟩ := by
  have hsend : sendReport r c = { c with vrl := c.vrl.queueReport s.car.lif.params.trainId r } := by
    rw [sendReport, hline.params, hc.hears.lif]
  rw [hsend] at hrun
  exact hr.exec_radioFrame_kept hrun ((congrArg Car.dor hframe :).trans hc.hears.dor)
    ((congrArg Car.brk hframe :).trans hc.hears.brk) ((congrArg Car.odo hframe :).trans hc.hears.odo)
    ((congrArg (fun c : Car => c.ssv.record) hframe :).trans hc.hears.record)

theorem Carries.unknownKind (hkind : f.kind ∉ [1, 2, 3, 4, 5, 6, 16, 32, 33, 34]) :
    exec (.radioFrameReceived bytes) s = .next ⟨{ heard with
      vrl := heard.vrl.queueReport s.car.lif.params.trainId (.ack f.number .unknownKind false false .none) }, s.pending⟩ := by
  simp only [List.mem_cons, List.not_mem_nil, or_false, not_or] at hkind
  have hrun := hc.handled (by simp only [List.mem_cons, List.not_mem_nil, or_false]; omega)
  rw [handleOrder_unknown hc.running hc.number (by omega)] at hrun
  exact hc.exec_sent hr _ rfl ⟨rfl, rfl⟩ hrun

section Order
variable (h1 : 1 ≤ f.kind) (h6 : f.kind ≤ 6)
include h1 h6

theorem Carries.unread (hnew : ∀ e ∈ s.car.vrl.recent, e.number ≠ f.number) (hparse : parseOrder f.kind f.body = none) :
    exec (.radioFrameReceived bytes) s = .next ⟨{ heard with
      vrl := Vrl.queueReport { heard.vrl with
        recent := enterOrder ⟨f.number, f.kind, f.body, .range, .none⟩ heard.vrl.recent }
        s.car.lif.params.trainId (.ack f.number .range false false .none) }, s.pending⟩ := by
  have hrun := hc.handled_order h1 h6
  rw [handleOrder_unread hc.running hc.number h1 h6 (hc.recents hnew) hparse] at hrun
  exact hc.exec_sent hr _ (c := enter ⟨f.number, f.kind, f.body, .range, .none⟩ heard) rfl ⟨rfl, rfl⟩ hrun

variable {e : OrderEntry} (hmem : e ∈ s.car.vrl.recent) (hsame : e.number = f.number)
  (honly : ∀ x ∈ s.car.vrl.recent, x.number = f.number → x = e)
include hmem hsame honly

theorem Carries.repeated (hrelay : e.relay ≠ .dropped) : exec (.radioFrameReceived bytes) s = .next ⟨{ heard with
    vrl := heard.vrl.queueReport s.car.lif.params.trainId
      (.ack e.number e.result (outcomeOf e.kind e.result) true e.relay) }, s.pending⟩ := by
  have hrun := hc.handled_order h1 h6
  have hrecent := hc.hears.recent
  rw [handleOrder_known hc.running hc.number h1 h6 (by rwa [hrecent]) hsame (by rwa [hrecent]),
    repeatOrder_answered hrelay (by rw [hrecent, hsame]; exact honly)] at hrun
  exact hc.exec_sent hr _ rfl ⟨rfl, rfl⟩ hrun

theorem Carries.repeated_relayed (hrelay : e.relay = .dropped) : exec (.radioFrameReceived bytes) s =
    .next ⟨{ heard.relays e.kind e.number e.body with
      vrl := Vrl.queueReport { (heard.relays e.kind e.number e.body).vrl with
        recent := s.car.vrl.recent.map fun x => if x.number = e.number then { x with relay := heard.relayState } else x }
        s.car.lif.params.trainId (.ack e.number e.result (outcomeOf e.kind e.result) true heard.relayState) }, s.pending⟩ := by
  have hrun := hc.handled_order h1 h6
  have hrecent := hc.hears.recent
  rw [handleOrder_known hc.running hc.number h1 h6 (by rwa [hrecent]) hsame (by rwa [hrecent]), repeatOrder_relayed hrelay,
    hrecent] at hrun
  have hframe := relays_frame heard e.kind e.number e.body
  have hline := relays_sameCar heard e.kind e.number e.body
  generalize heard.relays e.kind e.number e.body = c at hframe hline hrun
  exact hc.exec_sent hr _ (c := { c with vrl := { c.vrl with
    recent := s.car.vrl.recent.map fun x => if x.number = e.number then { x with relay := heard.relayState } else x } })
    (by rw [hframe]) hline hrun

end Order

theorem Carries.polled (hi : Intact s.car) (hkind : f.kind = 6) (hbody : f.body = [])
    (hnew : ∀ e ∈ s.car.vrl.recent, e.number ≠ f.number) : ∃ t, exec (.radioFrameReceived bytes) s = .next t ∧
    t.pending = s.pending ∧ t.car = { heard with vrl := t.car.vrl, evr := t.car.evr } ∧
    ((t.car.evr.source 23).pending = true ∨ s.car.evr.sources.length ≤ 23) ∧
    t.car.vrl = heard.acknowledged { heard.vrl.queueReport s.car.lif.params.trainId (.position (positionNow f.number heard)) with
      recent := enterOrder ⟨f.number, f.kind, f.body, .accepted, .none⟩ heard.vrl.recent } f.number
      (.ack f.number .accepted true false .none) := by
  have hparse : parseOrder f.kind f.body = some .positionPoll := by
    rw [hkind, hbody]
    rfl
  have hintact : Intact heard := fun x hx => hi x (hc.hears.pst ▸ hx)
  have hrun := hc.handled_order (by omega) (by omega)
  rw [handleOrder_new hc.running hc.number (by omega) (by omega) (hc.recents hnew) hparse, hintact.runOrder_poll] at hrun
  refine ⟨_, hr.exec_radioFrame_kept hrun hc.hears.dor hc.hears.brk hc.hears.odo hc.hears.record, rfl, rfl, ?_, ?_⟩
  · rw [hc.hears.sources.1]
    exact Evr.take_pending ..
  · rw [hkind, ← hc.hears.lif]
    have hrecent : (heard.vrl.queueReport heard.lif.params.trainId (.position (positionNow f.number heard))).recent =
        heard.vrl.recent := by rw [Vrl.queueReport_sameLink heard.vrl heard.lif.params.trainId]
    rw [← hrecent]
    rfl

end Known

/-- Settles O58: a frame moves link supervision, and each order is the result of its block, relayed, entered and acknowledged. -/
theorem radioFramesAreTaken : Obligations.RadioFramesAreTaken := by
  intro bytes s hr hi v train i
  refine ⟨fun hrole => ?_, fun hrole hbad => ?_, fun f hrole hf htrain hzero h1 h4 => ?_⟩
  · exact hr.exec_radioFrame_kept (radioReceived_follower hrole) rfl rfl rfl rfl
  · exact hr.exec_radioFrame_kept (radioReceived_invalid hrole hbad) rfl rfl rfl rfl
  · intro supervised linked heard
    have hheard : heard = s.car.heard f.station := by
      unfold heard
      split
      · next hlink => exact (heard_lost f.station hlink).symm
      · next hlink => exact (heard_linking f.station hlink).symm
      · next hlink => exact (heard_linked f.station hlink).symm
      · next hlink => exact (heard_shadow f.station hlink).symm
    have hreceived := radioReceived_valid hrole hf htrain hzero h1 h4
    rw [← hheard] at hreceived
    have hhears := heard_hears f.station s.car
    rw [← hheard] at hhears
    clear_value heard
    refine ⟨fun hplain => ?_, fun hstop hnumber => ?_⟩
    · have hignored : radioReceived bytes s.car = heard := by
        rw [hreceived]
        by_cases hkind : plainKind f.kind = true
        · exact if_pos hkind
        · rw [if_neg hkind]
          refine handleOrder_ignored ?_
          rw [hhears.brk]
          exact hplain.resolve_left fun h => hkind (decide_eq_true h)
      exact hr.exec_radioFrame_kept hignored hhears.dor hhears.brk hhears.odo hhears.record
    have hc : Carries bytes f s heard := ⟨hrole, hhears, hreceived, hstop, hnumber⟩
    intro send entered new known succeeds room relay placed relayed executed done doneAfter framed
    have hsucceeds (kind : Nat) (result : Result) : outcomeOf kind result = succeeds kind result := outcomeOf_eq kind result
    have hrelay : heard.relayState = relay := by rw [Car.relayState, hhears.lif]
    have hplaced (kind number : Nat) (body : List Byte) : heard.relays kind number body = placed kind number body := by
      rw [relays_eq, hhears.lif]
    have hentered (result : Result) (relay : RelayState) :
        enterOrder ⟨f.number, f.kind, f.body, result, relay⟩ heard.vrl.recent = entered result relay := by
      rw [hhears.recent]
      rfl
    have hexecuted {c : Car} (hline : heard.lif.SameCar c.lif) (w : Vrl) (r : Report) :
        c.acknowledged w f.number r = executed { c with vrl := w } r := by
      unfold executed send train
      rw [Car.acknowledged, sendReport, hline.params, hhears.lif]
    have hline : heard.lif.SameCar relayed.lif := by
      have hrelays := relays_sameCar heard f.kind f.number f.body
      rwa [hplaced] at hrelays
    have hdone (result : Result) (stop : Option Nat) : heard.done f result stop = done result stop := by
      rw [Car.done, Car.entryOf, hrelay, hentered, hsucceeds, hplaced]
      exact hexecuted hline ..
    have hafter {result : Result} {stop : Option Nat} {t : State} (h : Acknowledges f s heard result stop t) :
        doneAfter result stop t := by
      obtain ⟨⟨w, hw, hrecent, hstopped, hvrl⟩, hmem⟩ := h
      rw [Car.entryOf, hrelay, hentered] at hrecent
      rw [hsucceeds, hrelay] at hvrl hmem
      rw [hplaced] at hvrl
      exact ⟨⟨w, hw, hrecent, hstopped, hvrl.trans (hexecuted hline ..)⟩, hmem⟩
    have hframed {t : State} (h : Took f s heard t) : framed t := by
      obtain ⟨hpending, hlif, htlf, hodo, hpst, hdor, hlink, hexecuted, hrefused⟩ := h
      rw [hplaced] at hlif
      exact ⟨hpending, hlif, htlf, hodo, hpst, hdor, hlink, hexecuted, hrefused⟩
    refine ⟨fun hkind => hc.unknownKind hr hkind, fun h1 h6 hnew hparse => ?_, fun e h1 h6 hknown hrelayed => ?_,
      fun e h1 h6 hknown hdropped => ?_, fun hkind hbody hnew => ?_, fun n hkind hn hbody hnew => ?_,
      fun id low high speed appliesTo hkind hparse hnew => ?_, fun id hkind hparse hnew => ?_, fun b hkind hparse hnew => ?_,
      fun hkind hbody hnew => ?_⟩
    · have hstep := hc.unread hr h1 h6 hnew hparse
      rw [hentered] at hstep
      exact hstep
    · obtain ⟨hmem, hsame, honly⟩ := hknown
      have hstep := hc.repeated hr h1 h6 hmem hsame honly hrelayed
      rw [hsucceeds] at hstep
      exact hstep
    · obtain ⟨hmem, hsame, honly⟩ := hknown
      have hstep := hc.repeated_relayed hr h1 h6 hmem hsame honly hdropped
      rw [hsucceeds, hrelay, hplaced] at hstep
      exact hstep
    · obtain ⟨t, hstep, htook, hcondition, hagain, hstarted⟩ := hc.remoteStop hr hnew hkind hbody
      rw [hdone] at hagain
      exact ⟨t, hstep, hframed htook, hcondition, hagain, fun h => (hstarted h).imp_left hafter⟩
    · obtain ⟨t, hstep, htook, hssv, hunheld, hother, htaken⟩ := hc.stopRelease hr hnew hkind hn hbody
      rw [hdone] at hunheld hother htaken
      exact ⟨t, hstep, hframed htook, hssv, hunheld, hother, htaken⟩
    · intro fits
      obtain ⟨t, hstep, htook, hbrk, hrange, htaken, hfull⟩ := hc.restrictionAdd hr hnew hkind hparse
      rw [hdone] at hrange htaken
      exact ⟨t, hstep, hframed htook, hbrk, hrange, htaken, fun h1 h2 h3 => (hfull h1 h2 h3).imp_left hafter⟩
    · intro held
      obtain ⟨t, hstep, htook, hbrk, hrange, hnone, hheld⟩ := hc.restrictionCancel hr hnew hkind hparse
      rw [hdone] at hrange hnone hheld
      exact ⟨t, hstep, hframed htook, hbrk, hrange, hnone, hheld⟩
    · intro arrival
      obtain ⟨t, hstep, hends, hack, hssv, hbrk, hlink, hexecuted⟩ := hc.segmentDelivery hr hnew hi hkind hparse
      have hlif := hends.lif
      rw [hplaced] at hlif
      exact ⟨t, hstep, hends.pending, hlif, hends.pst, hssv, hafter hack, hlink, hends.odo, hends.tlf, hbrk, hends.dor, hexecuted⟩
    · obtain ⟨t, hstep, hpending, hcar, hevent, hvrl⟩ := hc.polled hr hi hkind hbody hnew
      rw [hentered, hexecuted ⟨rfl, rfl⟩] at hvrl
      have hposition : positionNow f.number heard = { positionNow f.number s.car with
          link := heard.vrl.link
          faultStop := false } := by
        unfold positionNow
        rw [hhears.lif, hhears.now, hhears.odo, hhears.pst, hhears.brk, hstop]
      refine ⟨t, hstep, hpending, hcar, hevent, ?_⟩
      rw [hposition] at hvrl
      exact hvrl

end Sys2Proof.Machine
end

section
/-! RESTART (R187): what each block's RESTART state is (R22, R62, R81, R117, R150, R169, R195), and that handing it leaves an empty
emergency cause set as it is. -/

namespace Sys2Proof.Machine

/-! ## Conditions that end -/

/-- The EVR with a level source's condition ended, when it was present. -/
def Evr.ends (src : Source) (before : Bool) (e : Evr) : Evr :=
  if before then e.modify src.number fun r => { r with pending := false } else e

theorem levelChange_false (src : Source) (before : Bool) (detail : Nat) (c : Car) :
    levelChange src before false detail c = { c with evr := c.evr.ends src before } := by
  cases before <;> rfl

theorem Evr.ends_notices (src : Source) (before : Bool) (e : Evr) : (e.ends src before).notices = e.notices := by
  cases before <;> rfl

theorem Evr.ends_lost (src : Source) (before : Bool) (e : Evr) : (e.ends src before).lost = e.lost := by
  cases before <;> rfl

theorem Evr.ends_sameSources (src : Source) (before : Bool) (e : Evr) : e.SameSources (e.ends src before) := by
  cases before
  · exact .refl e
  · exact e.modify_pending_sameSources ..

theorem Evr.ends_pending {e : Evr} {n : Nat} (hn : n < e.sources.length) (src : Source) (before : Bool) :
    ((e.ends src before).source n).pending = ((e.source n).pending && !(before && decide (src.number = n))) := by
  cases before
  · rw [Bool.false_and, Bool.not_false, Bool.and_true]
    rfl
  · rw [Bool.true_and]
    by_cases h : src.number = n
    · rw [decide_eq_true h, Bool.not_true, Bool.and_false]
      subst h
      exact congrArg SourceRecord.pending (Evr.source_modify_self e _ hn)
    · rw [decide_eq_false h, Bool.not_false, Bool.and_true]
      exact congrArg SourceRecord.pending (Evr.source_modify_ne e _ h)

/-- A cause whose condition ends while the emergency cause set is empty leaves the set empty. -/
theorem causeChange_false {c : Car} (h : causesEmpty c.brk.causes = true) (cause : Cause) (before : Bool) :
    causeChange cause before false c = { c with brk := { c.brk with
      conditions := (causeChange cause before false c).brk.conditions } } := by
  cases before
  · rfl
  · have hnone : c.brk.causes.get cause = none := (causesEmpty_iff _).1 h cause
    have hset : c.brk.causes.set cause ((c.brk.causes.get cause).map fun r => { r with present := false }) = c.brk.causes := by
      rw [hnone]
      exact PerCause.set_self hnone
    show causeEnd cause c = { c with brk := { c.brk with conditions := (causeEnd cause c).brk.conditions } }
    rw [causeEnd, hset]

/-! ## The blocks one by one -/

section Blocks
variable (c : Car)

theorem restartLif_eq : ∃ dist waiting, restartLif c = { c with
    lif := { c.lif with demand := { c.lif.demand with direction := .neutral, load := .full } }
    odo := { c.odo with rollbackDist := dist }
    ssv := { c.ssv with waiting := waiting } } := by
  have hchanged (d : Car) : commandChanged .neutral d = ssvCause { d with odo := { d.odo with rollbackDist := 0 } } := by
    rw [commandChanged]
    exact congrArg ssvCause (if_pos rfl)
  unfold restartLif
  dsimp only
  rw [hchanged]
  by_cases hdirection : c.lif.demand.direction = .neutral
  · by_cases hload : c.lif.demand.load = .full
    · exact ⟨c.odo.rollbackDist, c.ssv.waiting, by rw [if_pos hdirection, if_pos hload]⟩
    · exact ⟨c.odo.rollbackDist, ⟨true, c.ssv.waiting.update⟩, by rw [if_pos hdirection, if_neg hload]; rfl⟩
  · by_cases hload : c.lif.demand.load = .full
    · exact ⟨0, ⟨true, c.ssv.waiting.update⟩, by rw [if_neg hdirection, if_pos hload]; rfl⟩
    · exact ⟨0, ⟨true, c.ssv.waiting.update⟩, by rw [if_neg hdirection, if_neg hload]; rfl⟩

/-- The events of the supervisor's conditions that end. -/
def Evr.endsSupervision (ssv : Ssv) (intervention : Bool) (e : Evr) : Evr :=
  ((((e.ends .overspeedWarning ssv.record.warning).ends .intervention intervention).ends .capabilityShort
    ssv.record.capabilityShort).ends .coverageShort ssv.record.coverageShort).ends .restrictionOverflow (!ssv.overflow.isEmpty)

/-- The supervisor's RESTART state (R81, R93). -/
def Params.restartedSsv (p : Params) : Ssv :=
  ⟨.reset p.marginW p.marginI p.marginE, [], [], false, none, ⟨true, false⟩⟩

theorem restartSsv_eq (h : causesEmpty c.brk.causes = true) : ∃ conditions, restartSsv c = { c with
    ssv := c.lif.params.restartedSsv
    brk := { c.brk with intervention := false, conditions := conditions }
    evr := c.evr.endsSupervision c.ssv c.brk.intervention } := by
  unfold restartSsv
  simp only [levelChange_false, handOverflow]
  rw [causeChange_false (by exact h)]
  exact ⟨_, levelChange_false .restrictionOverflow _ _ _⟩

theorem restartOdo_eq (h : causesEmpty c.brk.causes = true) : ∃ conditions, restartOdo c = { c with
    odo := { c.odo with travelRef := none, position := .reset, rollbackDist := 0, rollback := false }
    pst := { c.pst with table := [], coverage := none }
    brk := { c.brk with conditions := conditions }
    evr := c.evr.ends .rollback c.odo.rollback } := by
  unfold restartOdo
  simp only [levelChange_false]
  rw [causeChange_false (by exact h)]
  exact ⟨_, rfl⟩

/-- The radio record's RESTART state (R169). -/
def Vrl.restarted (v : Vrl) : Vrl := { v with
  link := .lost
  supervision := none
  shadow := none
  shadowStands := false
  follower := none
  station := 0
  stopNumber := none
  recent := []
  reports := []
  transmit := none
  statusTimer := if v.role = .radio then some 0 else none
  reportTimer := if v.role = .radio then some 0 else none }

theorem restartVrl_eq (h : c.ssv.waiting.cause = true) : restartVrl c = { c with vrl := c.vrl.restarted } := by
  have hcause (d : Car) (hd : d.ssv.waiting.cause = true) : ssvCause d = d := by
    rw [ssvCause, Ssv.cause, ← hd]
  unfold restartVrl setLink
  dsimp only
  split
  · rfl
  · exact hcause { c with vrl := c.vrl.restarted } h

theorem restartBrk_eq (h : causesEmpty c.brk.causes = true) : restartBrk c = abortTest { c with brk := { c.brk with
    conditions := c.brk.conditions.set .radioStop false
    causes := c.brk.causes.set .reset (some ⟨c.now, false⟩) } } := by
  have hnone := (causesEmpty_iff _).1 h
  have hset : c.brk.causes.set .radioStop ((c.brk.causes.get .radioStop).map fun r => { r with present := false }) =
      c.brk.causes := by
    rw [hnone]
    exact PerCause.set_self (hnone _)
  rw [restartBrk, causeEnd, hset, addCause, show PerCause.get _ .reset = none from hnone .reset]
  rfl

/-- The doors' RESTART state (R150). -/
def Dor.restarted (d : Dor) : Dor := { Dor.reset (d.leaves.map LeafRecord.contactClosed) with
  turn := d.turn
  due := d.due
  pollTimer := d.pollTimer
  proven := d.proven
  hold := d.hold
  condition := d.condition }

/-- The events of a RESTART before a test ends and the doors are judged. -/
def Car.restartedEvents (c : Car) : Evr :=
  ((restartEvr c).evr.endsSupervision c.ssv c.brk.intervention).ends .rollback c.odo.rollback

/-- Every block in its RESTART state, before a brake test ends. -/
def Car.restarting (c : Car) (conditions : PerCause Bool) : Car := { c with
  lif := { c.lif with demand := { c.lif.demand with direction := .neutral, load := .full } }
  odo := { c.odo with travelRef := none, position := .reset, rollbackDist := 0, rollback := false }
  pst := { c.pst with table := [], coverage := none }
  ssv := c.lif.params.restartedSsv
  brk := { c.brk with
    intervention := false
    conditions := conditions
    causes := c.brk.causes.set .reset (some ⟨c.now, false⟩) }
  dor := c.dor.restarted
  vrl := c.vrl.restarted
  evr := c.restartedEvents }

theorem restartBlocks_eq (h : causesEmpty c.brk.causes = true) : ∃ conditions, conditions.radioStop = false ∧
    restartBlocks c = abortTest (c.restarting conditions) := by
  obtain ⟨dist, waiting, hlif⟩ := restartLif_eq (restartEvr c)
  obtain ⟨k, hssv⟩ := restartSsv_eq { restartEvr c with
    lif := { c.lif with demand := { c.lif.demand with direction := .neutral, load := .full } }
    odo := { c.odo with rollbackDist := dist }
    ssv := { c.ssv with waiting := waiting } } h
  have hsupervised := (congrArg restartSsv hlif).trans hssv
  obtain ⟨l, hodo⟩ := restartOdo_eq { restartEvr c with
    lif := { c.lif with demand := { c.lif.demand with direction := .neutral, load := .full } }
    odo := { c.odo with rollbackDist := dist }
    ssv := c.lif.params.restartedSsv
    brk := { c.brk with intervention := false, conditions := k }
    evr := (restartEvr c).evr.endsSupervision c.ssv c.brk.intervention } h
  have hmoved := (congrArg restartOdo hsupervised).trans hodo
  refine ⟨l.set .radioStop false, rfl, ?_⟩
  rw [restartBlocks, hmoved, restartVrl_eq _ rfl, restartDor, restartBrk_eq _ (by exact h)]
  rfl

end Blocks
end Sys2Proof.Machine
end

section
/-! RESTART and the event router (R187, R190, R195): the flags it sets and clears, and the few occurrences that follow it, none of
which is lost. -/

namespace Sys2Proof.Machine

/-! ## Occurrences that find room -/

/-- Occurrences of the sources named that found room in both queues: nothing is lost. -/
structure Roomy (sources : List Nat) (c d : Car) : Prop where
  lost : d.evr.lost = c.evr.lost
  notices : d.evr.notices.length ≤ c.evr.notices.length + sources.length
  source : ∀ x ∈ d.evr.notices, x.source ∈ sources ∨ ∃ y ∈ c.evr.notices, y.source = x.source
  lostReports : d.vrl.lostReports = c.vrl.lostReports
  reports : d.vrl.reports.length ≤ c.vrl.reports.length + sources.length

theorem Roomy.of_same {c d : Car} (hnotices : d.evr.notices = c.evr.notices) (hlost : d.evr.lost = c.evr.lost)
    (hvrl : d.vrl = c.vrl) (sources : List Nat) : Roomy sources c d :=
  ⟨hlost, by rw [hnotices]; omega, fun x hx => .inr ⟨x, hnotices ▸ hx, rfl⟩, by rw [hvrl], by rw [hvrl]; omega⟩

theorem Roomy.of_before {sources : List Nat} {c d e : Car} (h : Roomy sources d e) (hevr : d.evr = c.evr) (hvrl : d.vrl = c.vrl) :
    Roomy sources c e := by
  obtain ⟨hlost, hnotices, hsource, hlostReports, hreports⟩ := h
  rw [hevr] at hlost hnotices hsource
  rw [hvrl] at hlostReports hreports
  exact ⟨hlost, hnotices, hsource, hlostReports, hreports⟩

theorem Roomy.trans {first second : List Nat} {c d e : Car} (h : Roomy first c d) (k : Roomy second d e) :
    Roomy (first ++ second) c e := by
  obtain ⟨hlost, hnotices, hsource, hlostReports, hreports⟩ := h
  obtain ⟨klost, knotices, ksource, klostReports, kreports⟩ := k
  refine ⟨klost.trans hlost, ?_, fun x hx => ?_, klostReports.trans hlostReports, ?_⟩
  · rw [List.length_append]
    omega
  · rcases ksource x hx with hk | ⟨y, hy, hyx⟩
    · exact .inl (List.mem_append_right _ hk)
    · rcases hsource y hy with hf | ⟨z, hz, hzy⟩
      · exact .inl (List.mem_append_left _ (hyx ▸ hf))
      · exact .inr ⟨z, hz, hzy.trans hyx⟩
  · rw [List.length_append]
    omega

theorem Evr.offer_room {e : Evr} (h : e.notices.length < 16) (n : Notice) : (e.offer n).lost = e.lost ∧
    (e.offer n).notices.length ≤ e.notices.length + 1 ∧
    ∀ x ∈ (e.offer n).notices, x.source = n.source ∨ ∃ y ∈ e.notices, y.source = x.source := by
  by_cases hmerge : ∃ q ∈ e.notices, q.source = n.source
  · rw [Evr.offer_merge hmerge]
    refine ⟨rfl, by rw [List.length_map]; omega, fun x hx => ?_⟩
    obtain ⟨y, hy, rfl⟩ := List.mem_map.1 hx
    exact .inr ⟨y, hy, by split <;> rfl⟩
  · have hnew : ∀ q ∈ e.notices, q.source ≠ n.source := fun q hq heq => hmerge ⟨q, hq, heq⟩
    rw [Evr.offer_new hnew, if_pos h]
    refine ⟨rfl, (insertBy_perm ..).length_eq.le, fun x hx => ?_⟩
    rcases (mem_insertBy ..).1 hx with rfl | hx
    · exact .inl rfl
    · exact .inr ⟨x, hx, rfl⟩

theorem Vrl.queueReport_room {v : Vrl} (h : v.reports.length < 8) (train : Nat) (r : Report) :
    (v.queueReport train r).lostReports = v.lostReports ∧ (v.queueReport train r).reports.length ≤ v.reports.length + 1 := by
  unfold Vrl.queueReport
  split
  · rw [Vrl.join_room h]
    refine ⟨by rw [Vrl.pump_frame], (Vrl.pump_reports_sublist ..).length_le.trans ?_⟩
    rw [List.length_append, List.length_singleton]
  · exact ⟨rfl, Nat.le_succ _⟩

theorem occur_roomy {c : Car} (hnotices : c.evr.notices.length < 16) (hreports : c.vrl.reports.length < 8) (src : Source)
    (detail : Nat) : Roomy [src.number] c (occur src detail c) := by
  have hevr : (c.evr.take c.now src detail).lost = c.evr.lost ∧
      (c.evr.take c.now src detail).notices.length ≤ c.evr.notices.length + 1 ∧
      ∀ x ∈ (c.evr.take c.now src detail).notices, x.source ∈ [src.number] ∨ ∃ y ∈ c.evr.notices, y.source = x.source := by
    unfold Evr.take
    dsimp only
    split
    · obtain ⟨hlost, hlength, hsource⟩ := Evr.offer_room
        (e := c.evr.modify src.number fun r => { r with pending := true }) hnotices
        ⟨src.number, (c.evr.source src.number).level, c.now, detail⟩
      exact ⟨hlost, hlength, fun x hx => (hsource x hx).imp_left List.mem_singleton.2⟩
    · exact ⟨rfl, Nat.le_succ _, fun x hx => .inr ⟨x, hx, rfl⟩⟩
  have hvrl : (alarmed c src detail).lostReports = c.vrl.lostReports ∧
      (alarmed c src detail).reports.length ≤ c.vrl.reports.length + 1 := by
    unfold alarmed
    dsimp only
    split
    · exact Vrl.queueReport_room hreports ..
    · exact ⟨rfl, Nat.le_succ _⟩
  exact ⟨hevr.1, hevr.2.1, hevr.2.2, hvrl.1, hvrl.2⟩

theorem levelChange_roomy {c : Car} (hnotices : c.evr.notices.length < 16) (hreports : c.vrl.reports.length < 8) (src : Source)
    (before after : Bool) (detail : Nat) : Roomy [src.number] c (levelChange src before after detail c) := by
  unfold levelChange
  split
  · exact .of_same rfl rfl rfl _
  · split
    · exact occur_roomy hnotices hreports ..
    · exact .of_same (c := c) (d := conditionEnd src c) rfl rfl rfl _

theorem abortTest_roomy {c : Car} (hnotices : c.evr.notices.length < 16) (hreports : c.vrl.reports.length < 8) :
    Roomy [15] c (abortTest c) := by
  have hended (detail : Nat) (brk : Brk) : Roomy [15] c (occur .brakeTestResult detail { c with brk := brk }) :=
    .of_before (d := { c with brk := brk })
      (occur_roomy (c := { c with brk := brk }) hnotices hreports .brakeTestResult detail) rfl rfl
  unfold abortTest
  split
  · exact .of_same rfl rfl rfl _
  · exact hended ..
  · exact hended ..

/-! ## Pending flags -/

theorem Evr.pending_of_le {e : Evr} {n : Nat} (h : e.sources.length ≤ n) : (e.source n).pending = false := by
  rw [Evr.source, List.getD_eq_default _ _ h]

theorem Evr.take_pending_iff {e : Evr} (src : Source) (h : src.number < e.sources.length) (now : Stamp) (detail n : Nat) :
    ((e.take now src detail).source n).pending = true ↔ (e.source n).pending = true ∨ n = src.number := by
  rw [Evr.take_source]
  by_cases hn : src.number = n
  · subst hn
    rw [Evr.source_modify_self e _ h]
    exact iff_of_true rfl (.inr rfl)
  · rw [Evr.source_modify_ne e _ hn]
    exact ⟨.inl, fun h => h.resolve_right fun heq => hn heq.symm⟩

theorem abortTest_pending_iff {c : Car} (h : c.evr.sources.length = 32) (n : Nat) :
    ((abortTest c).evr.source n).pending = true ↔ (c.evr.source n).pending = true ∨ (n = 15 ∧ c.brk.test ≠ .off) := by
  have htake (detail : Nat) : ((c.evr.take c.now .brakeTestResult detail).source n).pending = true ↔
      (c.evr.source n).pending = true ∨ n = 15 := Evr.take_pending_iff .brakeTestResult (by rw [h]; decide) _ _ _
  cases htest : c.brk.test with
  | off => simp [abortTest_off htest]
  | onIdle => rw [abortTest_idle_evr htest, htake]; simp
  | onSelected sel => rw [abortTest_selected_evr htest, htake]; simp

/-- A level source's flag after its condition has been handed: set or cleared with the condition, when it stood so before. -/
theorem levelChange_pending_iff {c : Car} {src : Source} (h : src.number < c.evr.sources.length) {before after : Bool}
    (hbefore : (c.evr.source src.number).pending = before) (detail n : Nat) :
    ((levelChange src before after detail c).evr.source n).pending = true ↔
      ((c.evr.source n).pending = true ∧ n ≠ src.number) ∨ (n = src.number ∧ after = true) := by
  by_cases hn : n = src.number
  · subst hn
    have hsame : ((levelChange src before after detail c).evr.source src.number).pending = after := by
      unfold levelChange
      split
      · next heq => exact hbefore.trans heq
      · split
        · next hafter => exact ((Evr.take_pending_iff src h ..).2 (.inr rfl)).trans hafter.symm
        · next hafter =>
          rw [Bool.eq_false_of_not_eq_true hafter]
          exact congrArg SourceRecord.pending (Evr.source_modify_self c.evr _ h)
    simp [hsame]
  · have hsame : ((levelChange src before after detail c).evr.source n).pending = (c.evr.source n).pending := by
      unfold levelChange
      split
      · rfl
      · split
        · exact congrArg SourceRecord.pending ((Evr.take_source ..).trans (Evr.source_modify_ne c.evr _ (Ne.symm hn)))
        · exact congrArg SourceRecord.pending (Evr.source_modify_ne c.evr _ (Ne.symm hn))
    simp [hsame, hn]

/-! ## The flags of a RESTART -/

theorem restartEvr_sameSources (c : Car) : c.evr.SameSources (restartEvr c).evr := by
  refine ⟨by simp [restartEvr], fun n => ?_⟩
  by_cases hn : n < c.evr.sources.length
  · simp [restartEvr, Evr.source, List.getD_eq_getElem?_getD, hn]
  · simp [restartEvr, Evr.source, List.getD_eq_getElem?_getD, hn]

theorem restartEvr_pending {c : Car} {n : Nat} (hn : n < c.evr.sources.length) :
    ((restartEvr c).evr.source n).pending = decide (n ∈ (presentLevels c).map Source.number) := by
  simp [restartEvr, Evr.source, List.getD_eq_getElem?_getD, hn]

theorem mem_presentLevels (c : Car) (n : Nat) : n ∈ (presentLevels c).map Source.number ↔
    (n = 2 ∧ c.ssv.record.warning = true) ∨ (n = 3 ∧ c.brk.intervention = true) ∨
    (n = 4 ∧ c.ssv.record.capabilityShort = true) ∨ (n = 5 ∧ c.ssv.record.coverageShort = true) ∨
    (n = 11 ∧ c.odo.meshShallow = true) ∨ (n = 12 ∧ c.odo.degraded = true) ∨ (n = 13 ∧ c.odo.rollback = true) ∨
    (n = 18 ∧ c.dor.proven = true) ∨ (n = 24 ∧ (!c.ssv.overflow.isEmpty) = true) ∨ (n = 29 ∧ c.lif.lineLoss = true) := by
  have hmem (l : List (Source × Bool)) : n ∈ (l.filterMap fun x => if x.2 then some x.1 else none).map Source.number ↔
      ∃ x ∈ l, n = x.1.number ∧ x.2 = true := by
    simp only [List.mem_map, List.mem_filterMap]
    constructor
    · rintro ⟨src, ⟨x, hx, hsrc⟩, rfl⟩
      split at hsrc
      · next h => exact ⟨x, hx, by rw [Option.some.inj hsrc], h⟩
      · cases hsrc
    · rintro ⟨x, hx, rfl, h⟩
      exact ⟨x.1, ⟨x, hx, if_pos h⟩, rfl⟩
  rw [presentLevels, hmem]
  simp only [List.exists_mem_cons_iff, List.not_mem_nil, false_and, exists_false, or_false]
  rfl

theorem Car.restartedEvents_sameSources (c : Car) : c.evr.SameSources c.restartedEvents :=
  (restartEvr_sameSources c).trans ((Evr.ends_sameSources ..).trans ((Evr.ends_sameSources ..).trans
    ((Evr.ends_sameSources ..).trans ((Evr.ends_sameSources ..).trans ((Evr.ends_sameSources ..).trans
    (Evr.ends_sameSources ..))))))

theorem Car.restartedEvents_frame (c : Car) : c.restartedEvents.notices = [] ∧ c.restartedEvents.lost = c.evr.lost := by
  unfold Car.restartedEvents Evr.endsSupervision
  simp only [Evr.ends_notices, Evr.ends_lost]
  exact ⟨rfl, rfl⟩

/-- The flags of a RESTART before a test ends and the doors are judged: those of the levels whose condition stays. -/
theorem Car.restartedEvents_pending {c : Car} (h : c.evr.sources.length = 32) (n : Nat) :
    (c.restartedEvents.source n).pending = true ↔ (n = 11 ∧ c.odo.meshShallow = true) ∨ (n = 12 ∧ c.odo.degraded = true) ∨
      (n = 18 ∧ c.dor.proven = true) ∨ (n = 29 ∧ c.lif.lineLoss = true) := by
  by_cases hn : n < c.evr.sources.length
  · have hlength (src : Source) (before : Bool) (e : Evr) (he : n < e.sources.length) : n < (e.ends src before).sources.length :=
      (e.ends_sameSources src before).1 ▸ he
    have h0 : n < (restartEvr c).evr.sources.length := (restartEvr_sameSources c).1 ▸ hn
    have h1 := hlength .overspeedWarning c.ssv.record.warning _ h0
    have h2 := hlength .intervention c.brk.intervention _ h1
    have h3 := hlength .capabilityShort c.ssv.record.capabilityShort _ h2
    have h4 := hlength .coverageShort c.ssv.record.coverageShort _ h3
    have h5 := hlength .restrictionOverflow (!c.ssv.overflow.isEmpty) _ h4
    rw [Car.restartedEvents, Evr.endsSupervision, Evr.ends_pending h5, Evr.ends_pending h4, Evr.ends_pending h3,
      Evr.ends_pending h2, Evr.ends_pending h1, Evr.ends_pending h0, restartEvr_pending hn]
    simp only [Bool.and_eq_true, decide_eq_true_eq, mem_presentLevels, Bool.not_eq_true', Bool.and_eq_false_imp,
      Source.number]
    grind
  · rw [Evr.pending_of_le]
    · refine iff_of_false nofun ?_
      omega
    · rw [← c.restartedEvents_sameSources.1]
      omega

end Sys2Proof.Machine
end

section
/-! RESTART taken (R187): the judgement that follows it, and what each block holds after it. -/

namespace Sys2Proof.Machine

/-! ## The brake records -/

/-- Arbitration under an emergency cause, outside fault stop and the test (R102, R103). -/
theorem judgeChannel_emergency_off {c : Car} (hstop : c.brk.faultStop = false) (hset : causesEmpty c.brk.causes = false)
    (htest : c.brk.test = .off) (ch : CogChannel) :
    judgeChannel c ch = ((c.brk.channels.get ch).takeCommand .emergency .apply).drive false := by
  have harbitrate : arbitrate c ch = (.emergency, .apply) := by
    rw [arbitrate, hstop, hset]
    rfl
  have hdrives : ((c.brk.channels.get ch).takeCommand .emergency .apply).drives none = false := by
    unfold CogRecord.drives
    split
    · rfl
    · rw [(CogRecord.takeCommand_command ..).1]
      rfl
  rw [judgeChannel, harbitrate, htest]
  exact congrArg (CogRecord.drive _) hdrives

/-- A channel commanded to apply by an emergency cause, but for its transit. -/
def CogRecord.emergencyOff (r : CogRecord) : CogRecord := { r with
  holder := .emergency
  command := .apply
  energised := false
  readback := if r.readsBack then some (r.readback.getD 0) else none
  reported := r.readsBack && r.reported }

theorem CogRecord.drive_false (r : CogRecord) : r.drive false = { r with
    energised := false
    readback := if r.readsBack then some (r.readback.getD 0) else none
    reported := r.readsBack && r.reported } := by
  unfold CogRecord.drive
  cases h : r.readsBack <;> rfl

section Channel
variable {r : CogRecord}

theorem CogRecord.emergencyOff_settled (h : r.state = .applied ∨ r.state = .applying ∨ r.state = .fault) :
    (r.takeCommand .emergency .apply).drive false = r.emergencyOff := by
  have hsettled : ¬ (BrakeCommand.apply = .apply ∧ (r.state = .released ∨ r.state = .releasing)) := by
    rintro ⟨-, hs | hs⟩ <;> rcases h with h | h | h <;> exact absurd (hs.symm.trans h) nofun
  rw [CogRecord.takeCommand, if_neg (fun hc => absurd hc.1 nofun), if_neg hsettled, CogRecord.drive_false]
  rfl

theorem CogRecord.emergencyOff_transit (h : r.state = .released ∨ r.state = .releasing) :
    (r.takeCommand .emergency .apply).drive false =
      if r.reading = .applied then { r.emergencyOff with departure := none, state := .applied, transit := none }
      else { r.emergencyOff with departure := none, state := .applying, transit := some 0 } := by
  rw [CogRecord.takeCommand, if_neg (fun hc => absurd hc.1 nofun), if_pos ⟨rfl, h⟩, CogRecord.drive_false]
  obtain ⟨state, command, holder, energised, reading, transit, departure, readsBack, readback, reported, reason⟩ := r
  cases reading <;> rfl

end Channel

/-! ## The results of a test that ends -/

theorem abortTest_results_of_unselected {c : Car} (h : c.brk.test.isSelected = false) :
    (abortTest c).brk.results = c.brk.results := by
  cases htest : c.brk.test with
  | off => rw [abortTest_off htest]
  | onIdle => simp only [abortTest, htest, occur_brk]
  | onSelected sel => rw [htest] at h; cases h

theorem abortTest_results_of_selected {c : Car} {sel : Selection} (h : c.brk.test = .onSelected sel) :
    (abortTest c).brk.results = c.brk.results.set sel.channel
      { sel.endedRecord (c.brk.results.get sel.channel) .incomplete with result := .aborted } := by
  simp only [abortTest, h, occur_brk]
  rw [Selection.endTiming_eq]
  dsimp only
  rw [PerCog.get_set_self, PerCog.set_set]

/-! ## The doors -/

theorem Dor.restarted_allSafe (d : Dor) : d.restarted.allSafe = true ↔ ∀ leaf, (d.leaves.get leaf).contactClosed = true := by
  have hleaf (l : Leaf) : ((d.restarted.leaves.get l).unsafeLeaf = false) ↔ (d.leaves.get l).contactClosed = true := by
    have hunsafe (closed : Bool) : (LeafRecord.reset closed).unsafeLeaf = !closed := by cases closed <;> rfl
    have hget : d.restarted.leaves.get l = .reset (d.leaves.get l).contactClosed := by cases l <;> rfl
    rw [hget, hunsafe, Bool.not_eq_false']
  rw [Dor.allSafe_iff]
  exact forall_congr' hleaf

theorem Dor.restarted_judge {fused : Nat} (h : fused ≤ 25) (d : Dor) : d.restarted.judge fused = { d.restarted with
    proven := d.restarted.allSafe
    hold := !d.restarted.allSafe
    condition := false } := by
  have hslow : decide (25 < fused) = false := decide_eq_false (by omega)
  rw [Dor.judge, hslow, Bool.and_false]
  rfl

/-- The judgement of doors that hand no DOOR condition, before or after. -/
theorem dorJudge_quiet {d : Car} {before after : Dor} (hdor : d.dor = before) (hjudge : before.judge d.odo.fused = after)
    (hbefore : before.condition = false) (hafter : after.condition = false) :
    dorJudge d = levelChange .doorsProven before.proven after.proven 0
      { d with dor := after, brk := { d.brk with doorsProven := after.proven, doorHold := after.hold } } := by
  subst hdor hjudge
  unfold dorJudge
  dsimp only
  rw [hbefore, hafter]
  rfl

/-! ## The part as RESTART leaves it -/

section Taken
variable (c : Car) (k : PerCause Bool)

/-- The part after a RESTART with a brake test ended and the doors' outputs given. -/
def Car.restartGiven : Car := { abortTest (c.restarting k) with
  dor := { c.dor.restarted with
    proven := c.dor.restarted.allSafe
    hold := !c.dor.restarted.allSafe
    condition := false }
  brk := { (abortTest (c.restarting k)).brk with
    doorsProven := c.dor.restarted.allSafe
    doorHold := !c.dor.restarted.allSafe } }

/-- The part after a RESTART with the doors judged, before the brakes are. -/
def Car.restartJudged : Car := levelChange .doorsProven c.dor.proven c.dor.restarted.allSafe 0 (c.restartGiven k)

theorem settle_restarting (hslow : c.odo.fused ≤ 25) (hcondition : c.dor.condition = false) :
    settle (abortTest (c.restarting k)) = brkJudge (c.restartJudged k) := by
  have hjudge : c.dor.restarted.judge (abortTest (c.restarting k)).odo.fused = { c.dor.restarted with
      proven := c.dor.restarted.allSafe
      hold := !c.dor.restarted.allSafe
      condition := false } := by
    rw [abortTest_odo]
    exact Dor.restarted_judge hslow c.dor
  exact congrArg brkJudge (dorJudge_quiet (d := abortTest (c.restarting k)) (abortTest_dor _) hjudge hcondition rfl)

theorem Car.restartJudged_frame : c.restartJudged k = { c.restarting k with
    dor := (c.restartJudged k).dor
    brk := (c.restartJudged k).brk
    evr := (c.restartJudged k).evr
    vrl := (c.restartJudged k).vrl } := by
  unfold Car.restartJudged Car.restartGiven levelChange
  rw [abortTest_frame]
  split
  · rfl
  · split <;> rfl

theorem Car.restartJudged_dor : (c.restartJudged k).dor = { c.dor.restarted with
    proven := c.dor.restarted.allSafe
    hold := !c.dor.restarted.allSafe
    condition := false } := levelChange_dor ..

theorem Car.restartJudged_brk : (c.restartJudged k).brk = { (abortTest (c.restarting k)).brk with
    doorsProven := c.dor.restarted.allSafe
    doorHold := !c.dor.restarted.allSafe } := levelChange_brk ..

theorem Car.restartJudged_sameLink : c.vrl.restarted.SameLink (c.restartJudged k).vrl :=
  (abortTest_handsOn (c.restarting k)).link.trans (levelChange_handsOn ..).link

theorem Car.restartJudged_roomy : Roomy [15, 18] (c.restarting k) (c.restartJudged k) := by
  have hnotices : (c.restarting k).evr.notices = [] := c.restartedEvents_frame.1
  have habort := abortTest_roomy (c := c.restarting k) (by rw [hnotices]; decide) Nat.succ_pos'
  have habortNotices := habort.notices
  have habortReports := habort.reports
  rw [hnotices] at habortNotices
  refine habort.trans (second := [18]) (.of_before (d := c.restartGiven k)
    (levelChange_roomy ?_ ?_ .doorsProven _ _ _) rfl rfl)
  · exact Nat.lt_of_le_of_lt habortNotices (by decide)
  · exact Nat.lt_of_le_of_lt habortReports (by decide : 1 < 8)

/-- The doors were proven before or are not now: nothing occurs as they are judged. -/
theorem Car.restartJudged_quiet (h : c.dor.proven = true ∨ c.dor.restarted.allSafe = false) :
    (c.restartJudged k).vrl = (abortTest (c.restarting k)).vrl ∧
    (c.restartJudged k).evr.notices = (abortTest (c.restarting k)).evr.notices := by
  have hquiet (d : Car) (before after : Bool) (h : before = true ∨ after = false) :
      (levelChange .doorsProven before after 0 d).vrl = d.vrl ∧
      (levelChange .doorsProven before after 0 d).evr.notices = d.evr.notices := by
    cases before <;> cases after
    · exact ⟨rfl, rfl⟩
    · simp at h
    · exact ⟨rfl, rfl⟩
    · exact ⟨rfl, rfl⟩
  exact hquiet _ _ _ h

theorem Car.restartJudged_pending (h : c.evr.sources.length = 32) (n : Nat) :
    ((c.restartJudged k).evr.source n).pending = true ↔ (n = 11 ∧ c.odo.meshShallow = true) ∨ (n = 12 ∧ c.odo.degraded = true) ∨
      (n = 15 ∧ c.brk.test ≠ .off) ∨ (n = 18 ∧ c.dor.restarted.allSafe = true) ∨ (n = 29 ∧ c.lif.lineLoss = true) := by
  have hlength : (c.restarting k).evr.sources.length = 32 := c.restartedEvents_sameSources.1.symm.trans h
  have habort (m : Nat) : ((abortTest (c.restarting k)).evr.source m).pending = true ↔
      (c.restartedEvents.source m).pending = true ∨ (m = 15 ∧ c.brk.test ≠ .off) := abortTest_pending_iff hlength m
  simp only [Car.restartedEvents_pending h] at habort
  have hproven : ((abortTest (c.restarting k)).evr.source 18).pending = c.dor.proven := by
    rw [Bool.eq_iff_iff, habort]
    simp
  have hsources : 18 < (abortTest (c.restarting k)).evr.sources.length := by
    rw [(abortTest_handsOn (c.restarting k)).length, hlength]
    decide
  refine (levelChange_pending_iff (src := .doorsProven) (by exact hsources) (by exact hproven) 0 n).trans ?_
  show ((abortTest (c.restarting k)).evr.source n).pending = true ∧ n ≠ 18 ∨ n = 18 ∧ _ ↔ _
  rw [habort]
  grind

theorem Car.restartJudged_sameSources : c.evr.SameSources (c.restartJudged k).evr := by
  refine c.restartedEvents_sameSources.trans ((abortTest_alarms (c.restarting k)).sources.trans ?_)
  exact (levelChange_alarms (c.restartGiven k) ..).sources

end Taken
end Sys2Proof.Machine
end

section
/-! O29: RESTART is refused, or every block takes its RESTART state (R187). -/

namespace Sys2Proof.Machine

section Taken
variable (c : Car) (k : PerCause Bool)

/-- What the brake record holds after a RESTART, but for the channels and the results. -/
theorem Car.restartJudged_brk_frame : (c.restartJudged k).brk = { c.brk with
    causes := c.brk.causes.set .reset (some ⟨c.now, false⟩)
    conditions := k
    doorsProven := c.dor.restarted.allSafe
    doorHold := !c.dor.restarted.allSafe
    intervention := false
    test := .off
    results := (abortTest (c.restarting k)).brk.results } := by
  have habort : (abortTest (c.restarting k)).brk = { (c.restarting k).brk with
      test := .off
      results := (abortTest (c.restarting k)).brk.results } := by
    unfold abortTest
    cases htest : (c.restarting k).brk.test with
    | off => exact congrArg (fun t => { (c.restarting k).brk with test := t }) htest
    | onIdle => rfl
    | onSelected sel =>
      dsimp only [occur_brk]
      rw [sel.endTiming_eq]
  rw [Car.restartJudged_brk, habort]
  rfl

theorem Car.restartJudged_causes : causesEmpty (c.restartJudged k).brk.causes = false := by
  rw [Car.restartJudged_brk_frame]
  exact causesEmpty_set_some _ _

/-- The channels under the cause RESET: commanded to apply and de-energised (R102, R117). -/
theorem Car.restartJudged_channel (hstop : c.brk.faultStop = false) (ch : CogChannel) :
    (brkJudge (c.restartJudged k)).brk.channels.get ch = ((c.brk.channels.get ch).takeCommand .emergency .apply).drive false := by
  have hbrk := c.restartJudged_brk_frame k
  rw [brkJudge_channel, judgeChannel_emergency_off (by rw [hbrk]; exact hstop) (c.restartJudged_causes k) (by rw [hbrk])]
  have hchannels : (c.restartJudged k).brk.channels = c.brk.channels := by rw [hbrk]
  rw [hchannels]

theorem Car.restartJudged_ssv : (brkJudge (c.restartJudged k)).ssv = c.lif.params.restartedSsv := by
  have hssv : (c.restartJudged k).ssv = c.lif.params.restartedSsv := by rw [Car.restartJudged_frame]; rfl
  rcases brkJudge_ssv (c.restartJudged k) with h | h
  · exact h.trans hssv
  · rw [h, hssv]
    rfl

/-- Without a test and with no doors that become proven nothing is reported. -/
theorem Car.restartJudged_silent (htest : c.brk.test = .off) (h : c.dor.proven = true ∨ c.dor.restarted.allSafe = false) :
    (c.restartJudged k).evr.notices = [] ∧ (c.restartJudged k).vrl = c.vrl.restarted := by
  obtain ⟨hvrl, hnotices⟩ := c.restartJudged_quiet k h
  have habort : abortTest (c.restarting k) = c.restarting k := abortTest_off htest
  rw [habort] at hvrl hnotices
  exact ⟨hnotices.trans c.restartedEvents_frame.1, hvrl⟩

theorem Car.restartJudged_source (h : c.dor.proven = true ∨ c.dor.restarted.allSafe = false) :
    ∀ x ∈ (c.restartJudged k).evr.notices, x.source = 15 := by
  have hnone : (c.restarting k).evr.notices = [] := c.restartedEvents_frame.1
  intro x hx
  rw [(c.restartJudged_quiet k h).2] at hx
  rcases (abortTest_roomy (c := c.restarting k) (by rw [hnone]; decide) Nat.succ_pos').source x hx with h15 | ⟨y, hy, -⟩
  · exact List.mem_singleton.1 h15
  · rw [hnone] at hy
    cases hy

end Taken

/-- A RESTART delivered: its answer, and the blocks when it is taken. -/
theorem exec_restart {via : Via} {s : State} (hr : Ready s) (h : Reaches via .restart s.car) :
    exec (.restart via) s = .next ⟨settle (
      if restartResult s.car = Result.accepted then restartBlocks (replied via 34 .accepted [.none] s.car)
      else replied via 34 (restartResult s.car) [.none] s.car), s.pending⟩ := by
  obtain ⟨n, hexec, hn⟩ := exec_of_reaches (i := .restart via) rfl hr h (by decide)
  obtain ⟨-, -, h0, hb⟩ := hr
  have hanswer (r : Result) := answer_of_reaches via 34 r [.none] h0 hb hn
  rw [hexec]
  show Host.Outcome.next { s with car := settle (if restartResult s.car = Result.accepted then
    restartBlocks (answer via 34 (restartResult s.car) [.none] (s.car.reserving n)) else
    answer via 34 (restartResult s.car) [.none] (s.car.reserving n)) } = _
  rw [hanswer]
  split
  · next hr => rw [hr]
  · rfl

/-- Settles O29: the blocks one by one, over the part as the judgement of the doors and the brakes leaves it. -/
theorem restartTakesEveryBlock : Obligations.RestartTakesEveryBlock := by
  intro via s hr h
  have hexec := exec_restart hr h
  refine ⟨fun hmoving => ?moving, fun hstands hset => ?set, fun hstands hempty hslow => ?taken⟩
  case moving =>
    have hresult : restartResult s.car = .notStandstill := by rw [restartResult, hmoving]; rfl
    rw [hexec, hresult, if_neg nofun, settle_replied hr.settled]
  case set =>
    have hresult : restartResult s.car = .emergencyActive := by rw [restartResult, hstands, hset]; rfl
    rw [hexec, hresult, if_neg nofun, settle_replied hr.settled]
  case taken =>
    have hresult : restartResult s.car = .accepted := by rw [restartResult, hstands, hempty]; rfl
    have hstop : s.car.brk.faultStop = false := h.2.1
    have hcondition : s.car.dor.condition = false := by
      rw [← hr.doors.judged, Dor.judge, show decide (25 < s.car.odo.fused) = false from decide_eq_false (by omega), Bool.and_false]
    rw [if_pos hresult] at hexec
    obtain ⟨k, hk, hblocks⟩ := restartBlocks_eq (replied via 34 .accepted [.none] s.car) hempty
    rw [hblocks, settle_restarting (replied via 34 .accepted [.none] s.car) k hslow hcondition] at hexec
    have htraffic := s.car.lif.answered_traffic s.car.vrl.link via 34 .accepted [.none]
    have hframes := s.car.lif.answered_frames s.car.vrl.link via 34 .accepted [.none]
    set d := replied via 34 .accepted [.none] s.car
    have hframe := d.restartJudged_frame k
    have hlif : (d.restartJudged k).lif = { s.car.lif with
        ports := d.lif.ports
        queue := d.lif.queue
        demand := { s.car.lif.demand with direction := .neutral, load := .full } } :=
      (congrArg Car.lif hframe).trans
        (congrArg (fun l : Lif => { l with demand := { l.demand with direction := .neutral, load := .full } }) htraffic)
    have hbrk := d.restartJudged_brk_frame k
    have hdor := d.restartJudged_dor k
    have hlink := d.restartJudged_sameLink k
    have hroomy := d.restartJudged_roomy k
    have hproven : (d.restartJudged k).dor.proven = s.car.dor.restarted.allSafe := congrArg Dor.proven hdor
    have hchannel := d.restartJudged_channel k hstop
    refine ⟨_, hexec, rfl, (congrArg Car.inReset hframe).trans hr.1, (congrArg Car.now hframe :),
      (congrArg Lif.frames hlif).trans hframes, (congrArg Lif.demand hlif :), (congrArg Lif.carNumber hlif :),
      (congrArg Lif.cabSide hlif :), (congrArg Lif.groups hlif :), (congrArg Lif.params hlif :),
      (congrArg Lif.lineLossTimer hlif :), (congrArg Lif.lineLoss hlif :), (congrArg Car.tlf hframe :),
      (congrArg Car.odo hframe :), (congrArg Car.pst hframe :), ?ssv, fun cause => ?causes,
      (congrArg (·.conditions.radioStop) hbrk).trans hk, congrArg Brk.test hbrk, fun ch => ?channel,
      congrArg Brk.intervention hbrk, ?holdPending, (congrArg Brk.faultStop hbrk :), (congrArg Brk.standstillSince hbrk :),
      ?svcLevel, tractionPermitted_stopped (.inr (d.restartJudged_causes k)) _, (congrArg Brk.copy hbrk :), ?available,
      (congrArg Brk.faultRecord hbrk :), (congrArg Brk.watch hbrk :), fun huntested => ?unselected, fun sel hsel => ?selected,
      (congrArg Dor.leaves hdor :), (congrArg Dor.sides hdor :), (congrArg Dor.slots hdor :), (congrArg Dor.exchange hdor :),
      (congrArg Dor.blocks hdor :), (congrArg Dor.deferred hdor :), (congrArg Dor.turn hdor :), (congrArg Dor.due hdor :),
      (congrArg Dor.pollTimer hdor :), ?proven, ?hold, (congrArg Vrl.role hlink :), (congrArg Vrl.link hlink :),
      (congrArg Vrl.supervision hlink :), (congrArg Vrl.shadow hlink :), (congrArg Vrl.follower hlink :),
      (congrArg Vrl.station hlink :), (congrArg Vrl.stopNumber hlink :), (congrArg Vrl.recent hlink :),
      (congrArg Vrl.shadowStands hlink :), (congrArg Vrl.statusTimer hlink :), (congrArg Vrl.reportTimer hlink :),
      (congrArg Vrl.invalidFrames hlink :), (congrArg Vrl.modemTimeouts hlink :), hroomy.lostReports, fun htest hquiet => ?silent,
      fun hquiet => ?source, fun hlength n => ?pending, hroomy.lost.trans d.restartedEvents_frame.2,
      (d.restartJudged_sameSources k).2⟩
    case ssv => exact (d.restartJudged_ssv k).trans (congrArg Params.restartedSsv (congrArg Lif.params htraffic :))
    case causes =>
      refine (congrArg (·.causes.get cause) hbrk).trans ?_
      by_cases hcause : cause = .reset
      · rw [if_pos hcause, hcause]
        exact PerCause.get_set_self s.car.brk.causes .reset (some ⟨s.car.now, false⟩)
      · rw [if_neg hcause]
        exact (PerCause.get_set_ne _ _ hcause).trans ((causesEmpty_iff _).1 hempty cause)
    case channel =>
      exact ⟨fun h => (hchannel ch).trans (CogRecord.emergencyOff_settled h),
        fun h hreading => (hchannel ch).trans ((CogRecord.emergencyOff_transit h).trans (if_pos hreading)),
        fun h hreading => (hchannel ch).trans ((CogRecord.emergencyOff_transit h).trans (if_neg hreading))⟩
    case holdPending =>
      show ((d.restartJudged k).brk.test.isSelected && holdPlaced (d.restartJudged k)) = false
      rw [hbrk]
      rfl
    case svcLevel => exact (serviceLevel_stopped (.inr (d.restartJudged_causes k))).trans (congrArg (max 7 ·.copy.level) hbrk)
    case available =>
      exact (brkJudge_available _).trans ((congrArg (availableCount ·.channels) hbrk).trans hr.brakes.available.symm)
    case unselected => exact (congrArg Brk.results hbrk).trans (abortTest_results_of_unselected huntested)
    case selected =>
      have hresults := (congrArg Brk.results hbrk).trans (abortTest_results_of_selected (c := d.restarting k) hsel)
      have hself := (congrArg (PerCog.get · sel.channel) hresults).trans (PerCog.get_set_self ..)
      exact ⟨congrArg TestRecord.result hself,
        fun g hg => (congrArg (TestRecord.timing · g.command) hself).trans
          ((TestRecord.timing_with_result ..).trans (sel.endedRecord_ended hg)),
        fun cmd hother => (congrArg (TestRecord.timing · cmd) hself).trans
          ((TestRecord.timing_with_result ..).trans (sel.endedRecord_timing cmd hother)),
        fun other hne => (congrArg (PerCog.get · other) hresults).trans (PerCog.get_set_ne _ _ hne)⟩
    case proven => exact (Bool.eq_iff_iff.1 hproven).trans s.car.dor.restarted_allSafe
    case hold => exact (congrArg Dor.hold hdor).trans (congrArg (!·) hproven).symm
    case silent =>
      obtain ⟨hnotices, hvrl⟩ := d.restartJudged_silent k htest (hquiet.imp_right hproven.symm.trans)
      exact ⟨hnotices, congrArg Vrl.reports hvrl, congrArg Vrl.transmit hvrl⟩
    case source => exact d.restartJudged_source k (hquiet.imp_right hproven.symm.trans)
    case pending =>
      rw [show (brkJudge (d.restartJudged k)).dor.proven = _ from hproven]
      rw [show s.car.lif.lineLoss = d.lif.lineLoss from (congrArg Lif.lineLoss htraffic :).symm]
      exact d.restartJudged_pending k hlength n

end Sys2Proof.Machine
end

section
/-! The arithmetic of an evaluation (R63, R70, R74): the first bound of the lowest value, the running minimum of a lane, and the
credit of a braking curve, which comes to the same in either lane's order. -/

namespace Sys2Proof.Machine

/-! ## The lowest bound (R63) -/

/-- The lowest bound found is the first of its value: those before it are above it and none after it is below. -/
theorem lowest_eq_some {l : List Bound} {b : Bound} (h : lowest l = some b) :
    ∃ a c, l = a ++ b :: c ∧ (∀ x ∈ a, b.1 < x.1) ∧ ∀ x ∈ c, b.1 ≤ x.1 := by
  induction l generalizing b with
  | nil => cases h
  | cons x l ih =>
    cases hl : lowest l with
    | none =>
      have hnil : l = [] := by
        cases l with
        | nil => rfl
        | cons y l =>
          rw [lowest] at hl
          split at hl
          · split at hl <;> cases hl
          · cases hl
      rw [lowest, hl] at h
      cases h
      exact ⟨[], l, rfl, nofun, by rw [hnil]; nofun⟩
    | some m =>
      obtain ⟨a, c, rfl, ha, hc⟩ := ih hl
      rw [lowest, hl] at h
      by_cases hm : m.1 < x.1
      · cases (if_pos hm).symm.trans h
        refine ⟨x :: a, c, rfl, fun y hy => ?_, hc⟩
        rcases List.mem_cons.1 hy with rfl | hy
        · exact hm
        · exact ha y hy
      · cases (if_neg hm).symm.trans h
        refine ⟨[], a ++ m :: c, rfl, nofun, fun y hy => ?_⟩
        rcases List.mem_append.1 hy with hy | hy
        · have := ha y hy
          omega
        · rcases List.mem_cons.1 hy with rfl | hy
          · omega
          · have := hc y hy
            omega

theorem lowest_ne_none {l : List Bound} (h : l ≠ []) : ∃ b, lowest l = some b := by
  cases l with
  | nil => exact absurd rfl h
  | cons x l =>
    rw [lowest]
    split
    · split
      · exact ⟨_, rfl⟩
      · exact ⟨_, rfl⟩
    · exact ⟨_, rfl⟩

/-- What gives the lowest value, with the others not below it. -/
theorem lowest_mem {l : List Bound} {b : Bound} (h : lowest l = some b) : b ∈ l ∧ ∀ x ∈ l, b.1 ≤ x.1 := by
  obtain ⟨a, c, rfl, ha, hc⟩ := lowest_eq_some h
  refine ⟨List.mem_append_right _ (List.mem_cons_self ..), fun x hx => ?_⟩
  rcases List.mem_append.1 hx with hx | hx
  · exact (ha x hx).le
  · rcases List.mem_cons.1 hx with rfl | hx
    · exact Nat.le_refl _
    · exact hc x hx

/-- A first list that gives the lowest value gives the bound. -/
theorem lowest_append_left {l m : List Bound} {b : Bound} (h : lowest (l ++ m) = some b) (hl : ∃ x ∈ l, x.1 = b.1) : b ∈ l := by
  obtain ⟨a, c, heq, ha, -⟩ := lowest_eq_some h
  obtain ⟨x, hx, hxb⟩ := hl
  rcases List.append_eq_append_iff.1 heq with ⟨d, rfl, -⟩ | ⟨d, rfl, hd⟩
  · exact absurd hxb (ha x (List.mem_append_left _ hx)).ne'
  · cases d with
    | nil =>
      rw [List.append_nil] at hx
      exact absurd hxb (ha x hx).ne'
    | cons y d =>
      cases hd
      exact List.mem_append_right _ (List.mem_cons_self ..)

/-- A first list that does not give the lowest value leaves the bound to the second. -/
theorem lowest_append_right {l m : List Bound} {b : Bound} (h : lowest (l ++ m) = some b) (hl : ∀ x ∈ l, x.1 ≠ b.1) :
    lowest m = some b := by
  induction l with
  | nil => exact h
  | cons x l ih =>
    have hx := hl x (List.mem_cons_self ..)
    have htail : lowest (l ++ m) = some b := by
      rw [List.cons_append, lowest] at h
      split at h
      · next k hk =>
        split at h
        · exact hk.trans h
        · cases h
          exact absurd rfl hx
      · cases h
        exact absurd rfl hx
    exact ih htail fun y hy => hl y (List.mem_cons_of_mem _ hy)

/-! ## A lane's running minimum (R74) -/

theorem le_laneMinimum_iff {start k : Nat} {l : List Nat} : k ≤ laneMinimum start l ↔ k ≤ start ∧ ∀ x ∈ l, k ≤ x := by
  unfold laneMinimum
  induction l generalizing start with
  | nil => simp
  | cons x l ih =>
    rw [List.foldl_cons, ih, List.forall_mem_cons, le_min_iff, and_assoc]

theorem laneMinimum_le_start (start : Nat) (l : List Nat) : laneMinimum start l ≤ start :=
  (le_laneMinimum_iff.1 (Nat.le_refl _)).1

theorem laneMinimum_le_mem {l : List Nat} {x : Nat} (h : x ∈ l) (start : Nat) : laneMinimum start l ≤ x :=
  (le_laneMinimum_iff.1 (Nat.le_refl _)).2 x h

theorem laneMinimum_mem (start : Nat) (l : List Nat) : laneMinimum start l = start ∨ laneMinimum start l ∈ l := by
  unfold laneMinimum
  induction l generalizing start with
  | nil => exact .inl rfl
  | cons x l ih =>
    rw [List.foldl_cons]
    rcases ih (min start x) with h | h
    · rcases min_choice start x with hmin | hmin
      · exact .inl (h.trans hmin)
      · exact .inr (List.mem_cons.2 (.inl (h.trans hmin)))
    · exact .inr (List.mem_cons_of_mem _ h)

/-- The running minimum does not depend on the order of the curve speeds. -/
theorem laneMinimum_perm {l m : List Nat} (h : l.Perm m) (start : Nat) : laneMinimum start l = laneMinimum start m := by
  refine le_antisymm (le_laneMinimum_iff.2 ⟨laneMinimum_le_start .., fun x hx => laneMinimum_le_mem (h.mem_iff.2 hx) _⟩)
    (le_laneMinimum_iff.2 ⟨laneMinimum_le_start .., fun x hx => laneMinimum_le_mem (h.mem_iff.1 hx) _⟩)

/-! ## The credit of a braking curve (R70) -/

section Curve
variable (e : EvalCopy) (dir : Sense)

/-- The credit of one piece: none where it gives no deceleration. -/
def pieceCredit (x : Piece) : Nat := (effective e dir x).toNat * x.length / 5

/-- The square of speed with the credit of every piece. -/
def fullSquare (start : Nat) (l : List Piece) : Nat := start + (l.map (pieceCredit e dir)).sum

theorem credit_eq (v2 : Nat) (x : Piece) : credit e dir v2 x = if fullCredit ≤ v2 then v2 else v2 + pieceCredit e dir x := by
  unfold credit pieceCredit
  by_cases hfull : fullCredit ≤ v2
  · rw [if_pos hfull, if_pos (.inl hfull)]
  · rw [if_neg hfull]
    by_cases hnone : effective e dir x ≤ 0
    · rw [if_pos (.inr hnone), Int.toNat_of_nonpos hnone, Nat.zero_mul, Nat.zero_div, Nat.add_zero]
    · rw [if_neg (fun h => h.elim hfull hnone)]

theorem credit_foldl_full {start : Nat} (h : fullCredit ≤ start) (l : List Piece) : l.foldl (credit e dir) start = start := by
  induction l with
  | nil => rfl
  | cons x l ih => rw [List.foldl_cons, credit_eq, if_pos h, ih]

/-- Credit stops at the full square, and below it every piece counts. -/
theorem credit_foldl (start : Nat) (l : List Piece) :
    (fullCredit ≤ fullSquare e dir start l → fullCredit ≤ l.foldl (credit e dir) start) ∧
    (fullSquare e dir start l < fullCredit → l.foldl (credit e dir) start = fullSquare e dir start l) := by
  induction l generalizing start with
  | nil => exact ⟨id, fun _ => rfl⟩
  | cons x l ih =>
    have hcons : fullSquare e dir start (x :: l) = fullSquare e dir (start + pieceCredit e dir x) l := by
      rw [fullSquare, fullSquare, List.map_cons, List.sum_cons, Nat.add_assoc]
    by_cases hfull : fullCredit ≤ start
    · rw [credit_foldl_full e dir hfull]
      refine ⟨fun _ => hfull, fun h => ?_⟩
      rw [fullSquare] at h
      omega
    · rw [List.foldl_cons, credit_eq, if_neg hfull, hcons]
      exact ih _

theorem fullSquare_perm {l m : List Piece} (h : l.Perm m) (start : Nat) : fullSquare e dir start l = fullSquare e dir start m := by
  rw [fullSquare, fullSquare, (h.map _).sum_eq]

variable (t : List Segment) (q : Target)

/-- The curve speed of a target, by the credit of all the pieces of its stretch. -/
def curveOf : Nat :=
  if !examined e q then q.speed
  else if (piecesTotal (stretchPieces e t dir q) : Int) < (stretch e dir q).2 - (stretch e dir q).1 then q.speed
  else if fullCredit ≤ fullSquare e dir (q.speed * q.speed) (stretchPieces e t dir q) then 1200
  else isqrt (fullSquare e dir (q.speed * q.speed) (stretchPieces e t dir q))

theorem curveSpeed_eq (order : Sense → List Piece → List Piece) (h : ∀ l, (order dir l).Perm l) :
    curveSpeed order e t dir q = curveOf e dir t q := by
  unfold curveSpeed curveOf
  dsimp only
  obtain ⟨hfull, hsum⟩ := credit_foldl e dir (q.speed * q.speed) (order dir (stretchPieces e t dir q))
  rw [fullSquare_perm e dir (h _)] at hfull hsum
  by_cases hs : fullCredit ≤ fullSquare e dir (q.speed * q.speed) (stretchPieces e t dir q)
  · rw [if_pos hs, if_pos (hfull hs)]
  · rw [hsum (by omega)]

theorem fromTarget_perm (l : List Piece) : (fromTarget dir l).Perm l := by
  cases dir with
  | up => exact List.reverse_perm l
  | down => exact .refl l

theorem fromCar_perm (l : List Piece) : (fromCar dir l).Perm l := (List.reverse_perm _).trans (fromTarget_perm dir l)

end Curve

/-! ## The two lanes (R74) -/

section Lanes
variable (e : EvalCopy) (t : List Segment) (dir : Sense)

theorem assessTargets_p : (assessTargets e t dir).p =
    laneMinimum (laneStart (limitBounds e t dir ++ capBounds e)) ((targetsOf e t dir).map (curveOf e dir t)) := by
  unfold assessTargets
  dsimp only
  rw [List.map_map]
  exact congrArg _ (List.map_congr_left fun q _ => curveSpeed_eq e dir t q fromTarget (fromTarget_perm dir))

theorem assessTargets_p_eq_laneB : (assessTargets e t dir).p =
    laneMinimum (laneStart (limitBounds e t dir ++ capBounds e))
      ((targetsOf e t dir).reverse.map (curveSpeed fromCar e t dir)) := by
  rw [assessTargets_p, List.map_congr_left fun q _ => curveSpeed_eq e dir t q fromCar (fromCar_perm dir)]
  exact laneMinimum_perm ((List.reverse_perm _).map _).symm _

/-- The lowest of the bounds is the lowest of their values. -/
theorem lowest_value (l : List Bound) : (lowest l).elim 1200 (·.1) = ((l.map (·.1)).min?).getD 1200 := by
  cases l with
  | nil => rfl
  | cons x l =>
    obtain ⟨b, hb⟩ := lowest_ne_none (List.cons_ne_nil x l)
    obtain ⟨hmem, hle⟩ := lowest_mem hb
    have hmin : (List.map (·.1) (x :: l)).min? = some b.1 := by
      rw [List.min?_eq_some_iff]
      refine ⟨List.mem_map_of_mem hmem, fun n hn => ?_⟩
      obtain ⟨y, hy, rfl⟩ := List.mem_map.1 hn
      exact hle y hy
    rw [hb, hmin]
    rfl

end Lanes

theorem assess_p_eq_laneB (e : EvalCopy) (table : List Segment) : (assess e table).p = laneB e table := by
  unfold assess laneB
  cases hquick : quickOutcome e with
  | some source => rfl
  | none =>
    cases hsense : e.direction.sense with
    | none => rfl
    | some dir =>
      dsimp only
      split
      · rw [← lowest_value]
        cases lowest (limitBounds e table dir ++ capBounds e) <;> rfl
      · split
        · exact assessTargets_p_eq_laneB e table dir
        · rfl

end Sys2Proof.Machine
end

section
/-! What lane A delivers (R66 to R74): the quick outcomes, the bounds of the permitted speed, and the limiting source. -/

namespace Sys2Proof.Machine

section Assess
variable (e : EvalCopy) (t : List Segment)

/-! ## The quick outcomes (R66) -/

theorem Direction.sense_eq_none_iff (d : Direction) : d.sense = none ↔ d = .neutral := by
  cases d <;> simp [Direction.sense]

theorem assess_neutral (h : e.direction = .neutral) : assess e t = .early 0 .neutral false := by
  have hquick : quickOutcome e = some .neutral := if_pos h
  unfold assess
  rw [hquick]

theorem assess_unknown (hd : e.direction ≠ .neutral) (h : e.position.state = .unknown) : assess e t = .early 0 .unknown false := by
  have hquick : quickOutcome e = some .unknown := by rw [quickOutcome, if_neg hd, if_pos h]
  unfold assess
  rw [hquick]

theorem assess_noChannel (hd : e.direction ≠ .neutral) (hp : e.position.state ≠ .unknown) (h : e.available = 0) :
    assess e t = .early 0 .noChannel false := by
  have hquick : quickOutcome e = some .noChannel := by rw [quickOutcome, if_neg hd, if_neg hp, if_pos h]
  unfold assess
  rw [hquick]

/-- An evaluation that works its bounds: the direction is not neutral, the position not unknown, and a channel available. -/
structure EvalCopy.Works (e : EvalCopy) (dir : Sense) : Prop where
  sense : e.direction.sense = some dir
  known : e.position.state ≠ .unknown
  channel : e.available ≠ 0

variable {e t} {dir : Sense}

theorem EvalCopy.Works.direction (h : e.Works dir) : e.direction ≠ .neutral := fun hn => by
  have := (Direction.sense_eq_none_iff e.direction).2 hn
  rw [h.sense] at this
  cases this

theorem EvalCopy.Works.quick (h : e.Works dir) : quickOutcome e = none := by
  rw [quickOutcome, if_neg h.direction, if_neg h.known, if_neg h.channel]

theorem EvalCopy.Works.assess_lost (h : e.Works dir) (hlost : e.position.state = .lost) :
    ∃ b, lowest (limitBounds e t dir ++ capBounds e) = some b ∧ assess e t = .early b.1 b.2 false := by
  have hcap : (cms e.params.lostCap, .cap .lostPosition) ∈ limitBounds e t dir ++ capBounds e := by
    have hpresent : (e.position.state == .lost) = true := by rw [hlost]; rfl
    simp [capBounds, capBound, hpresent]
  obtain ⟨b, hb⟩ := lowest_ne_none (List.ne_nil_of_mem hcap)
  refine ⟨b, hb, ?_⟩
  unfold assess
  rw [h.quick, h.sense]
  dsimp only
  rw [if_pos hlost, hb]

theorem EvalCopy.Works.assess_uncovered (h : e.Works dir) (hlost : e.position.state ≠ .lost) (hu : extentCovered e t = false) :
    assess e t = .early 0 .uncovered true := by
  unfold assess
  rw [h.quick, h.sense]
  dsimp only
  rw [if_neg hlost, if_neg (ne_true_of_eq_false hu)]

theorem EvalCopy.Works.assess_covered (h : e.Works dir) (hlost : e.position.state ≠ .lost) (hc : extentCovered e t = true) :
    assess e t = assessTargets e t dir := by
  unfold assess
  rw [h.quick, h.sense]
  dsimp only
  rw [if_neg hlost, if_pos hc]

/-- An evaluation is one of a quick outcome or works its bounds. -/
theorem EvalCopy.quick_or_works (e : EvalCopy) (t : List Segment) : (∃ source, assess e t = .early 0 source false) ∨
    ∃ dir, e.Works dir := by
  by_cases hd : e.direction = .neutral
  · exact .inl ⟨_, assess_neutral e t hd⟩
  · by_cases hp : e.position.state = .unknown
    · exact .inl ⟨_, assess_unknown e t hd hp⟩
    · by_cases ha : e.available = 0
      · exact .inl ⟨_, assess_noChannel e t hd hp ha⟩
      · obtain ⟨dir, hdir⟩ := Option.ne_none_iff_exists'.1 (mt (Direction.sense_eq_none_iff e.direction).1 hd)
        exact .inr ⟨dir, hdir, hp, ha⟩

/-! ## The bounds (R67, R68) -/

theorem assessTargets_p_le_bound {b : Bound} (hb : b ∈ limitBounds e t dir ++ capBounds e) : (assessTargets e t dir).p ≤ b.1 := by
  rw [assessTargets_p]
  exact (laneMinimum_le_start ..).trans (laneMinimum_le_mem (List.mem_map_of_mem hb) _)

theorem assessTargets_p_le_ceiling : (assessTargets e t dir).p ≤ 1200 := by
  rw [assessTargets_p]
  exact (laneMinimum_le_start ..).trans (laneMinimum_le_start ..)

/-- P is no higher than any bound of the direction of travel. -/
theorem assess_p_le_bound (hsense : e.direction.sense = some dir) {b : Bound} (hb : b ∈ limitBounds e t dir ++ capBounds e) :
    (assess e t).p ≤ b.1 := by
  rcases e.quick_or_works t with ⟨source, hquick⟩ | ⟨dir', hworks⟩
  · rw [hquick]
    exact Nat.zero_le _
  · obtain rfl : dir' = dir := Option.some.inj (hworks.sense.symm.trans hsense)
    by_cases hlost : e.position.state = .lost
    · obtain ⟨m, hm, hassess⟩ := hworks.assess_lost (t := t) hlost
      rw [hassess]
      exact (lowest_mem hm).2 b hb
    · cases hc : extentCovered e t with
      | false =>
        rw [hworks.assess_uncovered hlost hc]
        exact Nat.zero_le _
      | true =>
        rw [hworks.assess_covered hlost hc]
        exact assessTargets_p_le_bound hb

theorem assess_p_le_cap {b : Bound} (hb : b ∈ capBounds e) : (assess e t).p ≤ b.1 := by
  rcases e.quick_or_works t with ⟨source, hquick⟩ | ⟨dir, hworks⟩
  · rw [hquick]
    exact Nat.zero_le _
  · exact assess_p_le_bound hworks.sense (List.mem_append_right _ hb)

theorem assess_p_le_ceiling (hlost : e.position.state ≠ .lost) : (assess e t).p ≤ 1200 := by
  rcases e.quick_or_works t with ⟨source, hquick⟩ | ⟨dir, hworks⟩
  · rw [hquick]
    exact Nat.zero_le _
  · cases hc : extentCovered e t with
    | false =>
      rw [hworks.assess_uncovered hlost hc]
      exact Nat.zero_le _
    | true =>
      rw [hworks.assess_covered hlost hc]
      exact assessTargets_p_le_ceiling

/-! ## What the bounds are -/

theorem AppliesTo.holds_iff (a : AppliesTo) (d : Sense) :
    a.holds d = true ↔ a = .both ∨ (a = .up ∧ d = .up) ∨ (a = .down ∧ d = .down) := by
  cases a <;> cases d <;> decide

theorem mem_limitBounds {b : Bound} : b ∈ limitBounds e t dir ↔
    (∃ x ∈ t, (x.low : Int) ≤ extentHigh e.position e.params.carLength ∧ extentLow e.position e.params.carLength ≤ x.high ∧
      b.1 = cms (x.limit dir) ∧ b.2 = .limitSegment x.id) ∨
    (∃ x ∈ e.restrictions, x.appliesTo.holds dir = true ∧ (x.low : Int) ≤ extentHigh e.position e.params.carLength ∧
      extentLow e.position e.params.carLength ≤ x.high ∧ b.1 = cms x.speed ∧ b.2 = .limitRestriction x.id) := by
  unfold limitBounds
  simp only [List.mem_append, List.mem_map, segmentsOver, List.mem_filter, Segment.overlaps, decide_eq_true_eq, Bool.and_eq_true,
    Prod.ext_iff]
  grind

/-- The caps in the order of their table, with the value of each whose condition is present (R68). -/
def capTable (e : EvalCopy) : List (CapName × Option Nat) := [
  (.radioLoss, if e.radioLost = true then some (cms e.params.radioCap) else none),
  (.mesh, if e.meshShallow = true then some (cms e.params.meshCap) else none),
  (.degradedOdometry, if e.degraded = true then some (cms e.params.degradedCap) else none),
  (.lostPosition, if e.position.state = .lost then some (cms e.params.lostCap) else none),
  (.overflow, (overflowCap e.overflow e.saturated).map cms)]

/-- A cap of the table as a bound. -/
def capEntry (c : CapName × Option Nat) : Option Bound := c.2.map fun v => (v, .cap c.1)

theorem capBounds_eq (e : EvalCopy) : capBounds e = (capTable e).filterMap capEntry := by
  have hcons (present : Bool) (kmh : Nat) (name : CapName) (rest : List (CapName × Option Nat)) :
      ((name, if present = true then some (cms kmh) else none) :: rest).filterMap capEntry =
        capBound present kmh name ++ rest.filterMap capEntry := by
    cases present <;> rfl
  have hlost : (if e.position.state = .lost then some (cms e.params.lostCap) else none) =
      if (e.position.state == .lost) = true then some (cms e.params.lostCap) else none := by
    simp only [beq_iff_eq]
  rw [capTable, hcons, hcons, hcons, hlost, hcons, capBounds, List.append_assoc, List.append_assoc, List.append_assoc]
  cases overflowCap e.overflow e.saturated <;> rfl

theorem mem_capBounds {b : Bound} : b ∈ capBounds e ↔ ∃ c ∈ capTable e, c.2 = some b.1 ∧ b.2 = .cap c.1 := by
  rw [capBounds_eq, List.mem_filterMap]
  refine exists_congr fun c => and_congr_right fun _ => ?_
  obtain ⟨name, value⟩ := c
  obtain ⟨v, source⟩ := b
  cases value with
  | none => simp [capEntry]
  | some w => simp [capEntry, eq_comm]

/-- The first cap of its value, when no bound before the caps has it. -/
theorem lowest_caps {l : List (CapName × Option Nat)} {m : List Bound} {b : Bound} (h : lowest (l.filterMap capEntry ++ m) = some b)
    (hl : ∃ c ∈ l, c.2 = some b.1) : ∃ a c d, l = a ++ c :: d ∧ c.2 = some b.1 ∧ (∀ y ∈ a, y.2 ≠ some b.1) ∧ b.2 = .cap c.1 := by
  induction l with
  | nil =>
    obtain ⟨c, hc, -⟩ := hl
    cases hc
  | cons x l ih =>
    obtain ⟨name, value⟩ := x
    have htail (hne : value ≠ some b.1) (hlow : lowest (l.filterMap capEntry ++ m) = some b) :
        ∃ a c d, (name, value) :: l = a ++ c :: d ∧ c.2 = some b.1 ∧ (∀ y ∈ a, y.2 ≠ some b.1) ∧ b.2 = .cap c.1 := by
      obtain ⟨c, hc, hvalue⟩ := hl
      have hmem : c ∈ l := (List.mem_cons.1 hc).resolve_left fun heq => hne (by rw [heq] at hvalue; exact hvalue)
      obtain ⟨a, c, d, rfl, hcv, ha, hsource⟩ := ih hlow ⟨c, hmem, hvalue⟩
      exact ⟨(name, value) :: a, c, d, rfl, hcv, List.forall_mem_cons.2 ⟨hne, ha⟩, hsource⟩
    cases value with
    | none => exact htail nofun h
    | some v =>
      rw [show ((name, some v) :: l).filterMap capEntry = (v, .cap name) :: l.filterMap capEntry from rfl, List.cons_append,
        lowest] at h
      split at h
      · next k hk =>
        split at h
        · next hlt =>
          cases h
          exact htail (fun heq => by have := Option.some.inj heq; dsimp only at hlt; omega) hk
        · cases h
          exact ⟨[], (name, some v), l, rfl, rfl, nofun, rfl⟩
      · cases h
        exact ⟨[], (name, some v), l, rfl, rfl, nofun, rfl⟩

end Assess
end Sys2Proof.Machine
end

section
/-! The record of an evaluation and the comparisons that follow it (R72, R76 to R80), and the judgement after them. -/

namespace Sys2Proof.Machine

/-! ## What an evaluation records and compares -/

/-- The supervision record with the results of an evaluation (R72, R78). -/
def Supervision.recorded (r : Supervision) (e : EvalCopy) (a : Assessment) : Supervision := { r with
  p := a.p
  w := a.p + e.params.marginW
  i := a.p + e.params.marginI
  e := a.p + e.params.marginE
  source := a.source
  targets := a.targets
  capabilityShort := a.capabilityShort
  coverageShort := a.coverageShort }

/-- Whether the record follows an intervention at a speed (R77). -/
def Supervision.intervenes (r : Supervision) (v : Nat) : Bool :=
  if r.intervention then decide (r.p < v) else decide (r.i < v)

/-- The supervision record after the comparisons with a speed (R76 to R79). -/
def Supervision.compared (r : Supervision) (v : Nat) (standstill stopped : Bool) : Supervision := { r with
  warning := decide (r.w < v)
  intervention := r.intervenes v
  overspeed := r.overspeed || decide (r.e < v)
  hold := if r.hold then decide (r.p = 0) else decide (r.p = 0) && standstill && !stopped }

/-- The intervention request after the comparisons (R77, R80). -/
def Supervision.requests (r : Supervision) (v : Nat) (request stopped : Bool) : Bool :=
  r.intervenes v && (request || (!r.intervention && !stopped))

section Frames
variable (c : Car)

theorem levelChange_frame (src : Source) (before after : Bool) (detail : Nat) : levelChange src before after detail c = { c with
    evr := (levelChange src before after detail c).evr
    vrl := (levelChange src before after detail c).vrl } := by
  unfold levelChange
  split
  · rfl
  · split <;> rfl

theorem record_frame (e : EvalCopy) (a : Assessment) : ∃ evr vrl, record e a c = { c with
    ssv := { c.ssv with record := c.ssv.record.recorded e a }
    evr := evr
    vrl := vrl } := by
  unfold record
  dsimp only
  rw [levelChange_frame _ .coverageShort, levelChange_frame _ .capabilityShort]
  exact ⟨_, _, rfl⟩

theorem causeChange_frame (cause : Cause) (before after : Bool) : causeChange cause before after c = { c with
    brk := { c.brk with
      conditions := (causeChange cause before after c).brk.conditions
      causes := (causeChange cause before after c).brk.causes
      test := (causeChange cause before after c).brk.test
      results := (causeChange cause before after c).brk.results }
    evr := (causeChange cause before after c).evr
    vrl := (causeChange cause before after c).vrl } := by
  have hframe := (causeChange_handsOn c cause before after).frame
  rw [causeChange_odo, causeChange_ssv, causeChange_standstillSince] at hframe
  exact hframe

theorem causeChange_conditions {cause other : Cause} (h : other ≠ cause) (before after : Bool) :
    (causeChange cause before after c).brk.conditions.get other = c.brk.conditions.get other := by
  unfold causeChange
  split
  · rfl
  · split
    · rw [causeStart, addCause_conditions]
      exact PerCause.get_set_ne _ _ h
    · exact PerCause.get_set_ne _ _ h

/-- What the comparisons leave of the emergency cause set: only OVERSPEED can enter it. -/
structure Compared (c : Car) (v : Nat) (conditions : PerCause Bool) (causes : PerCause (Option CauseRecord)) : Prop where
  condition : conditions.door = c.brk.conditions.door
  cause : causes.door = c.brk.causes.door
  overspeed : c.ssv.record.overspeed = false → c.ssv.record.e < v → causes.overspeed.map CauseRecord.present = some true

theorem causeChange_compared (v : Nat) {d : Car} (hbrk : d.brk.conditions = c.brk.conditions)
    (hcauses : d.brk.causes = c.brk.causes) :
    Compared c v
      (causeChange .overspeed c.ssv.record.overspeed (c.ssv.record.overspeed || decide (c.ssv.record.e < v)) d).brk.conditions
      (causeChange .overspeed c.ssv.record.overspeed (c.ssv.record.overspeed || decide (c.ssv.record.e < v)) d).brk.causes where
  condition := (causeChange_conditions d (cause := .overspeed) (other := .door) (by decide) _ _).trans
    (congrArg PerCause.door hbrk)
  cause := ((causeChange_handsOn d .overspeed _ _).cause .door (by decide)).trans (congrArg PerCause.door hcauses)
  overspeed hbefore hfast := by
    rw [hbefore, decide_eq_true hfast]
    show (causeStart .overspeed d).brk.causes.overspeed.map CauseRecord.present = some true
    rw [causeStart_causes]
    cases d.brk.causes.get .overspeed <;> simp [PerCause.set]

/-- The first two comparisons, of the warning and of the intervention. -/
theorem compareIntervention_frame (v : Nat) : ∃ evr vrl, compareIntervention v (compareWarning v c) = { c with
    ssv := { c.ssv with record := { c.ssv.record with
      warning := decide (c.ssv.record.w < v)
      intervention := c.ssv.record.intervenes v } }
    brk := { c.brk with intervention := c.ssv.record.requests v c.brk.intervention c.brk.faultStop }
    evr := evr
    vrl := vrl } := by
  unfold compareWarning
  dsimp only
  rw [levelChange_frame _ .overspeedWarning]
  unfold compareIntervention
  dsimp only
  rw [levelChange_frame _ .intervention]
  exact ⟨_, _, rfl⟩

theorem compare_frame (v : Nat) : ∃ d : Car, Compared c v d.brk.conditions d.brk.causes ∧ compare v c = { c with
    ssv := { c.ssv with record := c.ssv.record.compared v c.odo.standstill c.brk.faultStop }
    brk := { c.brk with
      intervention := c.ssv.record.requests v c.brk.intervention c.brk.faultStop
      conditions := d.brk.conditions
      causes := d.brk.causes
      test := d.brk.test
      results := d.brk.results }
    evr := d.evr
    vrl := d.vrl } := by
  obtain ⟨evr, vrl, hintervention⟩ := compareIntervention_frame c v
  have hcompared := causeChange_compared c v (d := { c with
    ssv := { c.ssv with record := { c.ssv.record with
      warning := decide (c.ssv.record.w < v)
      intervention := c.ssv.record.intervenes v
      overspeed := c.ssv.record.overspeed || decide (c.ssv.record.e < v) } }
    brk := { c.brk with intervention := c.ssv.record.requests v c.brk.intervention c.brk.faultStop }
    evr := evr
    vrl := vrl }) rfl rfl
  refine ⟨_, hcompared, ?_⟩
  unfold compare
  rw [hintervention]
  unfold compareOverspeed
  dsimp only
  rw [causeChange_frame]
  rfl

end Frames

/-! ## The end of an evaluation (R75) -/

/-- The record at the end of an evaluation on which the lanes agree. -/
def Car.judgedRecord (c : Car) (e : EvalCopy) : Supervision :=
  if e.byUpdate then
    (c.ssv.record.recorded e (assess e c.pst.readable)).compared e.v c.odo.standstill c.brk.faultStop
  else c.ssv.record.recorded e (assess e c.pst.readable)

/-- The intervention request at the end of an evaluation on which the lanes agree. -/
def Car.judgedRequest (c : Car) (e : EvalCopy) : Bool :=
  if e.byUpdate then
    (c.ssv.record.recorded e (assess e c.pst.readable)).requests e.v c.brk.intervention c.brk.faultStop
  else c.brk.intervention

/-- The part without the evaluation that ran. -/
def Car.unevaluated (c : Car) : Car := { c with ssv := { c.ssv with running := none } }

section End
variable {c : Car} {e : EvalCopy}

theorem Intact.evaluationEnd (h : Intact c) (hrun : c.ssv.running = some e) (upset : Option Nat) :
    evaluationEnd upset c = if upset = none ∨ upset = some (assess e c.pst.readable).p then
      if e.byUpdate then compare e.v (record e (assess e c.pst.readable) c.unevaluated)
      else record e (assess e c.pst.readable) c.unevaluated
    else reportFault .crosscheck c.unevaluated := by
  have hread : Machine.readTable c.unevaluated = c.unevaluated := Intact.readTable h
  have hagree : ((assess e c.pst.readable).p = upset.getD (assess e c.pst.readable).p) ↔
      (upset = none ∨ upset = some (assess e c.pst.readable).p) := by
    cases upset with
    | none => simp
    | some n => simp [eq_comm]
  unfold Machine.evaluationEnd
  rw [hrun]
  dsimp only
  rw [show ({ c with ssv := { c.ssv with running := none } } : Car) = c.unevaluated from rfl, hread, ite_self, ← assess_p_eq_laneB]
  exact if_congr hagree rfl rfl

/-- What an evaluation leaves on which the lanes agree, before the brakes are judged. -/
theorem evaluation_frame (c : Car) (e : EvalCopy) : ∃ f : Car, f.brk.conditions.door = c.brk.conditions.door ∧
    f.brk.causes.door = c.brk.causes.door ∧
    (e.byUpdate = true → c.ssv.record.overspeed = false → (assess e c.pst.readable).p + e.params.marginE < e.v →
      f.brk.causes.overspeed.map CauseRecord.present = some true) ∧
    (if e.byUpdate then compare e.v (record e (assess e c.pst.readable) c.unevaluated)
      else record e (assess e c.pst.readable) c.unevaluated) = { c with
      ssv := { c.ssv with running := none, record := c.judgedRecord e }
      brk := { c.brk with
        intervention := c.judgedRequest e
        conditions := f.brk.conditions
        causes := f.brk.causes
        test := f.brk.test
        results := f.brk.results }
      evr := f.evr
      vrl := f.vrl } := by
  obtain ⟨evr, vrl, hrecord⟩ := record_frame c.unevaluated e (assess e c.pst.readable)
  rw [hrecord]
  unfold Car.judgedRecord Car.judgedRequest
  cases hupdate : e.byUpdate with
  | false =>
    exact ⟨{ c with evr := evr, vrl := vrl }, rfl, rfl, nofun, rfl⟩
  | true =>
    obtain ⟨f, ⟨hcondition, hcause, hoverspeed⟩, hcompare⟩ := compare_frame { c.unevaluated with
      ssv := { c.unevaluated.ssv with record := c.ssv.record.recorded e (assess e c.pst.readable) }
      evr := evr
      vrl := vrl } e.v
    exact ⟨f, hcondition, hcause, fun _ => hoverspeed, hcompare⟩

end End

/-- What holds after an evaluation on which the lanes agree. -/
structure EvaluationDone (c : Car) (e : EvalCopy) (t : Car) : Prop where
  ssv : t.ssv = { c.ssv with running := none, record := c.judgedRecord e }
  request : t.brk.intervention = c.judgedRequest e
  overspeed : e.byUpdate = true → c.ssv.record.overspeed = false → (assess e c.pst.readable).p + e.params.marginE < e.v →
    t.brk.causes.overspeed.map CauseRecord.present = some true ∧ ∀ ch, (t.brk.channels.get ch).command = .apply
  service : t.brk.intervention = true → 7 ≤ t.brk.svcLevel ∧ t.brk.tractionOk = false
  faultStop : t.brk.faultStop = c.brk.faultStop
  lif : t.lif = c.lif
  odo : t.odo = c.odo
  tlf : t.tlf = c.tlf
  pst : t.pst = c.pst
  dor : t.dor = c.dor

theorem brkJudge_service {d : Car} (h : (brkJudge d).brk.intervention = true) :
    7 ≤ (brkJudge d).brk.svcLevel ∧ (brkJudge d).brk.tractionOk = false := by
  constructor
  · show 7 ≤ serviceLevel d
    rw [serviceLevel, show d.brk.intervention = true from h, Bool.true_or, Bool.true_or, if_pos rfl]
    omega
  · show tractionPermitted d _ = false
    rw [tractionPermitted, show d.brk.intervention = true from h, Bool.not_true, Bool.and_false]

section Ready
variable {s : State} {e : EvalCopy}

theorem Ready.evaluated (hr : Ready s) (hi : Intact s.car) (hrun : s.car.ssv.running = some e) :
    ∃ t, EvaluationDone s.car e t ∧ ∀ upset, (upset = none ∨ upset = some (assess e s.car.pst.readable).p) →
      exec (.evaluationEnd upset) s = .next ⟨t, s.pending⟩ := by
  obtain ⟨f, hcondition, hcause, hoverspeed, hframe⟩ := evaluation_frame s.car e
  refine ⟨_, ?_, fun upset hupset => (congrArg _ (hr.run _)).trans (next_congr (congrArg settle
    ((hi.evaluationEnd hrun upset).trans ((if_pos hupset).trans hframe))))⟩
  rw [hr.settle_brakes (d := { s.car with
    ssv := { s.car.ssv with running := none, record := s.car.judgedRecord e }
    brk := { s.car.brk with
      intervention := s.car.judgedRequest e
      conditions := f.brk.conditions
      causes := f.brk.causes
      test := f.brk.test
      results := f.brk.results }
    evr := f.evr
    vrl := f.vrl }) rfl rfl rfl rfl hcondition hcause]
  refine ⟨brkJudge_ssv_same hr.brakes.available, rfl, fun hupdate hbefore hfast => ?_, brkJudge_service,
    rfl, rfl, rfl, rfl, rfl, rfl⟩
  have hset := hoverspeed hupdate hbefore hfast
  refine ⟨hset, fun ch => ?_⟩
  have hnonempty : causesEmpty f.brk.causes = false := by
    refine Bool.eq_false_of_not_eq_true fun hempty => ?_
    rw [show f.brk.causes.overspeed = none from (causesEmpty_iff _).1 hempty .overspeed] at hset
    cases hset
  rw [brkJudge_channel]
  exact (judgeChannel_stopped (.inr (by exact hnonempty)) ch).1

theorem Ready.unevaluated (hr : Ready s) : Ready ⟨s.car.unevaluated, s.pending⟩ :=
  ⟨hr.1, hr.settle_quiet rfl rfl rfl rfl, hr.unreserved⟩

/-- A lane B that a failure of integrity has changed (R75). -/
theorem Ready.crosschecked (hr : Ready s) (hi : Intact s.car) (hrun : s.car.ssv.running = some e) {n : Nat}
    (hn : n ≠ (assess e s.car.pst.readable).p) :
    ∃ u, exec (.evaluationEnd (some n)) s = .next u ∧ u.car.brk.faultStop = true ∧ u.car.ssv.running = none ∧
      u.car.ssv.record = s.car.ssv.record ∧
      (s.car.brk.faultStop = false → ∃ f, u.car.brk.faultRecord = some f ∧ f.cause = .crosscheck ∧ f.p = s.car.ssv.record.p) ∧
      (∀ f, s.car.brk.faultStop = true → s.car.brk.faultRecord = some f → u.car.brk.faultRecord = some { f with
        laterCount := min 255 (f.laterCount + 1), laterMask := f.laterMask ||| 2 }) := by
  have hexec : exec (.evaluationEnd (some n)) s = .next ⟨settle (reportFault .crosscheck s.car.unevaluated), s.pending⟩ :=
    (congrArg _ (hr.run _)).trans (next_congr (congrArg settle ((hi.evaluationEnd hrun _).trans
      (if_neg (by rintro (h | h); exacts [absurd h nofun, hn (Option.some.inj h)])))))
  have hready := hr.unevaluated
  cases hstop : s.car.brk.faultStop with
  | true =>
    have hreport : reportFault .crosscheck s.car.unevaluated = laterCause .crosscheck s.car.unevaluated := if_pos hstop
    have hrecorded := hready.with_record s.car.brk.broadcastTimer (s.car.brk.faultRecord.map (·.later .crosscheck))
    rw [hreport, show settle (laterCause .crosscheck s.car.unevaluated) = laterCause .crosscheck s.car.unevaluated from
      hrecorded.settle_occur ..] at hexec
    refine ⟨_, hexec, hstop, rfl, rfl, nofun, fun f _ hf => ?_⟩
    show s.car.brk.faultRecord.map (·.later .crosscheck) = _
    rw [hf]
    rfl
  | false =>
    have hentered := Intact.entered (c := s.car.unevaluated) hi hready.doors .crosscheck
    rw [show reportFault .crosscheck s.car.unevaluated = enterFaultStop .crosscheck s.car.unevaluated from
      if_neg (ne_true_of_eq_false hstop)] at hexec
    exact ⟨_, hexec, hentered.faultStop, (congrArg Ssv.running hentered.record :), (congrArg Ssv.record hentered.record :),
      fun _ => ⟨_, hentered.faultRecord, rfl, rfl⟩, fun _ h => absurd h Bool.false_ne_true⟩

/-! ## The start of an evaluation (R65) -/

theorem Ready.evaluationStart_quiet (hr : Ready s) (h : s.car.ssv.waiting.cause = false ∨ s.car.ssv.running ≠ none) :
    exec .evaluationStart s = .next s := by
  have hquiet : Machine.evaluationStart s.car = s.car := by
    refine if_neg fun hstarts => ?_
    rcases h with h | h
    · rw [h] at hstarts
      exact absurd hstarts.1 nofun
    · exact h (Option.isNone_iff_eq_none.1 hstarts.2)
  exact (congrArg _ (hr.run _)).trans (next_congr ((congrArg settle hquiet).trans hr.settled))

theorem Ready.evaluationStart_taken (hr : Ready s) (hcause : s.car.ssv.waiting.cause = true) (hrun : s.car.ssv.running = none) :
    exec .evaluationStart s = .next ⟨{ s.car with
      ssv := { s.car.ssv with waiting := ⟨false, false⟩, running := some (takeInputs s.car) } }, s.pending⟩ := by
  have hstarted : Machine.evaluationStart s.car = { s.car with
      ssv := { s.car.ssv with waiting := ⟨false, false⟩, running := some (takeInputs s.car) } } :=
    if_pos ⟨hcause, by rw [hrun]; rfl⟩
  exact (congrArg _ (hr.run _)).trans (next_congr ((congrArg settle hstarted).trans (hr.settle_quiet rfl rfl rfl rfl)))

theorem Ready.evaluationEnd_quiet (hr : Ready s) (hrun : s.car.ssv.running = none) (upset : Option Nat) :
    exec (.evaluationEnd upset) s = .next s := by
  have hquiet : Machine.evaluationEnd upset s.car = s.car := by
    unfold Machine.evaluationEnd
    rw [hrun]
  exact (congrArg _ (hr.run _)).trans (next_congr ((congrArg settle hquiet).trans hr.settled))

end Ready
end Sys2Proof.Machine
end

section
/-! O56: what an evaluation records and compares (R65 to R80). -/

namespace Sys2Proof.Machine

section Result
variable {e : EvalCopy} {t : List Segment} {dir : Sense}

/-- An evaluation of a quick outcome finds no target. -/
theorem assess_quick (h : e.direction = .neutral ∨ e.position.state = .unknown ∨ e.available = 0) :
    (assess e t).targets = 0 ∧ (assess e t).capabilityShort = false ∧ (assess e t).coverageShort = false := by
  rcases e.quick_or_works t with ⟨source, hquick⟩ | ⟨dir, hworks⟩
  · rw [hquick]
    exact ⟨rfl, rfl, rfl⟩
  · rcases h with h | h | h
    · exact absurd h hworks.direction
    · exact absurd h hworks.known
    · exact absurd h hworks.channel

/-- At a LOST position P is a bound, and the limiting source the first bound of that value (R63, R67, R68). -/
theorem EvalCopy.Works.lost_source (h : e.Works dir) (hlost : e.position.state = .lost) :
    ((assess e t).targets = 0 ∧ (assess e t).capabilityShort = false ∧ (assess e t).coverageShort = false) ∧
    ((∃ source, ((assess e t).p, source) ∈ limitBounds e t dir) → ((assess e t).p, (assess e t).source) ∈ limitBounds e t dir) ∧
    ((¬ ∃ source, ((assess e t).p, source) ∈ limitBounds e t dir) → ∃ a c d, capTable e = a ++ c :: d ∧
      c.2 = some (assess e t).p ∧ (∀ y ∈ a, y.2 ≠ some (assess e t).p) ∧ (assess e t).source = .cap c.1) := by
  obtain ⟨b, hb, hassess⟩ := h.assess_lost (t := t) hlost
  rw [hassess]
  refine ⟨⟨rfl, rfl, rfl⟩, fun ⟨source, hsource⟩ => lowest_append_left hb ⟨_, hsource, rfl⟩, fun hnone => ?_⟩
  have hcaps : lowest (capBounds e) = some b :=
    lowest_append_right hb fun x hx hvalue => hnone ⟨x.2, by
      show (b.1, x.2) ∈ _
      rw [← hvalue]
      exact hx⟩
  have hmem := (mem_capBounds.1 (lowest_mem hcaps).1)
  rw [capBounds_eq, ← List.append_nil (List.filterMap ..)] at hcaps
  exact lowest_caps hcaps (hmem.imp fun c hc => ⟨hc.1, hc.2.1⟩)

theorem mem_targetsOf_coverageEnd {n : Nat} (hcoverage : e.coverage = some n)
    (hnear : ((n : Int) - frontMax e.position e.params.carLength dir).natAbs ≤ e.params.horizon) :
    ⟨((n : Int) - frontMax e.position e.params.carLength dir).natAbs, n, 0, .targetCoverageEnd⟩ ∈ targetsOf e t dir := by
  unfold targetsOf coverageDistance coverageEdge
  dsimp only
  rw [hcoverage, mem_sortBy]
  refine List.mem_append_right _ ?_
  rw [if_pos hnear]
  exact List.mem_singleton_self _

/-- A coverage that ends within the reaction distance stops the car (R69, R70). -/
theorem EvalCopy.Works.coverage_end (h : e.Works dir) (hlost : e.position.state ≠ .lost) (hc : extentCovered e t = true) {n : Nat}
    (hcoverage : e.coverage = some n) :
    ((assess e t).coverageShort = true ↔ ((n : Int) - frontMax e.position e.params.carLength dir).natAbs ≤ e.params.horizon) ∧
    (((n : Int) - frontMax e.position e.params.carLength dir).natAbs ≤ e.params.horizon →
      ((n : Int) - frontMax e.position e.params.carLength dir).natAbs ≤ e.v * e.params.reactionTime / 10 → (assess e t).p = 0) := by
  rw [h.assess_covered hlost hc]
  constructor
  · show decide (coverageDistance e _ ≤ e.params.horizon) = true ↔ _
    unfold coverageDistance
    rw [hcoverage, decide_eq_true_eq]
  · intro hnear hreaction
    have hmem := mem_targetsOf_coverageEnd (t := t) hcoverage hnear
    have hzero : curveOf e dir t ⟨_, n, 0, .targetCoverageEnd⟩ = 0 := if_pos (by
      show (!decide (_ < _)) = true
      rw [decide_eq_false (Nat.not_lt.2 hreaction)]
      rfl)
    have hle := laneMinimum_le_mem (List.mem_map_of_mem (f := curveOf e dir t) hmem)
      (laneStart (limitBounds e t dir ++ capBounds e))
    rw [hzero, ← assessTargets_p] at hle
    exact Nat.le_zero.1 hle

/-- The overflow list bounds P by each of its speeds, and by 0 once it is saturated (R90). -/
theorem overflow_bounds {overflow : List OverflowEntry} {saturated : Bool} {x : OverflowEntry} (hx : x ∈ overflow) :
    ∃ kmh, overflowCap overflow saturated = some kmh ∧ cms kmh ≤ cms x.speed ∧ (saturated = true → kmh = 0) := by
  have hmono {a b : Nat} (h : a ≤ b) : cms a ≤ cms b := Nat.div_le_div_right (Nat.mul_le_mul_right _ h)
  have hnonempty : overflow.isEmpty = false := by
    cases overflow with
    | nil => cases hx
    | cons y l => rfl
  unfold overflowCap
  rw [hnonempty, Bool.not_false, Bool.and_true]
  cases saturated with
  | true => exact ⟨0, rfl, hmono (Nat.zero_le _), fun _ => rfl⟩
  | false =>
    obtain ⟨kmh, hmin⟩ : ∃ kmh, (overflow.map OverflowEntry.speed).min? = some kmh := by
      refine Option.ne_none_iff_exists'.1 fun hnone => ?_
      rw [List.min?_eq_none_iff, List.map_eq_nil_iff] at hnone
      rw [hnone] at hx
      cases hx
    exact ⟨kmh, hmin, hmono ((List.min?_eq_some_iff.1 hmin).2 _ (List.mem_map_of_mem hx)), nofun⟩

theorem assess_p_le_overflow {x : OverflowEntry} (hx : x ∈ e.overflow) :
    (assess e t).p ≤ cms x.speed ∧ (e.saturated = true → (assess e t).p = 0) := by
  obtain ⟨kmh, hcap, hle, hzero⟩ := overflow_bounds (saturated := e.saturated) hx
  have hmem : (cms kmh, .cap .overflow) ∈ capBounds e :=
    mem_capBounds.2 ⟨(.overflow, some (cms kmh)), by rw [capTable, hcap]; simp, rfl, rfl⟩
  have hp := assess_p_le_cap (t := t) hmem
  refine ⟨hp.trans hle, fun hsat => Nat.le_zero.1 (hp.trans ?_)⟩
  rw [hzero hsat]
  exact Nat.le_refl _

/-- P is no higher than the cap of a condition that is present. -/
theorem assess_p_le_named {name : CapName} {value : Option Nat} {kmh : Nat} (hmem : (name, value) ∈ capTable e)
    (hvalue : value = some (cms kmh)) : (assess e t).p ≤ cms kmh :=
  assess_p_le_cap (b := (cms kmh, .cap name)) (mem_capBounds.2 ⟨_, hmem, hvalue, rfl⟩)

end Result

section Compared
variable (r : Supervision) (v : Nat)

theorem Supervision.intervenes_iff : r.intervenes v = true ↔
    (r.intervention = true ∧ r.p < v) ∨ (r.intervention = false ∧ r.i < v) := by
  unfold Supervision.intervenes
  cases r.intervention <;> simp

theorem Supervision.requests_iff (request stopped : Bool) : r.requests v request stopped = true ↔ r.intervenes v = true ∧
    (request = true ∨ (r.intervention = false ∧ stopped = false)) := by
  rw [Supervision.requests, Bool.and_eq_true, Bool.or_eq_true, Bool.and_eq_true, Bool.not_eq_true', Bool.not_eq_true']

theorem Supervision.compared_overspeed_iff (standstill stopped : Bool) :
    (r.compared v standstill stopped).overspeed = true ↔ r.overspeed = true ∨ r.e < v := by
  rw [Supervision.compared, Bool.or_eq_true, decide_eq_true_iff]

theorem Supervision.compared_hold_iff (standstill stopped : Bool) : (r.compared v standstill stopped).hold = true ↔
    r.p = 0 ∧ (r.hold = true ∨ (standstill = true ∧ stopped = false)) := by
  unfold Supervision.compared
  dsimp only
  cases r.hold <;> simp [and_assoc]

end Compared

section Judged
variable (c : Car) (e : EvalCopy)

/-- What the comparisons leave of the record of an evaluation. -/
theorem Car.judgedRecord_frame : c.judgedRecord e = { (c.ssv.record.recorded e (assess e c.pst.readable)) with
    warning := (c.judgedRecord e).warning
    intervention := (c.judgedRecord e).intervention
    overspeed := (c.judgedRecord e).overspeed
    hold := (c.judgedRecord e).hold } := by
  unfold Car.judgedRecord
  split <;> rfl

end Judged

/-- Settles O56: the outcome of an evaluation from what lane A delivers, what is recorded and what the comparisons make of it. -/
theorem evaluationsBoundTheSpeed : Obligations.EvaluationsBoundTheSpeed := by
  refine ⟨assess_p_eq_laneB, fun s hr => ⟨hr.evaluationStart_quiet, hr.evaluationStart_taken,
    fun upset hrun => hr.evaluationEnd_quiet hrun upset⟩, fun e s hr hi hrun => ?ends⟩
  case ends =>
  intro low high before
  obtain ⟨t, hdone, hexec⟩ := hr.evaluated hi hrun
  have hrecord : t.ssv.record = s.car.judgedRecord e := congrArg Ssv.record hdone.ssv
  have hframe := hrecord.trans (s.car.judgedRecord_frame e)
  refine ⟨⟨t, s.pending⟩, hexec none (.inl rfl), rfl, ?record, (congrArg Ssv.running hdone.ssv :),
    (congrArg Ssv.waiting hdone.ssv :), (congrArg Ssv.restrictions hdone.ssv :), hdone.lif, hdone.odo, hdone.tlf, hdone.pst,
    hdone.dor, hdone.faultStop⟩
  case record =>
  intro r
  set a := assess e s.car.pst.readable
  have hp : r.p = a.p := (congrArg Supervision.p hframe :)
  have hsource : r.source = a.source := (congrArg Supervision.source hframe :)
  have htargets : r.targets = a.targets := (congrArg Supervision.targets hframe :)
  have hcapability : r.capabilityShort = a.capabilityShort := (congrArg Supervision.capabilityShort hframe :)
  have hcoverage : r.coverageShort = a.coverageShort := (congrArg Supervision.coverageShort hframe :)
  have hsense (h : e.direction ≠ .neutral) : ∃ d, e.direction.sense = some d :=
    Option.ne_none_iff_exists'.1 (mt (Direction.sense_eq_none_iff e.direction).1 h)
  rw [hp, hsource, htargets, hcapability, hcoverage]
  refine ⟨(congrArg Supervision.w hframe :), (congrArg Supervision.i hframe :), (congrArg Supervision.e hframe :),
    fun h => ?neutral, fun hd h => ?unknown, fun hd hk h => ?noChannel, assess_quick, fun hd hk ha hu => ?uncovered,
    fun d hd => ⟨fun x hx hlow hhigh => ?segment, fun x hx happlies hlow hhigh => ?restriction⟩,
    fun h => assess_p_le_named (name := .radioLoss) (.head _) (if_pos h),
    fun h => assess_p_le_named (name := .mesh) (.tail _ (.head _)) (if_pos h),
    fun h => assess_p_le_named (name := .degradedOdometry) (.tail _ (.tail _ (.head _))) (if_pos h),
    fun h => assess_p_le_named (name := .lostPosition) (.tail _ (.tail _ (.tail _ (.head _)))) (if_pos h),
    fun hsat hne => ?saturated, fun x hx => (assess_p_le_overflow hx).1, assess_p_le_ceiling,
    fun d hd hlost ha => ?lost, fun n hd hk ha hn hc => ?coverage, fun h => ?still, fun h => ?compared,
    fun n hn => hexec _ (.inr (congrArg some hn)), fun n hn => hr.crosschecked hi hrun hn⟩
  case neutral =>
    have hassess := assess_neutral e s.car.pst.readable h
    exact ⟨congrArg Assessment.p hassess, congrArg Assessment.source hassess⟩
  case unknown =>
    have hassess := assess_unknown e s.car.pst.readable hd h
    exact ⟨congrArg Assessment.p hassess, congrArg Assessment.source hassess⟩
  case noChannel =>
    have hassess := assess_noChannel e s.car.pst.readable hd hk h
    exact ⟨congrArg Assessment.p hassess, congrArg Assessment.source hassess⟩
  case uncovered =>
    obtain ⟨d, hdir⟩ := hsense hd
    have hworks : e.Works d := ⟨hdir, by rw [hk]; nofun, ha⟩
    have hassess := hworks.assess_uncovered (by rw [hk]; nofun) hu
    exact ⟨congrArg Assessment.p hassess, congrArg Assessment.source hassess, congrArg Assessment.coverageShort hassess⟩
  case segment =>
    have hle : a.p ≤ cms (x.limit d) := assess_p_le_bound (b := (cms (x.limit d), .limitSegment x.id)) hd
      (List.mem_append_left _ (mem_limitBounds.2 (.inl ⟨x, hx, hlow, hhigh, rfl, rfl⟩)))
    cases d <;> exact hle
  case restriction =>
    exact assess_p_le_bound (b := (cms x.speed, .limitRestriction x.id)) hd (List.mem_append_left _
      (mem_limitBounds.2 (.inr ⟨x, hx, (x.appliesTo.holds_iff d).2 happlies, hlow, hhigh, rfl, rfl⟩)))
  case saturated =>
    obtain ⟨x, hx⟩ := List.exists_mem_of_ne_nil _ hne
    exact (assess_p_le_overflow hx).2 hsat
  case lost =>
    intro limits caps
    have hworks : e.Works d := ⟨hd, by rw [hlost]; nofun, ha⟩
    have hlimits (source : LimitingSource) : limits source ↔ (a.p, source) ∈ limitBounds e s.car.pst.readable d := by
      rw [mem_limitBounds]
      simp only [AppliesTo.holds_iff]
      cases d <;> exact Iff.rfl
    have hcaps : caps = capTable e := by rw [capTable, if_pos hlost]
    obtain ⟨⟨htargets, hcapability, hcoverage⟩, hlimited, hcapped⟩ := hworks.lost_source (t := s.car.pst.readable) hlost
    simp only [hlimits, hcaps]
    exact ⟨htargets, hcapability, hcoverage, hlimited, hcapped⟩
  case coverage =>
    obtain ⟨d, hdir⟩ := hsense hd
    have hworks : e.Works d := ⟨hdir, by rw [hk]; nofun, ha⟩
    have hfront : (if e.direction = .up then high else low) = frontMax e.position e.params.carLength d := by
      cases hdirection : e.direction <;> rw [hdirection] at hdir <;> cases hdir <;> rfl
    rw [hfront]
    exact hworks.coverage_end (by rw [hk]; nofun) hc hn
  case still =>
    have hstill : r = s.car.ssv.record.recorded e a := hrecord.trans (if_neg (ne_true_of_eq_false h))
    exact ⟨(congrArg Supervision.warning hstill :), (congrArg Supervision.intervention hstill :),
      (congrArg Supervision.overspeed hstill :), (congrArg Supervision.hold hstill :),
      hdone.request.trans (if_neg (ne_true_of_eq_false h))⟩
  case compared =>
    have hcompared : r = (s.car.ssv.record.recorded e a).compared e.v s.car.odo.standstill s.car.brk.faultStop :=
      hrecord.trans (if_pos h)
    have hrequest : t.brk.intervention = _ := hdone.request.trans (if_pos h)
    rw [hcompared]
    refine ⟨decide_eq_true_iff, Supervision.intervenes_iff .., ?_, Supervision.compared_overspeed_iff ..,
      Supervision.compared_hold_iff .., hdone.overspeed h, hdone.service⟩
    show t.brk.intervention = true ↔ _
    rw [hrequest]
    exact Supervision.requests_iff ..

end Sys2Proof.Machine
end

section
/-! The targets and the curve speeds of an evaluation (R16, R69 to R71), as the lists and sums they are. -/

namespace Sys2Proof.Machine

/-! ## Sorting by distance -/

theorem sortBy_perm {α : Type} (le : α → α → Bool) (l : List α) : (sortBy le l).Perm l := by
  induction l with
  | nil => exact .refl _
  | cons x l ih => exact (insertBy_perm ..).trans (ih.cons x)

/-- A list sorted by a key is in increasing order of the key. -/
theorem sortBy_pairwise {α : Type} (key : α → Nat) (l : List α) :
    (sortBy (fun a b => decide (key a ≤ key b)) l).Pairwise fun a b => key a ≤ key b := by
  induction l with
  | nil => exact .nil
  | cons x l ih =>
    refine insertBy_pairwise (fun _ _ _ => Nat.le_trans) (fun y _ h => ?_) (fun y _ h => ?_) ih
    · simp at h
      omega
    · simp at h
      omega

/-! ## The square root (R70) -/

theorem sqrtBits_spec (k n r : Nat) (hlow : r * r ≤ n) (hhigh : n < (r + 2 ^ k) * (r + 2 ^ k)) :
    sqrtBits k n r * sqrtBits k n r ≤ n ∧ n < (sqrtBits k n r + 1) * (sqrtBits k n r + 1) := by
  induction k generalizing r with
  | zero => exact ⟨hlow, hhigh⟩
  | succ k ih =>
    rw [sqrtBits]
    split
    · next h => exact ih _ h (by rwa [Nat.add_assoc, ← Nat.two_mul, ← Nat.pow_succ'])
    · next h => exact ih _ hlow (Nat.not_le.1 h)

theorem isqrt_spec {n : Nat} (h : n < 2 ^ 22) : isqrt n * isqrt n ≤ n ∧ n < (isqrt n + 1) * (isqrt n + 1) :=
  sqrtBits_spec 11 n 0 (Nat.zero_le _) (by omega)

theorem eq_isqrt_iff {n : Nat} (h : n < 2 ^ 22) (v : Nat) : v = isqrt n ↔ v * v ≤ n ∧ n < (v + 1) * (v + 1) := by
  obtain ⟨hlow, hhigh⟩ := isqrt_spec h
  constructor
  · rintro rfl
    exact ⟨hlow, hhigh⟩
  · rintro ⟨hv, hv'⟩
    have h1 : v < isqrt n + 1 := Nat.mul_self_lt_mul_self_iff.1 (hv.trans_lt hhigh)
    have h2 : isqrt n < v + 1 := Nat.mul_self_lt_mul_self_iff.1 (hlow.trans_lt hv')
    omega

/-! ## Pieces of a stretch (R16) -/

/-- A sum over the pieces of a stretch is one over the table, where what lies outside the stretch counts nothing. -/
theorem pieces_sum (t : List Segment) (a b : Int) (f : Piece → Nat)
    (hf : ∀ x : Segment, f ⟨x.id, x.kind, x.gradient, 0⟩ = 0) :
    ((pieces t a b).map f).sum = (t.map fun x => f ⟨x.id, x.kind, x.gradient, x.pieceOf a b⟩).sum := by
  unfold pieces
  induction t with
  | nil => rfl
  | cons x t ih =>
    rw [List.map_cons, List.sum_cons, ← ih]
    by_cases hx : 0 < x.pieceOf a b
    · rw [List.filter_cons_of_pos (by simpa using hx), List.map_cons, List.map_cons, List.sum_cons]
    · rw [List.filter_cons_of_neg (by simpa using hx), Nat.eq_zero_of_not_pos hx, hf, Nat.zero_add]

theorem mem_pieces {t : List Segment} {a b : Int} {q : Piece} :
    q ∈ pieces t a b ↔ ∃ x ∈ t, 0 < x.pieceOf a b ∧ q = ⟨x.id, x.kind, x.gradient, x.pieceOf a b⟩ := by
  simp [pieces, and_assoc, eq_comm]

section Curve
variable (e : EvalCopy) (dir : Sense) (t : List Segment)

/-- The part of a segment in a target's curve stretch. -/
def pieceFor (q : Target) (x : Segment) : Nat := x.pieceOf (stretch e dir q).1 (stretch e dir q).2

/-- What a segment's track gives of deceleration in the direction of travel (R70, R71). -/
def Segment.brakes (x : Segment) : Int := effective e dir ⟨x.id, x.kind, x.gradient, 0⟩

/-- The square of speed of a target's stretch, over the table. -/
def squareFor (q : Target) : Nat :=
  q.speed * q.speed + (t.map fun x => (x.brakes e dir).toNat * pieceFor e dir q x / 5).sum

theorem fullSquare_stretch (q : Target) : fullSquare e dir (q.speed * q.speed) (stretchPieces e t dir q) = squareFor e dir t q :=
  congrArg (q.speed * q.speed + ·) (pieces_sum t _ _ (pieceCredit e dir) fun x => by
    rw [pieceCredit, Nat.mul_zero, Nat.zero_div])

theorem piecesTotal_stretch (q : Target) : piecesTotal (stretchPieces e t dir q) = (t.map (pieceFor e dir q)).sum :=
  pieces_sum t _ _ Piece.length fun _ => rfl

/-- The curve speed of a target, said without the square root (R70). -/
theorem eq_curveOf_iff (q : Target) (v : Nat) : v = curveOf e dir t q ↔
    if q.distance ≤ e.v * e.params.reactionTime / 10 ∨
      ((t.map (pieceFor e dir q)).sum : Int) < (stretch e dir q).2 - (stretch e dir q).1 then v = q.speed
    else if 1440000 ≤ squareFor e dir t q then v = 1200
    else v * v ≤ squareFor e dir t q ∧ squareFor e dir t q < (v + 1) * (v + 1) := by
  unfold curveOf
  rw [piecesTotal_stretch, fullSquare_stretch]
  by_cases hnear : q.distance ≤ e.v * e.params.reactionTime / 10
  · have hexamined : examined e q = false := decide_eq_false (Nat.not_lt.2 hnear)
    rw [hexamined, Bool.not_false, if_pos rfl, if_pos (.inl hnear)]
  · have hexamined : examined e q = true := decide_eq_true (Nat.not_le.1 hnear)
    rw [hexamined, Bool.not_true, if_neg Bool.false_ne_true]
    by_cases hshort : ((t.map (pieceFor e dir q)).sum : Int) < (stretch e dir q).2 - (stretch e dir q).1
    · rw [if_pos hshort, if_pos (.inr hshort)]
    · have hcurve : ¬ (q.distance ≤ e.v * e.params.reactionTime / 10 ∨
          ((t.map (pieceFor e dir q)).sum : Int) < (stretch e dir q).2 - (stretch e dir q).1) := not_or.2 ⟨hnear, hshort⟩
      rw [if_neg hshort, if_neg hcurve, show fullCredit = 1440000 from rfl]
      by_cases hfull : 1440000 ≤ squareFor e dir t q
      · rw [if_pos hfull, if_pos hfull]
      · rw [if_neg hfull, if_neg hfull]
        exact eq_isqrt_iff (by omega) v

/-- CAPABILITY_SHORT, over the table (R70). -/
theorem shortCapability_iff (targets : List Target) : shortCapability e t dir targets = true ↔
    ∃ q ∈ targets, e.v * e.params.reactionTime / 10 < q.distance ∧ ∃ x ∈ t, 0 < pieceFor e dir q x ∧ x.brakes e dir ≤ 0 := by
  unfold shortCapability
  simp only [List.any_eq_true, Bool.and_eq_true, decide_eq_true_eq, examined]
  refine exists_congr fun q => and_congr_right fun _ => and_congr_right fun _ => ?_
  constructor
  · rintro ⟨p, hp, hshort⟩
    obtain ⟨x, hx, hpiece, rfl⟩ := mem_pieces.1 hp
    exact ⟨x, hx, hpiece, hshort⟩
  · rintro ⟨x, hx, hpiece, hshort⟩
    exact ⟨_, mem_pieces.2 ⟨x, hx, hpiece, rfl⟩, hshort⟩

end Curve

/-! ## The targets (R69) -/

section Targets
variable (e : EvalCopy) (dir : Sense) (t : List Segment)

/-- What lies wholly ahead of the car, from its first position to the one past its last, as a target. -/
def targetAhead (front first past : Int) (speed : Nat) (source : LimitingSource) : Option Target :=
  match dir with
  | .up => if front < first then some ⟨(first - front).toNat, first, speed, source⟩ else none
  | .down => if past ≤ front then some ⟨(front - past).toNat, past, speed, source⟩ else none

/-- The targets, not yet in order of distance. -/
def unsortedTargets (front : Int) (de : Nat) (edge : Int) : List Target :=
  (t.filterMap fun x => targetAhead dir front x.low ((x.low : Int) + x.length) (cms (x.limit dir)) (.targetSegment x.id)).filter
    (fun q => decide (q.distance ≤ min e.params.horizon de)) ++
  ((e.restrictions.filter (·.appliesTo.holds dir)).filterMap fun r =>
    targetAhead dir front r.low ((r.high : Int) + 1) (cms r.speed) (.targetRestriction r.id)).filter
    (fun q => decide (q.distance ≤ min e.params.horizon de)) ++
  (if de ≤ e.params.horizon then [⟨de, edge, 0, .targetCoverageEnd⟩] else [])

/-- The targets of the segments ahead are the boundaries ahead (R16). -/
theorem boundariesAhead_targets (front : Int) (reach : Nat) :
    ((boundariesAhead t front dir reach).map fun b => (⟨b.distance, b.edge, cms b.limit, .targetSegment b.id⟩ : Target)).Perm
      ((t.filterMap fun x => targetAhead dir front x.low ((x.low : Int) + x.length) (cms (x.limit dir))
        (.targetSegment x.id)).filter fun q => decide (q.distance ≤ reach)) := by
  refine ((sortBy_perm ..).map _).trans (.of_eq ?_)
  rw [List.map_map, ← List.filterMap_eq_map, List.filterMap_filter, List.filter_filterMap]
  refine List.filterMap_congr fun x _ => ?_
  cases dir with
  | up =>
    by_cases hahead : front < (x.low : Int)
    · have hdistance : ((x.low : Int) - front).natAbs = ((x.low : Int) - front).toNat := by omega
      have hreach : (x.low : Int) - front ≤ reach ↔ ((x.low : Int) - front).toNat ≤ reach := by omega
      by_cases hnear : ((x.low : Int) - front).toNat ≤ reach
      · simp only [targetAhead, Segment.aheadOf, Segment.entryEdge, hahead, hreach, hnear, hdistance, Function.comp_apply,
          decide_true, Bool.and_true, if_true, Option.filter_some]
      · simp only [targetAhead, Segment.aheadOf, hahead, hreach, hnear, decide_true, decide_false, Bool.and_false,
          Bool.false_eq_true, if_true, if_false, Option.filter_some]
    · simp only [targetAhead, Segment.aheadOf, hahead, decide_false, Bool.false_and, Bool.false_eq_true, if_false,
        Option.filter_none]
  | down =>
    have hside : x.high < front ↔ (x.low : Int) + x.length ≤ front := by
      unfold Segment.high
      omega
    by_cases hahead : (x.low : Int) + x.length ≤ front
    · have hedge : x.high + 1 = (x.low : Int) + x.length := by
        unfold Segment.high
        omega
      have hdistance : ((x.low : Int) + x.length - front).natAbs = (front - ((x.low : Int) + x.length)).toNat := by omega
      have hreach : front - ((x.low : Int) + x.length) ≤ reach ↔ (front - ((x.low : Int) + x.length)).toNat ≤ reach := by omega
      by_cases hnear : (front - ((x.low : Int) + x.length)).toNat ≤ reach
      · simp only [targetAhead, Segment.aheadOf, Segment.entryEdge, hside, hahead, hedge, hreach, hnear, hdistance,
          Function.comp_apply, decide_true, Bool.and_true, if_true, Option.filter_some]
      · simp only [targetAhead, Segment.aheadOf, hside, hahead, hedge, hreach, hnear, decide_true, decide_false, Bool.and_false,
          Bool.false_eq_true, if_true, if_false, Option.filter_some]
    · simp only [targetAhead, Segment.aheadOf, hside, hahead, decide_false, Bool.false_and, Bool.false_eq_true, if_false,
        Option.filter_none]

/-- The targets of the restrictions ahead. -/
theorem restrictionTargets (front : Int) :
    e.restrictions.filterMap (restrictionTarget front dir) =
      (e.restrictions.filter (·.appliesTo.holds dir)).filterMap fun r =>
        targetAhead dir front r.low ((r.high : Int) + 1) (cms r.speed) (.targetRestriction r.id) := by
  rw [List.filterMap_filter]
  refine List.filterMap_congr fun r _ => ?_
  unfold restrictionTarget
  split
  · cases dir with
    | up => rfl
    | down => rfl
  · rfl

theorem targetsOf_perm : (targetsOf e t dir).Perm (unsortedTargets e dir t (frontMax e.position e.params.carLength dir)
    (coverageDistance e (frontMax e.position e.params.carLength dir))
    (coverageEdge e (frontMax e.position e.params.carLength dir))) := by
  refine (sortBy_perm ..).trans ?_
  unfold unsortedTargets
  rw [restrictionTargets]
  exact ((boundariesAhead_targets ..).append_right _).append_right _

end Targets
end Sys2Proof.Machine
end

section
/-! O57: the permitted speed of an evaluation that reaches its targets, and what its limiting source names (R63, R69 to R72). -/

namespace Sys2Proof.Machine

/-- The first of a list whose bound has the lowest value, when nothing before the list has it. -/
theorem lowest_map {α : Type} {f : α → Bound} {l : List α} {m : List Bound} {b : Bound} (h : lowest (l.map f ++ m) = some b)
    (hl : ∃ x ∈ l, (f x).1 = b.1) : ∃ a x d, l = a ++ x :: d ∧ f x = b ∧ ∀ y ∈ a, (f y).1 ≠ b.1 := by
  induction l with
  | nil =>
    obtain ⟨x, hx, -⟩ := hl
    cases hx
  | cons x l ih =>
    rw [List.map_cons, List.cons_append, lowest] at h
    split at h
    · next k hk =>
      split at h
      · next hlt =>
        cases h
        obtain ⟨y, hy, hvalue⟩ := hl
        have hne : (f x).1 ≠ b.1 := hlt.ne'
        have hmem : y ∈ l := (List.mem_cons.1 hy).resolve_left fun heq => hne (by rw [heq] at hvalue; exact hvalue)
        obtain ⟨a, z, d, rfl, hz, ha⟩ := ih hk ⟨y, hmem, hvalue⟩
        exact ⟨x :: a, z, d, rfl, hz, List.forall_mem_cons.2 ⟨hne, ha⟩⟩
      · cases h
        exact ⟨[], x, l, rfl, rfl, nofun⟩
    · cases h
      exact ⟨[], x, l, rfl, rfl, nofun⟩

section Result
variable (e : EvalCopy) (dir : Sense) (t : List Segment)

/-- The curve speeds of the targets as bounds, in order of distance. -/
def curveBounds : List Bound := (targetsOf e t dir).map fun q => (curveOf e dir t q, q.source)

/-- P and its limiting source are the first bound of the lowest value, of the limits, the caps, the curves and the ceiling. -/
theorem assessTargets_lowest : lowest (limitBounds e t dir ++ (capBounds e ++ (curveBounds e dir t ++ [(1200, .ceiling)]))) =
    some ((assessTargets e t dir).p, (assessTargets e t dir).source) := by
  have hcurves : ((targetsOf e t dir).map fun q => (curveSpeed fromTarget e t dir q, q.source)) = curveBounds e dir t :=
    List.map_congr_left fun q _ => by rw [curveSpeed_eq e dir t q fromTarget (fromTarget_perm dir)]
  have hsource : (assessTargets e t dir).source =
      ((lowest (limitBounds e t dir ++ capBounds e ++ curveBounds e dir t ++ [(1200, .ceiling)])).map (·.2)).getD .ceiling := by
    rw [← hcurves]
    rfl
  rw [List.append_assoc, List.append_assoc] at hsource
  obtain ⟨b, hb⟩ := lowest_ne_none (l := limitBounds e t dir ++ (capBounds e ++ (curveBounds e dir t ++ [(1200, .ceiling)])))
    (by simp)
  obtain ⟨hmem, hle⟩ := lowest_mem hb
  have hp := assessTargets_p e t dir
  have hvalue : b.1 = (assessTargets e t dir).p := by
    rw [hp]
    refine le_antisymm (le_laneMinimum_iff.2 ⟨le_laneMinimum_iff.2 ⟨hle (1200, .ceiling) (by simp), ?_⟩, ?_⟩) ?_
    · intro v hv
      obtain ⟨x, hx, rfl⟩ := List.mem_map.1 hv
      refine hle x ?_
      rw [← List.append_assoc]
      exact List.mem_append_left _ hx
    · intro v hv
      obtain ⟨q, hq, rfl⟩ := List.mem_map.1 hv
      exact hle (curveOf e dir t q, q.source) (List.mem_append_right _ (List.mem_append_right _ (List.mem_append_left _
        (List.mem_map_of_mem (f := fun q : Target => (curveOf e dir t q, q.source)) hq))))
    · rw [← List.append_assoc, List.mem_append, List.mem_append (s := curveBounds e dir t)] at hmem
      rcases hmem with hmem | hmem | hmem
      · exact (laneMinimum_le_start ..).trans (laneMinimum_le_mem (List.mem_map_of_mem hmem) _)
      · obtain ⟨q, hq, rfl⟩ := List.mem_map.1 hmem
        exact laneMinimum_le_mem (List.mem_map_of_mem hq) _
      · rw [List.mem_singleton.1 hmem]
        exact (laneMinimum_le_start ..).trans (laneMinimum_le_start ..)
  rw [hb] at hsource ⊢
  rw [← hvalue, hsource]
  rfl

/-- Whether a limit over the car, or a cap, gives P. -/
def Limited : Prop := ∃ source, ((assessTargets e t dir).p, source) ∈ limitBounds e t dir

def Capped : Prop := ∃ c ∈ capTable e, c.2 = some (assessTargets e t dir).p

variable {e dir t}

theorem assessTargets_limited (h : Limited e dir t) :
    ((assessTargets e t dir).p, (assessTargets e t dir).source) ∈ limitBounds e t dir := by
  obtain ⟨source, hsource⟩ := h
  exact lowest_append_left (assessTargets_lowest e dir t) ⟨_, hsource, rfl⟩

theorem lowest_of_unlimited (h : ¬ Limited e dir t) : lowest (capBounds e ++ (curveBounds e dir t ++ [(1200, .ceiling)])) =
    some ((assessTargets e t dir).p, (assessTargets e t dir).source) :=
  lowest_append_right (assessTargets_lowest e dir t) fun x hx hvalue => h ⟨x.2, by
    rw [← show x.1 = (assessTargets e t dir).p from hvalue]
    exact hx⟩

theorem assessTargets_capped (hl : ¬ Limited e dir t) {c : CapName × Option Nat}
    (hc : (capTable e).find? (fun c => c.2 == some (assessTargets e t dir).p) = some c) :
    (assessTargets e t dir).source = .cap c.1 := by
  have hlowest := lowest_of_unlimited hl
  rw [capBounds_eq] at hlowest
  obtain ⟨a, x, d, htable, hx, ha, hsource⟩ := lowest_caps hlowest ⟨c, List.mem_of_find?_eq_some hc, by
    simpa using List.find?_some hc⟩
  have hfind : (capTable e).find? (fun c => c.2 == some (assessTargets e t dir).p) = some x := by
    rw [List.find?_eq_some_iff_append]
    exact ⟨by simpa using hx, a, d, htable, fun y hy => by simpa using ha y hy⟩
  cases hc.symm.trans hfind
  exact hsource

theorem lowest_of_unbounded (hl : ¬ Limited e dir t) (hc : ¬ Capped e dir t) :
    lowest (curveBounds e dir t ++ [(1200, .ceiling)]) =
      some ((assessTargets e t dir).p, (assessTargets e t dir).source) :=
  lowest_append_right (lowest_of_unlimited hl) fun x hx hvalue => hc <| by
    obtain ⟨c, hmem, hcv, -⟩ := mem_capBounds.1 hx
    exact ⟨c, hmem, hcv.trans (congrArg some hvalue)⟩

/-- With no bound that gives P, it is given by the nearest target whose curve does. -/
theorem assessTargets_curve (hl : ¬ Limited e dir t) (hc : ¬ Capped e dir t)
    (hq : ∃ q ∈ targetsOf e t dir, (assessTargets e t dir).p = curveOf e dir t q) :
    ∃ q ∈ targetsOf e t dir, (assessTargets e t dir).p = curveOf e dir t q ∧ (assessTargets e t dir).source = q.source ∧
      ∀ q' ∈ targetsOf e t dir, (assessTargets e t dir).p = curveOf e dir t q' → q.distance ≤ q'.distance := by
  obtain ⟨q, hq, hvalue⟩ := hq
  obtain ⟨a, x, d, hsplit, hx, ha⟩ := lowest_map (lowest_of_unbounded hl hc) ⟨q, hq, hvalue.symm⟩
  have hsorted : (targetsOf e t dir).Pairwise fun a b => a.distance ≤ b.distance := sortBy_pairwise Target.distance _
  rw [hsplit] at hsorted ⊢
  obtain ⟨-, htail, -⟩ := List.pairwise_append.1 hsorted
  have hafter := (List.pairwise_cons.1 htail).1
  refine ⟨x, List.mem_append_right _ (List.mem_cons_self ..), (congrArg Prod.fst hx).symm, (congrArg Prod.snd hx).symm,
    fun q' hq' hvalue' => ?_⟩
  rcases List.mem_append.1 hq' with hq' | hq'
  · exact absurd hvalue'.symm (ha q' hq')
  · rcases List.mem_cons.1 hq' with rfl | hq'
    · exact Nat.le_refl _
    · exact hafter q' hq'

theorem assessTargets_ceiling (hl : ¬ Limited e dir t) (hc : ¬ Capped e dir t)
    (hq : ∀ q ∈ targetsOf e t dir, (assessTargets e t dir).p ≠ curveOf e dir t q) :
    (assessTargets e t dir).p = 1200 ∧ (assessTargets e t dir).source = .ceiling := by
  have hlowest := lowest_append_right (lowest_of_unbounded hl hc) fun x hx hvalue => by
    obtain ⟨q, hmem, rfl⟩ := List.mem_map.1 hx
    exact hq q hmem hvalue.symm
  have hceiling := List.mem_singleton.1 (lowest_mem hlowest).1
  exact ⟨congrArg Prod.fst hceiling, congrArg Prod.snd hceiling⟩

theorem target_source_ne_ceiling {q : Target} (h : q ∈ targetsOf e t dir) : q.source ≠ .ceiling := by
  have hahead {front first past : Int} {speed : Nat} {source : LimitingSource}
      (hq : targetAhead dir front first past speed source = some q) : q.source = source := by
    unfold targetAhead at hq
    split at hq <;> split at hq <;> cases hq <;> rfl
  have hmem := (targetsOf_perm e dir t).mem_iff.1 h
  unfold unsortedTargets at hmem
  rw [List.mem_append, List.mem_append, List.mem_filter, List.mem_filter, List.mem_filterMap, List.mem_filterMap] at hmem
  rcases hmem with (⟨⟨x, -, hx⟩, -⟩ | ⟨⟨r, -, hr⟩, -⟩) | hend
  · rw [hahead hx]
    nofun
  · rw [hahead hr]
    nofun
  · split at hend
    · rw [List.mem_singleton.1 hend]
      nofun
    · cases hend

/-- The ceiling is the limiting source exactly when nothing else gives P. -/
theorem assessTargets_ceiling_iff : (assessTargets e t dir).source = .ceiling ↔
    ¬ (Limited e dir t ∨ Capped e dir t) ∧ ∀ q ∈ targetsOf e t dir, (assessTargets e t dir).p ≠ curveOf e dir t q := by
  constructor
  · intro hsource
    have hl : ¬ Limited e dir t := fun hl => by
      have hmem := assessTargets_limited hl
      rw [hsource, mem_limitBounds] at hmem
      rcases hmem with ⟨x, -, -, -, -, hx⟩ | ⟨r, -, -, -, -, -, hr⟩
      · cases hx
      · cases hr
    have hc : ¬ Capped e dir t := fun ⟨c, hc, hvalue⟩ => by
      have hfound := (List.find?_isSome (p := fun c : CapName × Option Nat => c.2 == some (assessTargets e t dir).p)).2
        ⟨c, hc, beq_iff_eq.2 hvalue⟩
      obtain ⟨x, hx⟩ := Option.isSome_iff_exists.1 hfound
      cases hsource.symm.trans (assessTargets_capped hl hx)
    refine ⟨fun h => h.elim hl hc, fun q hq hvalue => ?_⟩
    obtain ⟨x, hx, -, hxs, -⟩ := assessTargets_curve hl hc ⟨q, hq, hvalue⟩
    exact target_source_ne_ceiling hx (hxs.symm.trans hsource)
  · rintro ⟨hbounded, hq⟩
    obtain ⟨hl, hc⟩ := not_or.1 hbounded
    exact (assessTargets_ceiling hl hc hq).2

/-- P is a bound, a curve speed or the ceiling. -/
theorem assessTargets_attained : (Limited e dir t ∨ Capped e dir t) ∨ (assessTargets e t dir).p = 1200 ∨
    ∃ q ∈ targetsOf e t dir, (assessTargets e t dir).p = curveOf e dir t q := by
  by_cases hb : Limited e dir t ∨ Capped e dir t
  · exact .inl hb
  · by_cases hq : ∃ q ∈ targetsOf e t dir, (assessTargets e t dir).p = curveOf e dir t q
    · exact .inr (.inr hq)
    · obtain ⟨hl, hc⟩ := not_or.1 hb
      exact .inr (.inl (assessTargets_ceiling hl hc fun q hmem hvalue => hq ⟨q, hmem, hvalue⟩).1)

end Result
end Sys2Proof.Machine
end

section
/-! O57: the targets, the curve speeds and the permitted speed of an evaluation (R63, R69 to R72). -/

namespace Sys2Proof.Machine

section Words
variable (e : EvalCopy)

/-- A target by its distance, its edge, its speed and its source. -/
def targetOfTuple (q : Nat × Int × Nat × LimitingSource) : Target := ⟨q.1, q.2.1, q.2.2.1, q.2.2.2⟩

theorem Segment.pieceOf_eq (x : Segment) (a b : Int) : x.pieceOf a b = (min b ((x.low : Int) + x.length) - max a x.low).toNat := by
  rw [Segment.pieceOf, Segment.high, Int.sub_add_cancel]

theorem capability_eq (kind : TrackKind) : capability e.params kind e.load e.available =
    if kind = .rack then (if e.available = 1 then e.params.rack1 else e.params.rack2).get e.load
    else (if e.available = 1 then e.params.adhesion1 else e.params.adhesion2).get e.load := by
  generalize e.available = available
  rcases available with _ | _ | available <;> cases kind <;> rfl

theorem gdown_eq (g : Int) : gdown g = (9807 * (max 0 (-g)).toNat + 999) / 1000 := by
  have hceil (n : Nat) : ceilDiv n 1000 = (n + 999) / 1000 := by
    rw [ceilDiv, Nat.add_sub_assoc (by decide)]
  exact hceil _

theorem Segment.brakes_eq (dir : Sense) (x : Segment) : x.brakes e dir =
    (capability e.params x.kind e.load e.available : Int) - gdown (gradientAlong x.gradient dir) := rfl

/-- At a KNOWN position the cap of a LOST one stands in the table without a value. -/
theorem capTable_known (h : e.position.state ≠ .lost) : ∃ a b c d, capTable e = [a, b, c, (.lostPosition, none), d] ∧
    [(.radioLoss, if e.radioLost = true then some (cms e.params.radioCap) else none),
      (.mesh, if e.meshShallow = true then some (cms e.params.meshCap) else none),
      (.degradedOdometry, if e.degraded = true then some (cms e.params.degradedCap) else none),
      (.overflow, (overflowCap e.overflow e.saturated).map cms)] = [a, b, c, d] :=
  ⟨_, _, _, _, by rw [capTable, if_neg h], rfl⟩

theorem valueless_exists (a b c d : CapName × Option Nat) (name : CapName) (p : Nat) :
    (∃ x ∈ [a, b, c, d], x.2 = some p) ↔ ∃ x ∈ [a, b, c, (name, none), d], x.2 = some p := by
  simp

theorem valueless_find (a b c d : CapName × Option Nat) (name : CapName) (p : Nat) :
    [a, b, c, (name, none), d].find? (fun x => x.2 == some p) = [a, b, c, d].find? fun x => x.2 == some p := by
  simp [List.find?_cons]

end Words

/-- Settles O57: the statement's own lists and sums are those of the model, and P is their first lowest bound. -/
theorem curvesAndTargets : Obligations.CurvesAndTargets := by
  intro e dir n s hr hi hrun table low high hsense hknown hchannel hcoverage hcovered front de reaction limit applies ahead targets
    piece whole cap downhill brakes square curve
  have htable : table = s.car.pst.readable := hi.readable.symm
  have hworks : e.Works dir := ⟨hsense, by rw [hknown]; nofun, hchannel⟩
  have hfront : front = frontMax e.position e.params.carLength dir := by cases dir <;> rfl
  have hde : de = coverageDistance e (frontMax e.position e.params.carLength dir) := by
    rw [← hfront, coverageDistance, hcoverage]
  have hedge : (n : Int) = coverageEdge e (frontMax e.position e.params.carLength dir) := by rw [coverageEdge, hcoverage]
  have hlimit (x : Segment) : limit x = x.limit dir := by cases dir <;> rfl
  have happlies (r : Restriction) : applies r = r.appliesTo.holds dir := by
    cases dir with
    | up =>
      show (r.appliesTo == .up || r.appliesTo == .both) = r.appliesTo.holds .up
      cases r.appliesTo <;> rfl
    | down =>
      show (r.appliesTo == .down || r.appliesTo == .both) = r.appliesTo.holds .down
      cases r.appliesTo <;> rfl
  have hahead (first past : Int) (speed : Nat) (source : LimitingSource) :
      (ahead first past speed source).map targetOfTuple = targetAhead dir front first past speed source := by
    cases dir with
    | up =>
      show (if front < first then some ((first - front).toNat, first, speed, source) else none).map targetOfTuple =
        if front < first then _ else _
      split <;> rfl
    | down =>
      show (if past ≤ front then some ((front - past).toNat, past, speed, source) else none).map targetOfTuple =
        if past ≤ front then _ else _
      split <;> rfl
  have htargets : (targets.map targetOfTuple).Perm (targetsOf e table dir) := by
    refine .trans (.of_eq ?_) (targetsOf_perm e dir table).symm
    rw [← hedge, ← hde, ← hfront, unsortedTargets]
    have hnear (l : List (Nat × Int × Nat × LimitingSource)) :
        (l.filter fun q => decide (q.1 ≤ min e.params.horizon de)).map targetOfTuple =
          (l.map targetOfTuple).filter fun q => decide (q.distance ≤ min e.params.horizon de) := by
      rw [List.filter_map]
      rfl
    show List.map targetOfTuple (_ ++ _ ++ _) = _
    rw [List.map_append, List.map_append, hnear, hnear, List.map_filterMap, List.map_filterMap]
    simp only [hahead, hlimit, funext happlies]
    congr 1
    split <;> rfl
  have hpiece (q : Nat × Int × Nat × LimitingSource) (x : Segment) : piece q x = pieceFor e dir (targetOfTuple q) x := by
    rw [pieceFor, Segment.pieceOf_eq]
    cases dir <;> rfl
  have hwhole (q : Nat × Int × Nat × LimitingSource) :
      whole q = (stretch e dir (targetOfTuple q)).2 - (stretch e dir (targetOfTuple q)).1 := by
    cases dir <;> rfl
  have hbrakes (x : Segment) : brakes x = x.brakes e dir := by
    rw [Segment.brakes_eq, capability_eq, gdown_eq]
    cases dir with
    | up => rfl
    | down =>
      rw [show gradientAlong x.gradient .down = -x.gradient from rfl, Int.neg_neg]
  have hsquare (q : Nat × Int × Nat × LimitingSource) : square q = squareFor e dir table (targetOfTuple q) := by
    show _ + (table.map fun x => (brakes x).toNat * piece q x / 5).sum = _
    simp only [hbrakes, hpiece]
    rfl
  have hcurve (q : Nat × Int × Nat × LimitingSource) (v : Nat) : curve q v ↔ v = curveOf e dir table (targetOfTuple q) := by
    rw [eq_curveOf_iff, ← hsquare, ← hwhole, ← funext (hpiece q)]
    exact Iff.rfl
  have hmem (q : Target) : q ∈ targetsOf e table dir ↔ ∃ p ∈ targets, targetOfTuple p = q := by
    rw [← htargets.mem_iff, List.mem_map]
  have hassess : assess e s.car.pst.readable = assessTargets e table dir := by
    rw [← htable]
    exact hworks.assess_covered (by rw [hknown]; nofun) hcovered
  obtain ⟨t, hdone, hexec⟩ := hr.evaluated hi hrun
  have hframe := (congrArg Ssv.record hdone.ssv).trans (s.car.judgedRecord_frame e)
  rw [hassess] at hframe
  refine ⟨⟨t, s.pending⟩, hexec none (.inl rfl), rfl, ?record, hdone.odo, hdone.pst, hdone.dor⟩
  case record =>
  intro r limits caps limited capped bounded
  have hp : r.p = (assessTargets e table dir).p := (congrArg Supervision.p hframe :)
  have hsource : r.source = (assessTargets e table dir).source := (congrArg Supervision.source hframe :)
  have hcount : r.targets = (targetsOf e table dir).length := (congrArg Supervision.targets hframe :)
  have hcapability : r.capabilityShort = shortCapability e table dir (targetsOf e table dir) :=
    (congrArg Supervision.capabilityShort hframe :)
  have hshort : r.coverageShort = decide (coverageDistance e (frontMax e.position e.params.carLength dir) ≤ e.params.horizon) :=
    (congrArg Supervision.coverageShort hframe :)
  have hlimits (source : LimitingSource) : limits source ↔ ((assessTargets e table dir).p, source) ∈ limitBounds e table dir := by
    rw [mem_limitBounds, ← hp]
    simp only [← hlimit, ← happlies]
    exact Iff.rfl
  have hlimited : limited ↔ Limited e dir table := exists_congr hlimits
  obtain ⟨c1, c2, c3, c5, htab, hcaps⟩ := capTable_known e (by rw [hknown]; nofun)
  have hcapped : capped ↔ Capped e dir table := by
    rw [Capped, htab, ← valueless_exists, ← hcaps, ← hp]
  have hbounded : bounded ↔ Limited e dir table ∨ Capped e dir table := or_congr hlimited hcapped
  have hgives (q : Nat × Int × Nat × LimitingSource) :
      curve q r.p ↔ (assessTargets e table dir).p = curveOf e dir table (targetOfTuple q) := by rw [hcurve, hp]
  have hgiven : (∃ q ∈ targets, curve q r.p) ↔
      ∃ q ∈ targetsOf e table dir, (assessTargets e table dir).p = curveOf e dir table q := by
    simp only [hmem, hgives, exists_exists_and_eq_and]
  refine ⟨?count, fun q hq => ⟨_, (hcurve q _).2 rfl, ?below⟩, ?ceiling, ?attained, fun h => ?limits,
    fun hl a c b hsplit hc ha => ?caps, fun hb hq => ?curve, ?source, ?capability, ?coverage⟩
  case count => rw [hcount, ← htargets.length_eq, List.length_map]
  case below =>
    rw [hp, assessTargets_p]
    exact laneMinimum_le_mem (List.mem_map_of_mem ((hmem _).2 ⟨q, hq, rfl⟩)) _
  case ceiling =>
    rw [hp]
    exact assessTargets_p_le_ceiling
  case attained =>
    rw [hbounded, hgiven, hp]
    exact assessTargets_attained
  case limits =>
    rw [hlimits, hsource]
    exact assessTargets_limited (hlimited.1 h)
  case caps =>
    rw [hsource]
    refine assessTargets_capped (mt hlimited.2 hl) ?_
    rw [htab, valueless_find, ← hcaps, ← hp, List.find?_eq_some_iff_append]
    exact ⟨beq_iff_eq.2 hc, a, b, hsplit, fun y hy => by simpa using ha y hy⟩
  case curve =>
    obtain ⟨hl, hc⟩ := not_or.1 (mt hbounded.2 hb)
    obtain ⟨x, hx, hvalue, hxs, hnearest⟩ := assessTargets_curve hl hc (hgiven.1 hq)
    obtain ⟨q, hq, rfl⟩ := (hmem x).1 hx
    exact ⟨q, hq, (hgives q).2 hvalue, hsource.trans hxs,
      fun q' hq' h => hnearest _ ((hmem _).2 ⟨q', hq', rfl⟩) ((hgives q').1 h)⟩
  case source =>
    rw [hsource, assessTargets_ceiling_iff, hbounded]
    simp only [hmem, hgives, forall_exists_index, and_imp, forall_apply_eq_imp_iff₂, ne_eq]
  case capability =>
    rw [hcapability, shortCapability_iff]
    simp only [hmem, exists_exists_and_eq_and, ← hpiece, ← hbrakes]
    exact Iff.rfl
  case coverage => rw [hshort, decide_eq_true_eq, ← hde]

end Sys2Proof.Machine
end
